-- ==== Sys2Proof/Word.lean ====
section
/-! DEFINITION. The widths of what crosses the KV4820's two serial lines: a character carries one
byte (R203, R204), and a value of two characters is a half word. -/

namespace Sys2Proof

/-- One character on either line. -/
abbrev Byte := BitVec 8

/-- A wrapping 16-bit count or a two-byte field: cycle number, revision, command id. -/
abbrev Half := BitVec 16

/-- The one-byte character that carries a number (its low 8 bits). -/
abbrev byte (n : Nat) : Byte := BitVec.ofNat 8 n

/-- The two-byte field that carries a number (its low 16 bits). -/
abbrev half (n : Nat) : Half := BitVec.ofNat 16 n

end Sys2Proof
end

