-- ==== Sys2Proof/Config.lean ====
section
/-! DEFINITION. What the part fixes: the capacities and limits that no configuration changes
(00_scope.md, Outline), each with the rule that states it. The spec leaves no number of a
result open, so no uninterpreted constant stands here; the orders it leaves open are plain data
in State (assumption log 4). -/

namespace Sys2Proof.Config

/-- Greatest dose count, lux·s (R78): the counts saturate here. -/
def doseMax : Nat := 2 ^ 48 - 1
/-- The date watch's limit in seconds (R79, R91). -/
def dateWatchLimit : Nat := 93600
/-- lux·s per lux·h (R78, 00 Units). -/
def luxSecondsPerLuxHour : Nat := 3600
/-- lux·s per klux·h (R78, 00 Units). -/
def luxSecondsPerKluxHour : Nat := 3600000
/-- Messages the holding buffer holds (R154). -/
def holdingCapacity : Nat := 4
/-- Keyed entries the notice board holds (R161). -/
def keyedCapacity : Nat := 63
/-- Greatest merge count of a board entry (R161). -/
def mergeMax : Nat := 255
/-- Entries an action queue holds (R122). -/
def actionQueueCapacity : Nat := 4
/-- Greatest all-vacant count (R107). -/
def vacantCountMax : Nat := 255
/-- Greatest count of cycles since last call (R122). -/
def sinceCallMax : Nat := 255
/-- Greatest duration of an excursion tracker (R183). -/
def durationMax : Nat := 65535
/-- Greatest value of a histogram bin (R184). -/
def binMax : Nat := 2 ^ 32 - 1
/-- Characters of a Fieldline call or answer (R203). -/
def groupLength : Nat := 6
/-- Greatest body length of a building-link frame (R204). -/
def bodyMax : Nat := 250
/-- Start code of a building-link frame, A5h (R204). -/
def startCode : Byte := 0xA5#8
/-- Header code of a Fieldline cycle, 3Ch (R203). -/
def headerCode : Byte := 0x3C#8
/-- The building controller's link address (R166). -/
def controllerAddress : Byte := 0#8

end Sys2Proof.Config
end

