-- ==== Sys2Proof/Machine/Tab.lean ====
section
/-! DEFINITION. A table of a fixed number of like records, indexed from 0 (R29 to R34, R78, R107):
a list that carries its length, so that every index below the length names a record. -/

namespace Sys2Proof.Machine

/-- A list of exactly `n` entries. -/
structure Tab (α : Type) (n : Nat) where
  toList : List α
  size_eq : toList.length = n
  deriving DecidableEq, Repr

/-- The entry at an index. -/
def Tab.get {α : Type} {n : Nat} (t : Tab α n) (i : Fin n) : α :=
  t.toList.get (i.cast t.size_eq.symm)

/-- The table with one entry replaced. -/
def Tab.set {α : Type} {n : Nat} (t : Tab α n) (i : Fin n) (a : α) : Tab α n :=
  ⟨t.toList.set i.val a, by rw [List.length_set]; exact t.size_eq⟩

/-- The table with every entry equal. -/
def Tab.fill {α : Type} (n : Nat) (a : α) : Tab α n :=
  ⟨List.replicate n a, List.length_replicate⟩

/-- The table whose entry at `i` is `f i`. -/
def Tab.build {α : Type} (n : Nat) (f : Fin n → α) : Tab α n :=
  ⟨(List.finRange n).map f, by rw [List.length_map, List.length_finRange]⟩

/-- The table with a function of the index applied to each entry. -/
def Tab.mapIdx {α β : Type} {n : Nat} (t : Tab α n) (f : Fin n → α → β) : Tab β n :=
  Tab.build n fun i => f i (t.get i)

/-- The indices, in ascending order, whose entry satisfies a test. -/
def Tab.indices {α : Type} {n : Nat} (t : Tab α n) (p : Fin n → α → Bool) : List (Fin n) :=
  (List.finRange n).filter fun i => p i (t.get i)

/-- The lowest index whose entry satisfies a test. -/
def Tab.find? {α : Type} {n : Nat} (t : Tab α n) (p : Fin n → α → Bool) : Option (Fin n) :=
  (List.finRange n).find? fun i => p i (t.get i)

/-- Whether some entry satisfies a test. -/
def Tab.any {α : Type} {n : Nat} (t : Tab α n) (p : Fin n → α → Bool) : Bool :=
  (List.finRange n).any fun i => p i (t.get i)

/-- A number as an index below `n`, where it is one. -/
def finOf (n : Nat) (k : Nat) : Option (Fin n) :=
  if h : k < n then some ⟨k, h⟩ else none

end Sys2Proof.Machine
end

