-- ==== Sys2Proof/Machine/Types.lean ====
section
/-! DEFINITION. The named values of the manual, the records of the six tables (R29 to R34) and the
items of the nonvolatile store (R193). Every enumeration lists its values in the order that gives
their codes (R205). A keyword of Lean cannot name a constructor, so OPEN is written `open_`. -/

namespace Sys2Proof.Machine

/-! ## Quantities and classes -/

/-- A condition quantity (00, Conventions). -/
inductive CondQ where
  | temp | rh | lux | uv
  deriving DecidableEq, Repr

/-- A sensor quantity (R30). -/
inductive Quantity where
  | temp | rh | lux | uv | presence | outdoor
  deriving DecidableEq, Repr

/-- One value for each condition quantity. -/
structure PerQ (α : Type) where
  temp : α
  rh : α
  lux : α
  uv : α
  deriving DecidableEq, Repr

/-- Class of a sample or slot (R59, R60). -/
inductive Class where
  | normal | warnLo | warnHi | alarmLo | alarmHi
  deriving DecidableEq, Repr

/-- Class of one side of a zone condition entry, and peak severity (R52, R183). -/
inductive SideClass where
  | normal | warn | alarm
  deriving DecidableEq, Repr

/-- Coverage of a zone condition entry (R52). -/
inductive Coverage where
  | none | live | blind
  deriving DecidableEq, Repr

/-- Health of a sensor record (R51). -/
inductive Health where
  | noData | live | stale
  deriving DecidableEq, Repr

/-- A side of a condition quantity named by CLEAR LATCH (R70). -/
inductive Side where
  | low | high
  deriving DecidableEq, Repr

/-! ## Actuators -/

/-- Actuator kind (R30). -/
inductive ActKind where
  | luminaire | humidifier | climate | shade
  deriving DecidableEq, Repr

/-- Action code of an ACTION (R126, R203). -/
inductive ActionCode where
  | restart | identify | selfTest
  deriving DecidableEq, Repr

/-- Link state of an actuator (R139). -/
inductive LinkState where
  | unknown | online | suspect | lost
  deriving DecidableEq, Repr

/-- Outcome of a taken command (section 6.4). -/
inductive CommandOutcome where
  | done | superseded | failed | withdrawn | lost
  deriving DecidableEq, Repr

/-! ## Zones and accounts -/

/-- Presence state of a zone (R107). -/
inductive Presence where
  | occupied | vacantPending | vacant
  deriving DecidableEq, Repr

/-- Why a ceiling has its value (R115). -/
inductive CeilingReason where
  | table | restVacant | restDose
  deriving DecidableEq, Repr

/-- State of a dose account (R78). -/
inductive AccountState where
  | idle | open_ | dailySpent | annualSpent | suspended
  deriving DecidableEq, Repr

/-- A date of the ledger (R79). -/
structure Date where
  year : Nat
  day : Nat
  deriving DecidableEq, Repr

/-! ## Control -/

/-- FLC controller state (R2). -/
inductive FlcState where
  | stopped | mark | header | slot | closed
  deriving DecidableEq, Repr

/-- Phase inside a slot (R8). -/
inductive Phase where
  | calling | window | receiving | guard | ignoring | silent
  deriving DecidableEq, Repr

/-- Commit state of the Table Unit (R39). -/
inductive CommitState where
  | idle | pendingSwap | storing
  deriving DecidableEq, Repr

/-- Access level, in rising order (R170). -/
inductive Level where
  | observe | operate | commission
  deriving DecidableEq, Repr

/-- Store state (R194). -/
inductive StoreState where
  | idle | writingConfig | writingRecord | failed
  deriving DecidableEq, Repr

/-- Start-up state (R194). -/
inductive StartState where
  | starting | running | fallback
  deriving DecidableEq, Repr

/-- Kind of a reset (R198). -/
inductive ResetCause where
  | power | pin | restart
  deriving DecidableEq, Repr

/-- Tracker state (R183). -/
inductive TrackerState where
  | closed | open_
  deriving DecidableEq, Repr

/-- How an excursion ended (R183). -/
inductive Ending where
  | counted | notSelected | discarded
  deriving DecidableEq, Repr

/-- Receive state of the building link (R150). -/
inductive RxState where
  | disabled | hunting | inFrame
  deriving DecidableEq, Repr

/-- A status of a REPLY or RESULT, in code order (R205). -/
inductive Status where
  | ok | accepted | taken | denied | busy | range | invalid | notRunning | unknownRequest
  | linkLost | noLink | stillActive | suspended | notEnabled | unknownNode | notActuator
  | noReference | actuatorLost | queueFull
  deriving DecidableEq, Repr

/-- The request kinds in the order of R172, which gives their codes 1 to 18 (R205). -/
inductive ReqKind where
  | readRecord | readState | linkReadAccount | readFault | clearLatch | holdOccupied
  | releaseHold | grantExtension | statsControl | statsClear | clearFault | writeRecord
  | discardStaged | commit | suspendAccount | resumeAccount | seedAccount | restart
  deriving DecidableEq, Repr

/-- The six tables (R28), in code order. -/
inductive TableId where
  | bus | slotMap | zone | drift | account | requester
  deriving DecidableEq, Repr

/-- Check names of commit validation, in code order (R40 to R42, R205). -/
inductive CheckName where
  | noSlots | fieldRange | slotShape | bandOrder | restLevel | nodeDuplicate | zoneDisabled
  | accountMismatch | accountSlots | presenceSlots | outdoorSlots | curveNoOutdoor | curveStep
  | requesterDuplicate
  deriving DecidableEq, Repr

/-- The blocks that take cycle close or a swap (R23, R44). -/
inductive Block where
  | dau | zcu | cmu | xsu | tbu | bli | cgu
  deriving DecidableEq, Repr

/-! ## Table records

A field is `none` where it is absent (R205). Field values are held as written, in range or not
(section 2.2), so an enumerated field is held as its code. -/

/-- The Bus Parameters record (R29). The notice mask has 16 enables, ZONE_CONDITION in bit 0. -/
structure BusRec where
  cycleInterval : Option Nat
  staleLimit : Option Nat
  missLimit : Option Nat
  keepAlive : Option Nat
  checkpoint : Option Nat
  mask : BitVec 16
  deriving DecidableEq, Repr

/-- A Slot Map record (R30). -/
structure SlotRec where
  use : Option Nat
  node : Option Nat
  quantity : Option Nat
  kind : Option Nat
  zone : Option Nat
  account : Option Nat
  deriving DecidableEq, Repr

/-- A Zone Table record (R31). -/
structure ZoneRec where
  enabled : Option Nat
  tempAlarmLo : Option Int
  tempWarnLo : Option Int
  tempWarnHi : Option Int
  tempAlarmHi : Option Int
  rhMode : Option Nat
  rhAlarmLo : Option Nat
  rhWarnLo : Option Nat
  rhWarnHi : Option Nat
  rhAlarmHi : Option Nat
  rhWarnHalf : Option Nat
  rhAlarmHalf : Option Nat
  luxWarnHi : Option Nat
  luxAlarmHi : Option Nat
  uvWarnHi : Option Nat
  uvAlarmHi : Option Nat
  luxCeiling : Option Nat
  restLevel : Option Nat
  restOnVacancy : Option Nat
  vacancyHold : Option Nat
  rhStep : Option Nat
  tempStep : Option Nat
  latch : PerQ (Option Nat)
  notice : PerQ (Option Nat)
  deriving DecidableEq, Repr

/-- An Account Table record (R33). -/
structure AccountRec where
  enabled : Option Nat
  zone : Option Nat
  budget : Option Nat
  allowance : Option Nat
  spend : Option Nat
  deriving DecidableEq, Repr

/-- A Requester Table record (R34). -/
structure RequesterRec where
  used : Option Nat
  address : Option Nat
  level : Option Nat
  deriving DecidableEq, Repr

/-- The six tables (R28). -/
structure Tables where
  bus : BusRec
  slots : Tab SlotRec 48
  zones : Tab ZoneRec 16
  drift : Tab (Option Nat) 35
  accounts : Tab AccountRec 64
  requesters : Tab RequesterRec 8
  deriving DecidableEq, Repr

/-- A record of one table, as READ RECORD carries it (R36). -/
inductive TableRecord where
  | bus (r : BusRec)
  | slot (r : SlotRec)
  | zone (r : ZoneRec)
  | drift (centre : Option Nat)
  | account (r : AccountRec)
  | requester (r : RequesterRec)
  deriving DecidableEq, Repr

/-! ## Items of the nonvolatile store -/

/-- The fields of an account record of the store, its check code apart (R193). -/
structure AccountItem where
  account : Nat
  date : Option Date
  usedToday : Nat
  usedYear : Nat
  extension : Nat
  suspended : Bool
  deriving DecidableEq, Repr

/-- One item of the store: its contents with the check code stored beside them, or an item of
which only this is known, that its check fails: never written (R193), or torn by a reset (R198).
The bytes of such an item are stated nowhere (assumption log 8). -/
inductive StoredItem (α : Type) where
  | held (contents : α) (check : Half)
  | failing
  deriving DecidableEq, Repr

/-- What the verify read of a write finds (R197). On a disagreement the item holds what the write
left, which the spec leaves open: the event carries it (assumption log 8). -/
inductive VerifyRead (α : Type) where
  | agrees
  | disagrees (left : StoredItem α)
  deriving DecidableEq, Repr

end Sys2Proof.Machine
end

