-- ==== Sys2Proof/Syntax.lean ====
section
/-! DEFINITION. The commands: one constructor per row of spec/opcode_table.json, in the table's
order. A row is an event that reaches the part; its operands are what the event brings with it
from outside. -/

namespace Sys2Proof

open Sys2Proof.Machine

/-- Where a message comes from: the source address in its frame (R153), and the level of the
COMMISSION pin at the event, which R170 samples at each taking (assumption log 6). -/
structure Origin where
  source : Byte
  commission : Bool
  deriving DecidableEq, Repr

/-- A command: one row of spec/opcode_table.json. In a request row `fields` is the body after the
request code, of any length (R171, R205). -/
inductive Instr where
  /-- R198; `resetAsserted` is the level of RESET_N at the rise of the supply. -/
  | powerReset (resetAsserted : Bool)
  /-- R198. -/
  | pinReset
  /-- R198. -/
  | pinResetRelease
  /-- R181. -/
  | restartReset
  /-- R199; the levels of ADDR3..ADDR0, read if start-up ends here (R151). -/
  | configurationImageRead (addr : BitVec 4)
  /-- R201; the levels of ADDR3..ADDR0, read if start-up ends here (R151). -/
  | accountRecordRead (addr : BitVec 4)
  /-- R4. -/
  | cycleTimerExpiry
  /-- R6. -/
  | markEnd
  /-- R7. -/
  | headerEnd
  /-- R13. -/
  | collided
  /-- R13. -/
  | callComplete
  /-- R14. -/
  | answerWindowExpiry
  /-- R14. -/
  | answerStart
  /-- R15; the character, and whether its stop bit was recessive (R9). -/
  | answerCharacter (framed : Bool) (char : Byte)
  /-- R15. -/
  | answerBreak
  /-- R17. -/
  | overlong
  /-- R19. -/
  | fieldNoise
  /-- R20. -/
  | slotEnd
  /-- R141: the slot end that takes the slot's actuator to M misses. -/
  | actuatorLost
  /-- R65: the cycle close that makes the sensor of a slot STALE. -/
  | sensorStale (slot : Fin 48)
  /-- R91: the cycle close that brings the date watch to 93,600 s. -/
  | dateWatchExpiry
  /-- R100: the cycle close that brings the checkpoint counter to its interval. -/
  | checkpoint
  /-- R111: the cycle close that makes a zone VACANT. -/
  | vacancyHoldReached (zone : Fin 16)
  /-- R114: the cycle close that ends a zone's hold. -/
  | holdExpiry (zone : Fin 16)
  /-- R197. -/
  | configurationWriteComplete (verify : VerifyRead Tables)
  /-- R197. -/
  | accountRecordWriteComplete (verify : VerifyRead AccountItem)
  /-- R152; the character, whether its stop bit was at the idle level, and the COMMISSION level. -/
  | blCharacterReceived (framed : Bool) (char : Byte) (commission : Bool)
  /-- R152. -/
  | frameGapTimeout
  /-- R166; the COMMISSION level, sampled by the takings that follow (R155, R170). -/
  | transmissionEnd (commission : Bool)
  /-- R127. -/
  | commandSet (origin : Origin) (id : Half) (node : Byte) (value : Half)
  /-- R128. -/
  | commandAction (origin : Origin) (id : Half) (node : Byte) (code : Half)
  /-- R87; the body, of any length (R204). -/
  | time (origin : Origin) (body : List Byte)
  /-- R157. -/
  | unknownMessageKind (origin : Origin) (kind : Byte) (body : List Byte)
  /-- R171; the whole body: empty, or with an unknown request code first. -/
  | unknownRequest (origin : Origin) (body : List Byte)
  /-- R36. -/
  | readRecord (origin : Origin) (fields : List Byte)
  /-- R174. -/
  | readState (origin : Origin) (fields : List Byte)
  /-- R93. -/
  | linkReadAccount (origin : Origin) (fields : List Byte)
  /-- R178. -/
  | readFault (origin : Origin) (fields : List Byte)
  /-- R70. -/
  | clearLatch (origin : Origin) (fields : List Byte)
  /-- R112. -/
  | holdOccupied (origin : Origin) (fields : List Byte)
  /-- R113. -/
  | releaseHold (origin : Origin) (fields : List Byte)
  /-- R94. -/
  | grantExtension (origin : Origin) (fields : List Byte)
  /-- R189. -/
  | statsControl (origin : Origin) (fields : List Byte)
  /-- R190. -/
  | statsClear (origin : Origin) (fields : List Byte)
  /-- R179. -/
  | clearFault (origin : Origin) (fields : List Byte)
  /-- R37. -/
  | writeRecord (origin : Origin) (fields : List Byte)
  /-- R38. -/
  | discardStaged (origin : Origin) (fields : List Byte)
  /-- R40. -/
  | commit (origin : Origin) (fields : List Byte)
  /-- R97. -/
  | suspendAccount (origin : Origin) (fields : List Byte)
  /-- R98. -/
  | resumeAccount (origin : Origin) (fields : List Byte)
  /-- R99. -/
  | seedAccount (origin : Origin) (fields : List Byte)
  /-- R180. -/
  | restart (origin : Origin) (fields : List Byte)
  /-- R126; the whole body: not of the COMMAND length, or of neither kind. -/
  | commandNeitherSetNorAction (origin : Origin) (body : List Byte)
  deriving DecidableEq, Repr

end Sys2Proof
end

