-- ==== Sys2Proof/Machine/State.lean ====
section
/-! DEFINITION. The state of the part, block by block, with the value every item takes after a reset,
as plain data. The item lists are R1, R27, R51, R52, R78 to R80, R107, R108, R122, R150, R169, R183,
R184, R193 and R194. -/

namespace Sys2Proof.Machine

open Sys2Proof

/-! ## Fieldline Controller (R1) -/

/-- The contents of a GOOD answer (R16). -/
inductive Answer where
  | sample (value : Int) (fault warming calDue : Bool)
  | status (value : Int) (fault : Bool)
  | echo (tag : BitVec 3) (value : Int) (fault : Bool)
  | notReady
  deriving DecidableEq, Repr

/-- The classification of a complete answer before the guard time ends (R16). -/
inductive Provisional where
  | good (a : Answer)
  | garbled
  | wrongNode
  deriving DecidableEq, Repr

/-- The outcome of a slot, with what is kept of a GOOD answer (R18). -/
inductive SlotOutcome where
  | good (a : Answer)
  | missing
  | garbled
  | wrongNode
  | overlong
  | collided
  | skipped
  deriving DecidableEq, Repr

/-- A slot results entry; `outcome` is absent while PENDING (R1). -/
structure SlotResult where
  slot : Fin 48
  outcome : Option SlotOutcome
  deriving DecidableEq, Repr

/-- The call being sent in a slot (R12). -/
inductive Call where
  | poll
  | set (value : Int) (tag : BitVec 3)
  | action (code : ActionCode) (tag : BitVec 3)
  deriving DecidableEq, Repr

/-- What FL_TXD carries: the recessive level, the cycle mark (R6), or a group of characters. -/
inductive FlTx where
  | recessive
  | mark
  | characters (cs : List Byte)
  deriving DecidableEq, Repr

/-- State of the Fieldline Controller (R1). `settled` holds an outcome settled before the slot's end
(R13 to R17) and `noise` whether FIELD_NOISE was posted in this slot (R19): both implied by the
rules, not listed in R1 (assumption log 18). -/
structure Flc where
  state : FlcState
  cycle : Half
  timer : Option Nat
  slotCount : Option Nat
  slot : Option (Fin 48)
  phase : Option Phase
  call : Option Call
  answer : List Byte
  provisional : Option Provisional
  settled : Option SlotOutcome
  noise : Bool
  results : List SlotResult
  driverEnable : Bool
  txd : FlTx
  deriving DecidableEq, Repr

/-- R1, last column; R26 for the pins. -/
def Flc.reset : Flc where
  state := .stopped
  cycle := 0#16
  timer := none
  slotCount := none
  slot := none
  phase := none
  call := none
  answer := []
  provisional := none
  settled := none
  noise := false
  results := []
  driverEnable := false
  txd := .recessive

/-! ## Table Unit (R27) -/

/-- State of the Table Unit (R27). -/
structure Tbu where
  active : Tables
  staged : Tables
  commit : CommitState
  swapCycle : Option Half
  deriving DecidableEq, Repr

/-- The blank tables (R35). -/
def Tables.blank : Tables where
  bus := { cycleInterval := some 10, staleLimit := some 3, missLimit := some 3,
           keepAlive := some 30, checkpoint := some 900, mask := 0xFFFF#16 }
  slots := Tab.fill 48
    { use := some 0, node := none, quantity := none, kind := none, zone := none, account := none }
  zones := Tab.fill 16
    { enabled := some 0
      tempAlarmLo := none, tempWarnLo := none, tempWarnHi := none, tempAlarmHi := none
      rhMode := none
      rhAlarmLo := none, rhWarnLo := none, rhWarnHi := none, rhAlarmHi := none
      rhWarnHalf := none, rhAlarmHalf := none
      luxWarnHi := none, luxAlarmHi := none, uvWarnHi := none, uvAlarmHi := none
      luxCeiling := none, restLevel := none, restOnVacancy := none, vacancyHold := none
      rhStep := none, tempStep := none
      latch := ⟨none, none, none, none⟩, notice := ⟨none, none, none, none⟩ }
  drift := Tab.fill 35 (some 500)
  accounts := Tab.fill 64
    { enabled := some 0, zone := none, budget := none, allowance := none, spend := none }
  requesters := Tab.fill 8 { used := some 0, address := none, level := none }

/-- R27. Both copies are loaded by start-up; the blank tables stand in them while the part is
STARTING, when no block reads them (assumption log 9). -/
def Tbu.reset : Tbu where
  active := Tables.blank
  staged := Tables.blank
  commit := .idle
  swapCycle := none

/-! ## Condition Monitor (R51, R52) -/

/-- A sensor record (R51). `candidate` is the candidate class of a TEMP, RH, LUX or UV record,
`bandCandidate` the candidate band of the OUTDOOR record. -/
structure SensorRecord where
  node : Nat
  quantity : Quantity
  health : Health
  missed : Nat
  value : Option Int
  calDue : Bool
  cls : Option Class
  candidate : Option Class
  bandCandidate : Option (Fin 35)
  got : Bool
  deriving DecidableEq, Repr

/-- A fresh record (R51, last column). -/
def SensorRecord.fresh (node : Nat) (q : Quantity) : SensorRecord where
  node := node
  quantity := q
  health := .noData
  missed := 0
  value := none
  calDue := false
  cls := none
  candidate := none
  bandCandidate := none
  got := false

/-- A zone condition entry (R52). The low side and low latch of a LUX or UV entry stay NORMAL and
clear: those quantities have none. -/
structure ZoneCond where
  low : SideClass
  high : SideClass
  coverage : Coverage
  lowLatch : Bool
  highLatch : Bool
  deriving DecidableEq, Repr

/-- A fresh entry (R52, last column). -/
def ZoneCond.fresh : ZoneCond := ⟨.normal, .normal, .none, false, false⟩

/-- State of the Condition Monitor. A sensor record stands at the index of its slot. -/
structure Cmu where
  sensors : Tab (Option SensorRecord) 48
  conds : Tab (PerQ ZoneCond) 16
  band : Option (Fin 35)
  alert : Bool
  deriving DecidableEq, Repr

/-- R53. -/
def Cmu.reset : Cmu where
  sensors := Tab.fill 48 none
  conds := Tab.fill 16 ⟨.fresh, .fresh, .fresh, .fresh⟩
  band := none
  alert := false

/-! ## Dose Account Unit (R78 to R80) -/

/-- An account's dynamic record (R78). -/
structure AccountDyn where
  state : AccountState
  usedToday : Nat
  usedYear : Nat
  extension : Nat
  peak : Option Nat
  last : Nat
  revision : Half
  restoreFailed : Bool
  deriving DecidableEq, Repr

/-- R78, last column. -/
def AccountDyn.reset : AccountDyn := ⟨.idle, 0, 0, 0, none, 0, 0#16, false⟩

/-- The fields of a link monitor entry that is not FREE (R80). -/
structure MonitorEntry where
  requester : Byte
  account : Fin 64
  revision : Half
  order : Nat
  deriving DecidableEq, Repr

/-- A link monitor entry: FREE, or held as OPEN or LAPSED (R80). -/
inductive Monitor where
  | free
  | open_ (e : MonitorEntry)
  | lapsed (e : MonitorEntry)
  deriving DecidableEq, Repr

/-- State of the Dose Account Unit. -/
structure Dau where
  accounts : Tab AccountDyn 64
  ledger : Option Date
  dateWatch : Nat
  dateStale : Bool
  checkpointCounter : Nat
  monitors : Tab Monitor 4
  deriving DecidableEq, Repr

/-- R78 to R80. -/
def Dau.reset : Dau where
  accounts := Tab.fill 64 .reset
  ledger := none
  dateWatch := 0
  dateStale := false
  checkpointCounter := 0
  monitors := Tab.fill 4 .free

/-! ## Zone Ceiling Unit (R107, R108) -/

/-- A zone record of the ZCU (R107). -/
structure ZoneDyn where
  presence : Presence
  count : Nat
  hold : Option Nat
  ceiling : Option Nat
  reason : Option CeilingReason
  deriving DecidableEq, Repr

/-- R107, last column. -/
def ZoneDyn.reset : ZoneDyn := ⟨.occupied, 0, none, none, none⟩

/-- State of the Zone Ceiling Unit; a vacant-seen flag stands at the index of its slot. -/
structure Zcu where
  zones : Tab ZoneDyn 16
  vacantSeen : Tab Bool 48
  deriving DecidableEq, Repr

/-- R107, R108. -/
def Zcu.reset : Zcu where
  zones := Tab.fill 16 .reset
  vacantSeen := Tab.fill 48 false

/-! ## Command Gate (R122) -/

/-- What an in-flight entry has called (R122). -/
inductive InFlightKind where
  | set (value : Int) (id : Option Half)
  | action (code : ActionCode) (id : Half)
  deriving DecidableEq, Repr

/-- An in-flight entry (R122). -/
structure InFlight where
  tag : BitVec 3
  kind : InFlightKind
  deriving DecidableEq, Repr

/-- An action queue entry (R122). -/
structure QueuedAction where
  id : Half
  code : ActionCode
  deriving DecidableEq, Repr

/-- An actuator record (R122). -/
structure ActuatorRecord where
  node : Nat
  kind : ActKind
  zone : Fin 16
  slot : Fin 48
  link : LinkState
  miss : Nat
  delivered : Option Int
  target : Option Int
  latestSet : Option Half
  inFlight : Option InFlight
  queue : List QueuedAction
  nextTag : BitVec 3
  sinceCall : Nat
  deriving DecidableEq, Repr

/-- A fresh record (R122, last column). -/
def ActuatorRecord.fresh (node : Nat) (kind : ActKind) (zone : Fin 16) (slot : Fin 48) :
    ActuatorRecord where
  node := node
  kind := kind
  zone := zone
  slot := slot
  link := .unknown
  miss := 0
  delivered := none
  target := none
  latestSet := none
  inFlight := none
  queue := []
  nextTag := 0#3
  sinceCall := 0

/-- State of the Command Gate; a record stands at the index of its slot. -/
structure Cgu where
  actuators : Tab (Option ActuatorRecord) 48
  deriving DecidableEq, Repr

/-- R123. -/
def Cgu.reset : Cgu := ⟨Tab.fill 48 none⟩

/-! ## Excursion Statistics Unit (R183, R184) -/

/-- An excursion tracker (R183). -/
structure Tracker where
  state : TrackerState
  duration : Nat
  peak : Option SideClass
  ending : Option Ending
  deriving DecidableEq, Repr

/-- A fresh tracker (R183, last column). -/
def Tracker.fresh : Tracker := ⟨.closed, 0, none, none⟩

/-- A bin of a histogram with its saturated flag (R184). -/
structure Bin where
  count : Nat
  saturated : Bool
  deriving DecidableEq, Repr

/-- State of the Excursion Statistics Unit. Zone 15 and bin 7 stand in the most significant bits. -/
structure Xsu where
  trackers : Tab (PerQ Tracker) 16
  enable : Bool
  zoneMask : BitVec 16
  combine : PerQ (BitVec 8)
  histograms : PerQ (Tab Bin 8)
  deriving DecidableEq, Repr

/-- R183, R184. -/
def Xsu.reset : Xsu where
  trackers := Tab.fill 16 ⟨.fresh, .fresh, .fresh, .fresh⟩
  enable := false
  zoneMask := 0xFFFF#16
  combine := ⟨0#8, 0#8, 0#8, 0#8⟩
  histograms :=
    ⟨Tab.fill 8 ⟨0, false⟩, Tab.fill 8 ⟨0, false⟩, Tab.fill 8 ⟨0, false⟩, Tab.fill 8 ⟨0, false⟩⟩

/-! ## Nonvolatile Store Controller (R194) and the store (R193) -/

/-- A store write in progress, with what it writes (R194). -/
inductive Write where
  | config (image : Tables)
  | record (account : Fin 64) (captured : AccountItem)
  deriving DecidableEq, Repr

/-- What start-up reads next while STARTING (R199, R201; assumption log 18). -/
inductive ReadStep where
  | image
  | record (k : Fin 64)
  deriving DecidableEq, Repr

/-- State of the Nonvolatile Store Controller (R194). -/
structure Nvs where
  state : StoreState
  pendingConfig : Bool
  pendingAccounts : Tab Bool 64
  write : Option Write
  start : StartState
  reading : ReadStep
  cause : Option ResetCause
  deriving DecidableEq, Repr

/-- R194, last column. -/
def Nvs.reset (cause : ResetCause) : Nvs where
  state := .idle
  pendingConfig := false
  pendingAccounts := Tab.fill 64 false
  write := none
  start := .starting
  reading := .image
  cause := some cause

/-- The nonvolatile store (R193). -/
structure Store where
  image : StoredItem Tables
  records : Tab (StoredItem AccountItem) 64
  deriving DecidableEq, Repr

/-- A store that has never been written (R193). -/
def Store.unwritten : Store := ⟨.failing, Tab.fill 64 .failing⟩

/-! ## Management Request Handler (R169) -/

/-- The kind of a refused message (R177). -/
inductive DeniedKind where
  | command
  | time
  | request (k : ReqKind)
  deriving DecidableEq, Repr

/-- The access fault record when it is not empty (R169). The subject is the bytes copied from the
body as it arrived (R172), or none. -/
structure AccessFault where
  address : Byte
  kind : DeniedKind
  subject : Option (List Byte)
  further : Bool
  deriving DecidableEq, Repr

/-- State of the Management Request Handler (R169). -/
structure Mrh where
  fault : Option AccessFault
  restartPending : Bool
  deriving DecidableEq, Repr

/-- R169, last column. -/
def Mrh.reset : Mrh := ⟨none, false⟩

/-! ## Building Link Interface (R150) -/

/-- SENSOR_HEALTH's field (R161 table). -/
inductive HealthField where
  | live | stale
  deriving DecidableEq, Repr

/-- SENSOR_FLAG's field. -/
inductive FlagField where
  | fault | calDue
  deriving DecidableEq, Repr

/-- ACTUATOR_STATE's field. -/
inductive ActStateField where
  | lost | back
  deriving DecidableEq, Repr

/-- CLOCK's field. -/
inductive ClockField where
  | regress | stale
  deriving DecidableEq, Repr

/-- LINK_ERROR's field. -/
inductive LinkField where
  | badCheck | overflow
  deriving DecidableEq, Repr

/-- COMMIT's field. -/
inductive CommitField where
  | done | notStored | storeFailed
  deriving DecidableEq, Repr

/-- A notice: its kind, subject and fields (table of section 7.5). STORE carries FAULT, its one
value. -/
inductive Notice where
  | zoneCondition (zone : Fin 16) (q : CondQ) (entry : ZoneCond)
  | zoneCeiling (zone : Fin 16) (ceiling : Option Nat) (reason : Option CeilingReason)
  | sensorHealth (slot : Fin 48) (f : HealthField)
  | sensorFlag (slot : Fin 48) (f : FlagField)
  | fieldNoise (slot : Fin 48)
  | actuatorState (node : Nat) (f : ActStateField)
  | actuatorFault (node : Nat)
  | commandOutcome (node : Nat) (id : Half) (outcome : CommandOutcome)
  | accountState (account : Fin 64) (state : AccountState) (usedToday usedYear : Nat)
  | clock (f : ClockField)
  | excursion (q : CondQ) (zone : Fin 16) (bin : Fin 8) (peak : Option SideClass)
  | accessFault
  | linkError (f : LinkField)
  | commit (f : CommitField)
  | storeFault
  | start (cause : Option ResetCause) (outcome : StartState)
  | boardFull
  deriving DecidableEq, Repr

/-- A notice board entry (R161). -/
structure BoardEntry where
  notice : Notice
  merge : Nat
  deriving DecidableEq, Repr

/-- A good message for the part (R154). -/
structure Message where
  source : Byte
  kind : Byte
  body : List Byte
  deriving DecidableEq, Repr

/-- Why a sample was refused (R55). -/
inductive RefuseReason where
  | fault | warming | range
  deriving DecidableEq, Repr

/-- Acceptance of a GOOD result's sample (R58). -/
inductive Acceptance where
  | accepted
  | refused (reason : RefuseReason)
  deriving DecidableEq, Repr

/-- The standing a slot's result leaves (R58). -/
inductive Standing where
  | cls (c : Option Class)
  | band (b : Option (Fin 35))
  | presence (vacant : Bool)
  deriving DecidableEq, Repr

/-- A slot's report standing (R58, R158). -/
structure ReportStanding where
  slot : Fin 48
  acceptance : Option Acceptance
  standing : Standing
  deriving DecidableEq, Repr

/-- One entry of a REPORT (R159). -/
structure ReportEntry where
  slot : Fin 48
  outcome : Option SlotOutcome
  acceptance : Option Acceptance
  value : Option Int
  standing : Standing
  deriving DecidableEq, Repr

/-- A REPORT (R159). -/
structure Report where
  cycle : Half
  entries : List ReportEntry
  deriving DecidableEq, Repr

/-- What a RESULT carries beyond id and status (R127, R128). -/
inductive ResultExtra where
  | nothing
  | set (effective : Option Int) (clamped deferred : Bool)
  | action (count : Nat)
  deriving DecidableEq, Repr

/-- A RESULT (R126). -/
structure CmdResult where
  id : Half
  status : Status
  extra : ResultExtra
  deriving DecidableEq, Repr

/-- What READ STATE returns of its subject (R175). -/
inductive Reading where
  | cycle (state : FlcState) (cycle : Half) (slotCount : Option Nat) (timer : Option Nat)
  | commit (state : CommitState) (swapCycle : Option Half) (equal : Bool)
  | sensor (r : Option (Quantity × Option (Fin 16) × SensorRecord))
  | zoneCondition (enabled : Bool) (q : CondQ) (entry : ZoneCond) (shadeForced : Bool)
  | outdoor (band candidate : Option (Fin 35)) (centre : Option Nat)
  | zone (z : ZoneDyn) (vacancyHold : Option Nat) (flags : List (Fin 48 × Bool))
  | account (a : AccountDyn)
  | ledger (date : Option Date) (watch : Nat) (stale : Bool) (counter : Nat)
      (monitors : Tab Monitor 4)
  | actuator (r : Option (ActuatorRecord × Option Int))
  | excursion (t : Tracker)
  | histogram (h : Tab Bin 8)
  | stats (enable : Bool) (zoneMask : BitVec 16) (combine : PerQ (BitVec 8))
  | store (state : StoreState) (pendingConfig : Bool) (pending : List (Fin 64))
      (start : StartState)
  | link (own : Byte) (holding keyed : Nat) (boardFull reportHeld : Bool)
  | access (level : Level) (pin : Bool) (entry : Option (Fin 8))
  deriving DecidableEq, Repr

/-- What a REPLY carries beyond request code and status. -/
inductive Contents where
  | nothing
  | records (table : TableId) (first : Nat) (recs : List TableRecord)
  | reading (flc : FlcState) (cycle : Half) (r : Reading)
  | account (config : AccountRec) (a : AccountDyn)
  | fault (r : Option AccessFault)
  | zone (z : ZoneDyn)
  | grant (extension : Nat) (revision : Half) (state : AccountState)
  | stats (enable : Bool) (zoneMask : BitVec 16) (combine : PerQ (BitVec 8))
  | invalid (table : TableId) (index : Nat) (check : CheckName)
  deriving DecidableEq, Repr

/-- A REPLY (R171); the code is 0 for an unknown message kind or an empty body (R205). -/
structure Reply where
  code : Byte
  status : Status
  contents : Contents
  deriving DecidableEq, Repr

/-- The answer to a taken message, waiting in the reply slot (R150). -/
inductive Answering where
  | result (r : CmdResult)
  | reply (r : Reply)
  deriving DecidableEq, Repr

/-- A RESULT or REPLY with its destination (R156). -/
structure ReplyMsg where
  dest : Byte
  answer : Answering
  deriving DecidableEq, Repr

/-- An outbound message (R165). -/
inductive OutMsg where
  | answer (m : ReplyMsg)
  | report (r : Report)
  | notice (e : BoardEntry)
  deriving DecidableEq, Repr

/-- The transmitter (R150). -/
inductive Transmitter where
  | idle
  | sending (m : OutMsg)
  deriving DecidableEq, Repr

/-- State of the Building Link Interface (R150). -/
structure Bli where
  own : Byte
  rx : RxState
  frame : List Byte
  holding : List Message
  takingOpen : Bool
  replySlot : Option ReplyMsg
  report : Option Report
  standings : List ReportStanding
  board : List BoardEntry
  tx : Transmitter
  halted : Bool
  deriving DecidableEq, Repr

/-- R150, last column. The own address is read at the end of start-up (R151); until then it stands
at 48, and nothing reads it (assumption log 9). -/
def Bli.reset : Bli where
  own := 48#8
  rx := .disabled
  frame := []
  holding := []
  takingOpen := false
  replySlot := none
  report := none
  standings := []
  board := []
  tx := .idle
  halted := false

/-! ## The whole part -/

/-- The input pins at the last level the part was told (00, Pins; assumption log 6). -/
structure Pins where
  commission : Bool
  addr : BitVec 4
  resetAsserted : Bool
  deriving DecidableEq, Repr

/-- How the orders that the spec leaves open fall inside one command (assumption log 4).
`closeOrder`: the order in which blocks take a cycle close (R23); `swapOrder`: the order in which
they take a swap, the Table Unit's configuration request among them (R44); blocks not named follow in
the spec's own order. `swapAt`: at a close that swaps, how many steps of the blocks' close work, a
step making at most one post, come before the swap (R164); absent, all of them. `requestFirst`: the
configuration request is made at the swap, before any close work that is left (R196). `eager`: the
arbiter acts at each placement and not at the end of the event (R165). `reportFirst`: the XSU acts on
a change report before the CMU's own post. -/
structure Order where
  closeOrder : List Block
  swapOrder : List Block
  swapAt : Option Nat
  requestFirst : Bool
  eager : Bool
  reportFirst : Bool
  deriving DecidableEq, Repr

/-- The order taken where the schedule names none. -/
def Order.default : Order := ⟨[], [], none, false, false, false⟩

/-- State of the part: the ten blocks, the nonvolatile store, the input pins, the schedule of open
orders (one entry is used up by each command), and the queue of waiting commands, first in, first
out. -/
structure State where
  pins : Pins
  flc : Flc
  tbu : Tbu
  cmu : Cmu
  dau : Dau
  zcu : Zcu
  cgu : Cgu
  bli : Bli
  mrh : Mrh
  xsu : Xsu
  nvs : Nvs
  store : Store
  schedule : List Order
  pending : List Instr
  deriving DecidableEq, Repr

/-- Every volatile item of every block at its reset value (R198); the store, the input pins, the
schedule and the queue are not the blocks'. -/
def State.afterReset (cause : ResetCause) (pins : Pins) (store : Store) (schedule : List Order)
    (pending : List Instr) : State where
  pins := pins
  flc := .reset
  tbu := .reset
  cmu := .reset
  dau := .reset
  zcu := .reset
  cgu := .reset
  bli := .reset
  mrh := .reset
  xsu := .reset
  nvs := .reset cause
  store := store
  schedule := schedule
  pending := pending

/-- The part right after its first POWER reset: a store never written (R193), no pin asserted, and
no command waiting. -/
def State.reset : State :=
  State.afterReset .power ⟨false, 0#4, false⟩ Store.unwritten [] []

/-- Why the part stops: it never does. The spec names no event that stops it (INVENTORY.md,
Faults), so this type has no member; it would be unsound nowhere, and is safe. -/
inductive Fault where
  deriving DecidableEq, Repr

/-- Why the model gives a command no meaning. -/
inductive Refusal where
  /-- Raised by an arm of exec whose command has no meaning in the model yet; safe. -/
  | notModelled (mnemonic : String)
  deriving DecidableEq, Repr

end Sys2Proof.Machine
end

