-- ==== Sys2Proof/Machine/Bytes.lean ====
section
/-! DEFINITION. Numbers as bytes on the two lines: byte order, absent fields, signed values, and the
two checks, the sum of a Fieldline group (R203) and the CRC of the building link (R204). -/

namespace Sys2Proof.Machine

open Sys2Proof

/-- Two bytes as one value, high byte first (00, Byte order). -/
def halfOf (hi lo : Byte) : Half := hi ++ lo

/-- A value as two bytes, high byte first. -/
def be16 (h : Half) : List Byte := [h.extractLsb' 8 8, h.extractLsb' 0 8]

/-- A number as `k` bytes, high byte first. -/
def beNat : Nat → Nat → List Byte
  | 0, _ => []
  | k + 1, v => byte (v / 256 ^ k) :: beNat k v

/-- Bytes as one unsigned number, high byte first. -/
def ofBytes (bs : List Byte) : Nat := bs.foldl (fun n b => n * 256 + b.toNat) 0

/-- A one-byte field: FFh is absent (R205). -/
def read8 (b : Byte) : Option Nat := if b = 0xFF#8 then none else some b.toNat

/-- A two-byte unsigned field: FFFFh is absent (R205). -/
def readU16 (hi lo : Byte) : Option Nat :=
  if halfOf hi lo = 0xFFFF#16 then none else some (halfOf hi lo).toNat

/-- A two-byte signed field: 8000h is absent (R205). -/
def readS16 (hi lo : Byte) : Option Int :=
  if halfOf hi lo = 0x8000#16 then none else some (halfOf hi lo).toInt

/-- A one-byte field as sent. -/
def field8 : Option Nat → List Byte
  | none => [0xFF#8]
  | some v => [byte v]

/-- A two-byte unsigned field as sent. -/
def fieldU16 : Option Nat → List Byte
  | none => [0xFF#8, 0xFF#8]
  | some v => be16 (half v)

/-- A two-byte signed field as sent. -/
def fieldS16 : Option Int → List Byte
  | none => [0x80#8, 0x00#8]
  | some v => be16 (BitVec.ofInt 16 v)

/-- Yes and no, set and clear, as 1 and 0 (R205). -/
def flag8 (b : Bool) : List Byte := [if b then 1#8 else 0#8]

/-- The sum of a group's characters modulo 256 (R203). -/
def groupSum (cs : List Byte) : Byte := cs.foldl (· + ·) 0#8

/-- A group passes its check when its sum is FFh (R203). -/
def groupChecks (cs : List Byte) : Bool := groupSum cs == 0xFF#8

/-- A group with its check character appended (R203). -/
def withCheck (cs : List Byte) : List Byte := cs ++ [0xFF#8 - groupSum cs]

/-- One bit through the CRC register (R204). -/
def crcBit (r : Half) (bit : Bool) : Half :=
  if r.msb == bit then r <<< 1 else (r <<< 1) ^^^ 0x1021#16

/-- One byte through the CRC register, most significant bit first (R204). -/
def crcByte (r : Half) (b : Byte) : Half :=
  crcBit (crcBit (crcBit (crcBit (crcBit (crcBit (crcBit (crcBit r
    (b.getLsbD 7)) (b.getLsbD 6)) (b.getLsbD 5)) (b.getLsbD 4))
    (b.getLsbD 3)) (b.getLsbD 2)) (b.getLsbD 1)) (b.getLsbD 0)

/-- The CRC of a run of bytes; the register starts at FFFFh (R204). -/
def crc16 (bs : List Byte) : Half := bs.foldl crcByte 0xFFFF#16

end Sys2Proof.Machine
end

