-- ==== Sys2Proof/Machine/Codes.lean ====
section
/-! DEFINITION. The codes of the enumerated fields (R203 to R205): from 0 in the order of each list,
except where a rule names another code. -/

namespace Sys2Proof.Machine

open Sys2Proof

/-- Quantity codes (R205). -/
def Quantity.ofCode : Nat → Option Quantity
  | 0 => some .temp | 1 => some .rh | 2 => some .lux | 3 => some .uv
  | 4 => some .presence | 5 => some .outdoor | _ => none

/-- Quantity codes (R205). -/
def Quantity.code : Quantity → Nat
  | .temp => 0 | .rh => 1 | .lux => 2 | .uv => 3 | .presence => 4 | .outdoor => 5

/-- The condition quantity a code names; PRESENCE and OUTDOOR are none. -/
def CondQ.ofCode : Nat → Option CondQ
  | 0 => some .temp | 1 => some .rh | 2 => some .lux | 3 => some .uv | _ => none

/-- Condition quantity codes (R205). -/
def CondQ.code : CondQ → Nat
  | .temp => 0 | .rh => 1 | .lux => 2 | .uv => 3

/-- A quantity as a condition quantity. -/
def Quantity.cond : Quantity → Option CondQ
  | .temp => some .temp | .rh => some .rh | .lux => some .lux | .uv => some .uv
  | .presence => none | .outdoor => none

/-- A condition quantity as a sensor quantity. -/
def CondQ.quantity : CondQ → Quantity
  | .temp => .temp | .rh => .rh | .lux => .lux | .uv => .uv

/-- The four condition quantities. -/
def CondQ.all : List CondQ := [.temp, .rh, .lux, .uv]

/-- Only TEMP and RH have a low side (00, Sides). -/
def CondQ.hasLow : CondQ → Bool
  | .temp => true | .rh => true | .lux => false | .uv => false

/-- One quantity's value. -/
def PerQ.get {α : Type} (p : PerQ α) : CondQ → α
  | .temp => p.temp | .rh => p.rh | .lux => p.lux | .uv => p.uv

/-- One quantity's value replaced. -/
def PerQ.set {α : Type} (p : PerQ α) (q : CondQ) (a : α) : PerQ α :=
  match q with
  | .temp => { p with temp := a }
  | .rh => { p with rh := a }
  | .lux => { p with lux := a }
  | .uv => { p with uv := a }

/-- Class codes (R205). -/
def Class.code : Class → Nat
  | .normal => 0 | .warnLo => 1 | .warnHi => 2 | .alarmLo => 3 | .alarmHi => 4

/-- Side class codes; peak severity takes WARN 1 and ALARM 2 (R205). -/
def SideClass.code : SideClass → Nat
  | .normal => 0 | .warn => 1 | .alarm => 2

/-- Coverage codes (R205). -/
def Coverage.code : Coverage → Nat
  | .none => 0 | .live => 1 | .blind => 2

/-- Health codes (R205). -/
def Health.code : Health → Nat
  | .noData => 0 | .live => 1 | .stale => 2

/-- Actuator kind codes (R30). -/
def ActKind.ofCode : Nat → Option ActKind
  | 0 => some .luminaire | 1 => some .humidifier | 2 => some .climate | 3 => some .shade
  | _ => none

/-- Actuator kind codes (R30). -/
def ActKind.code : ActKind → Nat
  | .luminaire => 0 | .humidifier => 1 | .climate => 2 | .shade => 3

/-- Action codes: RESTART 1, IDENTIFY 2, SELF_TEST 3 (R203). -/
def ActionCode.ofCode : Nat → Option ActionCode
  | 1 => some .restart | 2 => some .identify | 3 => some .selfTest | _ => none

/-- Action codes (R203). -/
def ActionCode.code : ActionCode → Nat
  | .restart => 1 | .identify => 2 | .selfTest => 3

/-- Link state codes, in the order of R122. -/
def LinkState.code : LinkState → Nat
  | .unknown => 0 | .online => 1 | .suspect => 2 | .lost => 3

/-- Command outcome codes (R205). -/
def CommandOutcome.code : CommandOutcome → Nat
  | .done => 0 | .superseded => 1 | .failed => 2 | .withdrawn => 3 | .lost => 4

/-- Presence state codes, in the order of R107. -/
def Presence.code : Presence → Nat
  | .occupied => 0 | .vacantPending => 1 | .vacant => 2

/-- Ceiling reason codes (R205). -/
def CeilingReason.code : CeilingReason → Nat
  | .table => 0 | .restVacant => 1 | .restDose => 2

/-- Account state codes (R205). -/
def AccountState.code : AccountState → Nat
  | .idle => 0 | .open_ => 1 | .dailySpent => 2 | .annualSpent => 3 | .suspended => 4

/-- FLC state codes, in the order of R1. -/
def FlcState.code : FlcState → Nat
  | .stopped => 0 | .mark => 1 | .header => 2 | .slot => 3 | .closed => 4

/-- Commit state codes, in the order of R27. -/
def CommitState.code : CommitState → Nat
  | .idle => 0 | .pendingSwap => 1 | .storing => 2

/-- Level codes, in the order of R34. -/
def Level.ofCode : Nat → Option Level
  | 0 => some .observe | 1 => some .operate | 2 => some .commission | _ => none

/-- Level codes; their order is the levels' rank (R170). -/
def Level.code : Level → Nat
  | .observe => 0 | .operate => 1 | .commission => 2

/-- Store state codes, in the order of R194. -/
def StoreState.code : StoreState → Nat
  | .idle => 0 | .writingConfig => 1 | .writingRecord => 2 | .failed => 3

/-- Start-up outcome codes: RUNNING 0, FALLBACK 1 (R205). STARTING is no outcome and is never sent. -/
def StartState.code : StartState → Nat
  | .running => 0 | .fallback => 1 | .starting => 2

/-- Reset cause codes (R205). -/
def ResetCause.code : ResetCause → Nat
  | .power => 0 | .pin => 1 | .restart => 2

/-- Tracker state codes, in the order of R183. -/
def TrackerState.code : TrackerState → Nat
  | .closed => 0 | .open_ => 1

/-- Last ending codes, in the order of R183, absent apart. -/
def Ending.code : Ending → Nat
  | .counted => 0 | .notSelected => 1 | .discarded => 2

/-- Status codes (R205). -/
def Status.code : Status → Nat
  | .ok => 0 | .accepted => 1 | .taken => 2 | .denied => 3 | .busy => 4 | .range => 5
  | .invalid => 6 | .notRunning => 7 | .unknownRequest => 8 | .linkLost => 9 | .noLink => 10
  | .stillActive => 11 | .suspended => 12 | .notEnabled => 13 | .unknownNode => 14
  | .notActuator => 15 | .noReference => 16 | .actuatorLost => 17 | .queueFull => 18

/-- The request kinds in the order of R172. -/
def ReqKind.all : List ReqKind :=
  [.readRecord, .readState, .linkReadAccount, .readFault, .clearLatch, .holdOccupied, .releaseHold,
   .grantExtension, .statsControl, .statsClear, .clearFault, .writeRecord, .discardStaged, .commit,
   .suspendAccount, .resumeAccount, .seedAccount, .restart]

/-- Request codes, READ RECORD 1 to RESTART 18 (R205). -/
def ReqKind.code : ReqKind → Nat
  | .readRecord => 1 | .readState => 2 | .linkReadAccount => 3 | .readFault => 4
  | .clearLatch => 5 | .holdOccupied => 6 | .releaseHold => 7 | .grantExtension => 8
  | .statsControl => 9 | .statsClear => 10 | .clearFault => 11 | .writeRecord => 12
  | .discardStaged => 13 | .commit => 14 | .suspendAccount => 15 | .resumeAccount => 16
  | .seedAccount => 17 | .restart => 18

/-- The request kind a code names (R171 step 1). -/
def ReqKind.ofCode (c : Nat) : Option ReqKind := ReqKind.all.find? fun k => k.code == c

/-- Table codes (R205). -/
def TableId.code : TableId → Nat
  | .bus => 0 | .slotMap => 1 | .zone => 2 | .drift => 3 | .account => 4 | .requester => 5

/-- Table codes (R205). -/
def TableId.ofCode : Nat → Option TableId
  | 0 => some .bus | 1 => some .slotMap | 2 => some .zone | 3 => some .drift
  | 4 => some .account | 5 => some .requester | _ => none

/-- Records of a table (R29 to R34). -/
def TableId.size : TableId → Nat
  | .bus => 1 | .slotMap => 48 | .zone => 16 | .drift => 35 | .account => 64 | .requester => 8

/-- Bytes of one record of a table (R205). -/
def TableId.recordBytes : TableId → Nat
  | .bus => 8 | .slotMap => 6 | .zone => 46 | .drift => 2 | .account => 7 | .requester => 3

/-- Check codes: NO_SLOTS 0, then 1 to 13 in the order of R41 and R42 (R205). -/
def CheckName.code : CheckName → Nat
  | .noSlots => 0 | .fieldRange => 1 | .slotShape => 2 | .bandOrder => 3 | .restLevel => 4
  | .nodeDuplicate => 5 | .zoneDisabled => 6 | .accountMismatch => 7 | .accountSlots => 8
  | .presenceSlots => 9 | .outdoorSlots => 10 | .curveNoOutdoor => 11 | .curveStep => 12
  | .requesterDuplicate => 13

/-- Outcome codes of a REPORT entry (R204). PENDING and SKIPPED never stand in one; they are given
the next codes so that the code is total. -/
def outcomeCode : Option SlotOutcome → Nat
  | some (.good _) => 0 | some .missing => 1 | some .garbled => 2 | some .wrongNode => 3
  | some .overlong => 4 | some .collided => 5 | some .skipped => 6 | none => 7

/-- Acceptance codes of a REPORT entry (R204). -/
def acceptanceCode : Option Acceptance → Nat
  | none => 0 | some .accepted => 1 | some (.refused .fault) => 2
  | some (.refused .warming) => 3 | some (.refused .range) => 4

/-- The quantities whose samples are signed (R203). -/
def Quantity.signed : Quantity → Bool
  | .temp => true | .outdoor => true | .rh => false | .lux => false | .uv => false
  | .presence => false

end Sys2Proof.Machine
end

