-- ==== Sys2Proof/Machine/Lookup.lean ====
section
/-! DEFINITION. The records of the tables read as what they mean (R29 to R34): uses, kinds, zones,
limits. A number of the active copy is always present and in range (R28); `num` and `int` give 0
for one that is not (assumption log 15). -/

namespace Sys2Proof.Machine

open Sys2Proof

/-- A numeric field of a table in use. -/
def num (f : Option Nat) : Nat := f.getD 0

/-- A signed field of a table in use. -/
def int (f : Option Int) : Int := f.getD 0

/-- A field that names one of `n` things. -/
def index (n : Nat) (f : Option Nat) : Option (Fin n) := f.bind (finOf n)

/-- The slot's use is SENSOR (R30). -/
def SlotRec.isSensor (r : SlotRec) : Bool := r.use == some 1

/-- The slot's use is ACTUATOR (R30). -/
def SlotRec.isActuator (r : SlotRec) : Bool := r.use == some 2

/-- A used slot (R30). -/
def SlotRec.isUsed (r : SlotRec) : Bool := r.isSensor || r.isActuator

/-- The quantity of a SENSOR slot. -/
def SlotRec.sensorQuantity (r : SlotRec) : Option Quantity :=
  if r.isSensor then r.quantity.bind Quantity.ofCode else none

/-- The kind of an ACTUATOR slot. -/
def SlotRec.actuatorKind (r : SlotRec) : Option ActKind :=
  if r.isActuator then r.kind.bind ActKind.ofCode else none

/-- A SENSOR slot of a quantity. -/
def SlotRec.senses (r : SlotRec) (q : Quantity) : Bool := r.sensorQuantity == some q

/-- The zone a used slot names. -/
def SlotRec.zoneIndex (r : SlotRec) : Option (Fin 16) := if r.isUsed then index 16 r.zone else none

/-- The account a LUX slot names. -/
def SlotRec.accountIndex (r : SlotRec) : Option (Fin 64) :=
  if r.senses .lux then index 64 r.account else none

/-- A SENSOR slot of a quantity in a zone. -/
def SlotRec.sensesIn (r : SlotRec) (q : Quantity) (z : Fin 16) : Bool :=
  r.senses q && r.zoneIndex == some z

/-- An enabled zone (R31). -/
def ZoneRec.isEnabled (r : ZoneRec) : Bool := r.enabled == some 1

/-- RH mode CURVE (R31). -/
def ZoneRec.isCurve (r : ZoneRec) : Bool := r.rhMode == some 1

/-- Rest on vacancy (R31). -/
def ZoneRec.restsOnVacancy (r : ZoneRec) : Bool := r.restOnVacancy == some 1

/-- Latch policy FOLLOWING, coded 1 after LATCHING (R31, R205). -/
def ZoneRec.follows (r : ZoneRec) (q : CondQ) : Bool := r.latch.get q == some 1

/-- Notice enable of a quantity (R31). -/
def ZoneRec.notifies (r : ZoneRec) (q : CondQ) : Bool := r.notice.get q == some 1

/-- An enabled account (R33). -/
def AccountRec.isEnabled (r : AccountRec) : Bool := r.enabled == some 1

/-- The account's zone. -/
def AccountRec.zoneIndex (r : AccountRec) : Option (Fin 16) := index 16 r.zone

/-- Spend action REST, coded 0 (R33, R205). -/
def AccountRec.rests (r : AccountRec) : Bool := r.spend == some 0

/-- The account's budget in lux·s (R78). -/
def AccountRec.budgetLuxSeconds (r : AccountRec) : Nat :=
  num r.budget * Config.luxSecondsPerKluxHour

/-- A used requester entry (R34). -/
def RequesterRec.isUsed (r : RequesterRec) : Bool := r.used == some 1

/-- The slot count N: one more than the highest used slot index (R5, R30). -/
def Tables.slotCount (t : Tables) : Nat :=
  (t.slots.indices fun _ r => r.isUsed).foldl (fun n i => max n (i.val + 1)) 0

/-- The slot whose node a used slot carries (R126). -/
def Tables.slotOfNode (t : Tables) (node : Nat) : Option (Fin 48) :=
  t.slots.find? fun _ r => r.isUsed && r.node == some node

/-- The OUTDOOR slot (at most one in an active Slot Map, R42). -/
def Tables.outdoorSlot (t : Tables) : Option (Fin 48) := t.slots.find? fun _ r => r.senses .outdoor

/-- The zone record. -/
def Tables.zoneRec (t : Tables) (z : Fin 16) : ZoneRec := t.zones.get z

/-- The RH centre of a band (R32). -/
def Tables.centre (t : Tables) (b : Fin 35) : Nat := num (t.drift.get b)

/-- Whether an account is enabled. -/
def Tables.accountEnabled (t : Tables) (a : Fin 64) : Bool := (t.accounts.get a).isEnabled

/-- Whether a zone is enabled. -/
def Tables.zoneEnabled (t : Tables) (z : Fin 16) : Bool := (t.zones.get z).isEnabled

/-- The accounts of the tables that are enabled, in ascending order. -/
def Tables.enabledAccounts (t : Tables) : List (Fin 64) := t.accounts.indices fun _ r => r.isEnabled

/-- The zones of the tables that are enabled, in ascending order. -/
def Tables.enabledZones (t : Tables) : List (Fin 16) := t.zones.indices fun _ r => r.isEnabled

/-- The PRESENCE slots of a zone (R110). -/
def Tables.presenceSlots (t : Tables) (z : Fin 16) : List (Fin 48) :=
  t.slots.indices fun _ r => r.sensesIn .presence z

/-- The LUX slots that name an account (R82). -/
def Tables.luxSlots (t : Tables) (a : Fin 64) : List (Fin 48) :=
  t.slots.indices fun _ r => r.accountIndex == some a

/-- The Drift Curve band of an outdoor temperature in 0.1 °C (R32). -/
def bandOf (t : Int) : Fin 35 :=
  Fin.ofNat 35 (min ((t + 300) / 20).toNat 34)

/-- A value held into a range (R124). -/
def hold (v lo hi : Int) : Int := if v < lo then lo else if v > hi then hi else v

end Sys2Proof.Machine
end

