-- ==== Sys2Proof/Machine/Formats.lean ====
section
/-! DEFINITION. The byte layouts of everything sent on the lines and of the store's check codes
(R203 to R205): table records, Fieldline groups, and the frames of RESULT, REPLY, REPORT and NOTICE.
The layout of READ STATE contents is the model's where R205 gives only the order (assumption
log 11). -/

namespace Sys2Proof.Machine

open Sys2Proof

/-! ## Table records (R29 to R34, R205) -/

/-- The one-byte field at an offset. -/
def at8 (bs : List Byte) (i : Nat) : Option Nat := read8 (bs.getD i 0#8)

/-- The two-byte unsigned field at an offset. -/
def atU16 (bs : List Byte) (i : Nat) : Option Nat := readU16 (bs.getD i 0#8) (bs.getD (i + 1) 0#8)

/-- The two-byte signed field at an offset. -/
def atS16 (bs : List Byte) (i : Nat) : Option Int := readS16 (bs.getD i 0#8) (bs.getD (i + 1) 0#8)

/-- A Bus Parameters record of 8 bytes. The notice mask is 16 enables and never absent
(assumption log 10). -/
def BusRec.ofBytes (b : List Byte) : BusRec where
  cycleInterval := at8 b 0
  staleLimit := at8 b 1
  missLimit := at8 b 2
  keepAlive := at8 b 3
  checkpoint := atU16 b 4
  mask := halfOf (b.getD 6 0#8) (b.getD 7 0#8)

/-- A Bus Parameters record as sent. -/
def BusRec.bytes (r : BusRec) : List Byte :=
  field8 r.cycleInterval ++ field8 r.staleLimit ++ field8 r.missLimit ++ field8 r.keepAlive
    ++ fieldU16 r.checkpoint ++ be16 r.mask

/-- A Slot Map record of 6 bytes. -/
def SlotRec.ofBytes (b : List Byte) : SlotRec where
  use := at8 b 0
  node := at8 b 1
  quantity := at8 b 2
  kind := at8 b 3
  zone := at8 b 4
  account := at8 b 5

/-- A Slot Map record as sent. -/
def SlotRec.bytes (r : SlotRec) : List Byte :=
  field8 r.use ++ field8 r.node ++ field8 r.quantity ++ field8 r.kind ++ field8 r.zone
    ++ field8 r.account

/-- A Zone Table record of 46 bytes. -/
def ZoneRec.ofBytes (b : List Byte) : ZoneRec where
  enabled := at8 b 0
  tempAlarmLo := atS16 b 1
  tempWarnLo := atS16 b 3
  tempWarnHi := atS16 b 5
  tempAlarmHi := atS16 b 7
  rhMode := at8 b 9
  rhAlarmLo := atU16 b 10
  rhWarnLo := atU16 b 12
  rhWarnHi := atU16 b 14
  rhAlarmHi := atU16 b 16
  rhWarnHalf := atU16 b 18
  rhAlarmHalf := atU16 b 20
  luxWarnHi := atU16 b 22
  luxAlarmHi := atU16 b 24
  uvWarnHi := atU16 b 26
  uvAlarmHi := atU16 b 28
  luxCeiling := atU16 b 30
  restLevel := atU16 b 32
  restOnVacancy := at8 b 34
  vacancyHold := at8 b 35
  rhStep := at8 b 36
  tempStep := at8 b 37
  latch := ⟨at8 b 38, at8 b 39, at8 b 40, at8 b 41⟩
  notice := ⟨at8 b 42, at8 b 43, at8 b 44, at8 b 45⟩

/-- Four one-byte fields, one for each condition quantity, as sent. -/
def perQ8 (p : PerQ (Option Nat)) : List Byte :=
  field8 p.temp ++ field8 p.rh ++ field8 p.lux ++ field8 p.uv

/-- A Zone Table record as sent. -/
def ZoneRec.bytes (r : ZoneRec) : List Byte :=
  field8 r.enabled
    ++ (fieldS16 r.tempAlarmLo ++ fieldS16 r.tempWarnLo ++ fieldS16 r.tempWarnHi
      ++ fieldS16 r.tempAlarmHi)
    ++ field8 r.rhMode
    ++ (fieldU16 r.rhAlarmLo ++ fieldU16 r.rhWarnLo ++ fieldU16 r.rhWarnHi ++ fieldU16 r.rhAlarmHi)
    ++ (fieldU16 r.rhWarnHalf ++ fieldU16 r.rhAlarmHalf)
    ++ (fieldU16 r.luxWarnHi ++ fieldU16 r.luxAlarmHi ++ fieldU16 r.uvWarnHi
      ++ fieldU16 r.uvAlarmHi)
    ++ (fieldU16 r.luxCeiling ++ fieldU16 r.restLevel)
    ++ (field8 r.restOnVacancy ++ field8 r.vacancyHold ++ field8 r.rhStep ++ field8 r.tempStep)
    ++ perQ8 r.latch ++ perQ8 r.notice

/-- An Account Table record of 7 bytes. -/
def AccountRec.ofBytes (b : List Byte) : AccountRec where
  enabled := at8 b 0
  zone := at8 b 1
  budget := atU16 b 2
  allowance := atU16 b 4
  spend := at8 b 6

/-- An Account Table record as sent. -/
def AccountRec.bytes (r : AccountRec) : List Byte :=
  field8 r.enabled ++ field8 r.zone ++ fieldU16 r.budget ++ fieldU16 r.allowance ++ field8 r.spend

/-- A Requester Table record of 3 bytes. -/
def RequesterRec.ofBytes (b : List Byte) : RequesterRec where
  used := at8 b 0
  address := at8 b 1
  level := at8 b 2

/-- A Requester Table record as sent. -/
def RequesterRec.bytes (r : RequesterRec) : List Byte :=
  field8 r.used ++ field8 r.address ++ field8 r.level

/-- A table record as sent (R205). -/
def TableRecord.bytes : TableRecord → List Byte
  | .bus r => r.bytes
  | .slot r => r.bytes
  | .zone r => r.bytes
  | .drift c => fieldU16 c
  | .account r => r.bytes
  | .requester r => r.bytes

/-- The record at an index of a table; none past its last record. -/
def Tables.record (t : Tables) (id : TableId) (i : Nat) : Option TableRecord :=
  match id with
  | .bus => if i = 0 then some (.bus t.bus) else none
  | .slotMap => (finOf 48 i).map fun k => .slot (t.slots.get k)
  | .zone => (finOf 16 i).map fun k => .zone (t.zones.get k)
  | .drift => (finOf 35 i).map fun k => .drift (t.drift.get k)
  | .account => (finOf 64 i).map fun k => .account (t.accounts.get k)
  | .requester => (finOf 8 i).map fun k => .requester (t.requesters.get k)

/-- The tables with the record at an index of one table replaced by the record its bytes spell. -/
def Tables.writeRecord (t : Tables) (id : TableId) (i : Nat) (bs : List Byte) : Tables :=
  match id with
  | .bus => if i = 0 then { t with bus := .ofBytes bs } else t
  | .slotMap => match finOf 48 i with
    | some k => { t with slots := t.slots.set k (.ofBytes bs) }
    | none => t
  | .zone => match finOf 16 i with
    | some k => { t with zones := t.zones.set k (.ofBytes bs) }
    | none => t
  | .drift => match finOf 35 i with
    | some k => { t with drift := t.drift.set k (atU16 bs 0) }
    | none => t
  | .account => match finOf 64 i with
    | some k => { t with accounts := t.accounts.set k (.ofBytes bs) }
    | none => t
  | .requester => match finOf 8 i with
    | some k => { t with requesters := t.requesters.set k (.ofBytes bs) }
    | none => t

/-! ## Check codes of the store (R193, R205) -/

/-- The configuration image's fields in the order listed. -/
def Tables.bytes (t : Tables) : List Byte :=
  t.bus.bytes ++ t.slots.toList.flatMap SlotRec.bytes ++ t.zones.toList.flatMap ZoneRec.bytes
    ++ t.drift.toList.flatMap fieldU16 ++ t.accounts.toList.flatMap AccountRec.bytes
    ++ t.requesters.toList.flatMap RequesterRec.bytes

/-- A date as sent: year and day, each absent when the date is (R205). -/
def dateBytes (d : Option Date) : List Byte :=
  fieldU16 (d.map (·.year)) ++ fieldU16 (d.map (·.day))

/-- An account record's fields in the order listed. -/
def AccountItem.bytes (r : AccountItem) : List Byte :=
  [byte r.account] ++ dateBytes r.date ++ beNat 6 r.usedToday ++ beNat 6 r.usedYear
    ++ be16 (half r.extension) ++ flag8 r.suspended

/-- The item a write leaves in the store: its contents with their check code (R193, R205). -/
def imageItem (t : Tables) : StoredItem Tables := .held t (crc16 t.bytes)

/-- The account record a write leaves in the store. -/
def recordItem (r : AccountItem) : StoredItem AccountItem := .held r (crc16 r.bytes)

/-- The image, where its check code agrees. -/
def checkedImage : StoredItem Tables → Option Tables
  | .held t c => if crc16 t.bytes = c then some t else none
  | .failing => none

/-- The account record, where its check code agrees. -/
def checkedRecord : StoredItem AccountItem → Option AccountItem
  | .held r c => if crc16 r.bytes = c then some r else none
  | .failing => none

/-! ## Fieldline groups (R203) -/

/-- The five header characters (R7, R203). -/
def headerGroup (cycle : Half) (n : Nat) : List Byte :=
  withCheck (Config.headerCode :: be16 cycle ++ [byte n])

/-- The call code: kind × 8 plus the tag (R203). -/
def Call.code : Call → Nat
  | .poll => 1 * 8
  | .set _ tag => 2 * 8 + tag.toNat
  | .action _ tag => 3 * 8 + tag.toNat

/-- The value characters of a call (R203). -/
def Call.value : Call → List Byte
  | .poll => [0#8, 0#8]
  | .set v _ => be16 (BitVec.ofInt 16 v)
  | .action c _ => [0#8, byte c.code]

/-- The six call characters (R203). -/
def callGroup (node : Nat) (c : Call) (slot : Fin 48) : List Byte :=
  withCheck ([byte node, byte c.code] ++ c.value ++ [byte slot.val])

/-- The value of an answer: signed for TEMP and OUTDOOR samples only (R203). -/
def answerValue (signed : Bool) (hi lo : Byte) : Int :=
  if signed then (halfOf hi lo).toInt else (halfOf hi lo).toNat

/-- The contents of an answer whose kind is valid for the call sent (table of R16): code, value and
flags characters in, contents out. -/
def answerContents (call : Call) (sensor : Option Quantity) (code hi lo flags : Byte) :
    Option Answer :=
  let fault := flags.getLsbD 0
  let value := answerValue false hi lo
  match call, sensor, code.toNat / 8 with
  | .poll, some q, 4 =>
    some (.sample (answerValue q.signed hi lo) fault (flags.getLsbD 1) (flags.getLsbD 2))
  | .poll, none, 5 => some (.status value fault)
  | .set _ _, none, 6 => some (.echo (code.extractLsb' 0 3) value fault)
  | .action _ _, none, 6 => some (.echo (code.extractLsb' 0 3) value fault)
  | _, none, 7 => some .notReady
  | _, _, _ => none

/-! ## Building-link messages (R204, R205) -/

/-- The COMMAND kind code. -/
def kindCommand : Byte := 0x01#8
/-- The TIME kind code. -/
def kindTime : Byte := 0x02#8
/-- The REQUEST kind code. -/
def kindRequest : Byte := 0x03#8
/-- The RESULT kind code. -/
def kindResult : Byte := 0x81#8
/-- The REPLY kind code. -/
def kindReply : Byte := 0x82#8
/-- The REPORT kind code. -/
def kindReport : Byte := 0x83#8
/-- The NOTICE kind code. -/
def kindNotice : Byte := 0x84#8

/-- A value of 16 bits, signed where it is negative. -/
def valueBytes (v : Int) : List Byte := be16 (BitVec.ofInt 16 v)

/-- An enumerated field that may be absent. -/
def code8 {α : Type} (f : α → Nat) (o : Option α) : List Byte := field8 (o.map f)

/-- A body of a RESULT; an absent effective target is FFFFh (R204). -/
def CmdResult.body (r : CmdResult) : List Byte :=
  be16 r.id ++ [byte r.status.code] ++ match r.extra with
    | .nothing => []
    | .set e clamped deferred =>
      (match e with | some v => valueBytes v | none => [0xFF#8, 0xFF#8])
        ++ [(if clamped then 1#8 else 0#8) ||| (if deferred then 2#8 else 0#8)]
    | .action n => [byte n]

/-- The standing byte of a REPORT entry (R204). -/
def Standing.byte : Standing → Byte
  | .cls (some c) => BitVec.ofNat 8 c.code
  | .cls none => 0xFF#8
  | .band (some b) => BitVec.ofNat 8 b.val
  | .band none => 0xFF#8
  | .presence vacant => if vacant then 0#8 else 1#8

/-- One REPORT entry of 5 bytes (R204). -/
def ReportEntry.bytes (e : ReportEntry) : List Byte :=
  [Sys2Proof.byte e.slot.val, Sys2Proof.byte (outcomeCode e.outcome * 16 + acceptanceCode e.acceptance)]
    ++ valueBytes (e.value.getD 0) ++ [e.standing.byte]

/-- The body of a REPORT (R204). -/
def Report.body (r : Report) : List Byte :=
  be16 r.cycle ++ [byte r.entries.length] ++ r.entries.flatMap ReportEntry.bytes

/-- The notice kind code, 1 to 17 in the order of the notice table (R204). -/
def Notice.code : Notice → Nat
  | .zoneCondition _ _ _ => 1 | .zoneCeiling _ _ _ => 2 | .sensorHealth _ _ => 3
  | .sensorFlag _ _ => 4 | .fieldNoise _ => 5 | .actuatorState _ _ => 6 | .actuatorFault _ => 7
  | .commandOutcome _ _ _ => 8 | .accountState _ _ _ _ => 9 | .clock _ => 10
  | .excursion _ _ _ _ => 11 | .accessFault => 12 | .linkError _ => 13 | .commit _ => 14
  | .storeFault => 15 | .start _ _ => 16 | .boardFull => 17

/-- The subject as a number (R204): a zone and quantity with the zone in the high byte; a slot,
node, account, zone or quantity itself; none as 0. -/
def Notice.subject : Notice → Nat
  | .zoneCondition z q _ => z.val * 256 + q.code
  | .zoneCeiling z _ _ => z.val
  | .sensorHealth k _ => k.val
  | .sensorFlag k _ => k.val
  | .fieldNoise k => k.val
  | .actuatorState n _ => n
  | .actuatorFault n => n
  | .commandOutcome n _ _ => n
  | .accountState a _ _ _ => a.val
  | .excursion q _ _ _ => q.code
  | .clock _ => 0 | .accessFault => 0 | .linkError _ => 0 | .commit _ => 0
  | .storeFault => 0 | .start _ _ => 0 | .boardFull => 0

/-- The key of a notice: kind and subject (R161). -/
def Notice.key (n : Notice) : Nat × Nat := (n.code, n.subject)

/-- The fields of a notice as sent (R204). -/
def Notice.fields : Notice → List Byte
  | .zoneCondition _ q e =>
    [if q.hasLow then byte e.low.code else 0xFF#8, byte e.high.code, byte e.coverage.code,
     (if e.lowLatch then 1#8 else 0#8) ||| (if e.highLatch then 2#8 else 0#8)]
  | .zoneCeiling _ c r => fieldU16 c ++ code8 CeilingReason.code r
  | .sensorHealth _ f => [match f with | .live => 0#8 | .stale => 1#8]
  | .sensorFlag _ f => [match f with | .fault => 0#8 | .calDue => 1#8]
  | .fieldNoise _ => []
  | .actuatorState _ f => [match f with | .lost => 0#8 | .back => 1#8]
  | .actuatorFault _ => []
  | .commandOutcome _ id o => be16 id ++ [byte o.code]
  | .accountState _ s d y => [byte s.code] ++ beNat 6 d ++ beNat 6 y
  | .clock f => [match f with | .regress => 0#8 | .stale => 1#8]
  | .excursion _ z b p => [byte z.val, byte b.val] ++ code8 SideClass.code p
  | .accessFault => []
  | .linkError f => [match f with | .badCheck => 0#8 | .overflow => 1#8]
  | .commit f => [match f with | .done => 0#8 | .notStored => 1#8 | .storeFailed => 2#8]
  | .storeFault => [0#8]
  | .start c o => code8 ResetCause.code c ++ [byte o.code]
  | .boardFull => []

/-- The body of a NOTICE (R204). -/
def BoardEntry.body (e : BoardEntry) : List Byte :=
  [byte e.notice.code] ++ be16 (half e.notice.subject) ++ [byte e.merge] ++ e.notice.fields

/-! ### Contents of replies -/

/-- A sensor record as sent: the fields of R51 in order. DESIGN CHOICE (assumption log 11): every
record has a byte for class and for candidate, FFh where its quantity has none (PRESENCE, and
OUTDOOR's class), and the value takes 2 bytes, a PRESENCE record's VACANT or OCCUPIED too. -/
def SensorRecord.bytes (r : SensorRecord) : List Byte :=
  [byte r.health.code, byte r.missed]
    ++ (match r.value with
        | some v => valueBytes v
        | none => if r.quantity.signed then [0x80#8, 0x00#8] else [0xFF#8, 0xFF#8])
    ++ flag8 r.calDue ++ code8 Class.code r.cls
    ++ (match r.quantity with
        | .outdoor => code8 Fin.val r.bandCandidate
        | _ => code8 Class.code r.candidate)
    ++ flag8 r.got

/-- A zone condition entry as sent; a LUX or UV entry has no low side (R175). Each latch takes a byte
of its own: DESIGN CHOICE (assumption log 11). -/
def ZoneCond.bytes (q : CondQ) (e : ZoneCond) : List Byte :=
  (if q.hasLow then [byte e.low.code] else []) ++ [byte e.high.code, byte e.coverage.code]
    ++ (if q.hasLow then flag8 e.lowLatch else []) ++ flag8 e.highLatch

/-- An account's dynamic record as sent, in the order of R78. The widths of extension, peak, last value
and revision are DESIGN CHOICE (assumption log 11). -/
def AccountDyn.bytes (a : AccountDyn) : List Byte :=
  [byte a.state.code] ++ beNat 6 a.usedToday ++ beNat 6 a.usedYear ++ be16 (half a.extension)
    ++ fieldU16 a.peak ++ be16 (half a.last) ++ be16 a.revision ++ flag8 a.restoreFailed

/-- The values of an account that LINK READ ACCOUNT returns (R93), in the widths of the dynamic
record: DESIGN CHOICE (assumption log 11). -/
def AccountDyn.linkBytes (a : AccountDyn) : List Byte :=
  [byte a.state.code] ++ beNat 6 a.usedToday ++ beNat 6 a.usedYear ++ be16 (half a.extension)
    ++ be16 a.revision ++ flag8 a.restoreFailed

/-- A link monitor entry as sent: FREE 0, OPEN 1, LAPSED 2, then the fields it holds, the opening
order in 1 byte: DESIGN CHOICE (assumption log 11). -/
def Monitor.bytes : Monitor → List Byte
  | .free => [0#8]
  | .open_ e => [1#8, e.requester, byte e.account.val] ++ be16 e.revision ++ [byte e.order]
  | .lapsed e => [2#8, e.requester, byte e.account.val] ++ be16 e.revision ++ [byte e.order]

/-- An in-flight entry as sent: tag, kind, value or code, command id (R149). The kind's codes are
COMMAND's, SET 1 and ACTION 2, and an action code takes the 2 bytes of COMMAND's value field:
DESIGN CHOICE (assumption log 11). -/
def InFlight.bytes (f : InFlight) : List Byte :=
  match f.kind with
  | .set v id => [byte f.tag.toNat, 1#8] ++ valueBytes v ++ fieldU16 (id.map BitVec.toNat)
  | .action c id => [byte f.tag.toNat, 2#8, 0#8, byte c.code] ++ be16 id

/-- A value of an actuator's kind that may be absent: CLIMATE values are signed, so their absent
code is 8000h; every other kind's is FFFFh (R205). -/
def ActKind.valueBytes (k : ActKind) : Option Int → List Byte
  | some v => Machine.valueBytes v
  | none =>
    match k with
    | .climate => [0x80#8, 0x00#8]
    | .luminaire | .humidifier | .shade => [0xFF#8, 0xFF#8]

/-- An actuator record as sent, in the order of R122. DESIGN CHOICE (assumption log 11): an absent
in-flight entry is one byte FFh, and the action queue is a count byte and then each entry's id in 2
bytes and code in 1. -/
def ActuatorRecord.bytes (r : ActuatorRecord) : List Byte :=
  [byte r.node, byte r.kind.code, byte r.zone.val, byte r.slot.val, byte r.link.code, byte r.miss]
    ++ r.kind.valueBytes r.delivered ++ r.kind.valueBytes r.target ++ fieldU16 (r.latestSet.map BitVec.toNat)
    ++ (match r.inFlight with | some f => f.bytes | none => [0xFF#8])
    ++ [byte r.queue.length] ++ r.queue.flatMap (fun a => be16 a.id ++ [byte a.code.code])
    ++ [byte r.nextTag.toNat, byte r.sinceCall]

/-- A ZCU zone record as sent; hold remaining up to 43,200 s in 2 bytes: DESIGN CHOICE (assumption
log 11). -/
def ZoneDyn.replyBytes (z : ZoneDyn) : List Byte :=
  fieldU16 z.hold ++ [byte z.presence.code] ++ fieldU16 z.ceiling ++ code8 CeilingReason.code z.reason

/-- The four combine masks as sent. -/
def combineBytes (p : PerQ (BitVec 8)) : List Byte := [p.temp, p.rh, p.lux, p.uv]

/-- A tracker as sent, in the order of R183; its duration in 2 bytes: DESIGN CHOICE (assumption log
11). -/
def Tracker.bytes (t : Tracker) : List Byte :=
  [byte t.state.code] ++ be16 (half t.duration) ++ code8 SideClass.code t.peak
    ++ code8 Ending.code t.ending

/-- The subject's fields in a READ STATE reply, in the order of R175. DESIGN CHOICE (assumption log
11): the vacant-seen flags of a ZONE are sent alone, one byte for each PRESENCE slot of the zone in
ascending slot order; a HISTOGRAM is its 8 bin counters in 4 bytes each and then its 8 saturated
flags in a byte each; and every width that no rule gives. -/
def Reading.bytes : Reading → List Byte
  | .cycle s c n t => [byte s.code] ++ be16 c ++ field8 n ++ field8 t
  | .commit s c e => [byte s.code] ++ fieldU16 (c.map BitVec.toNat) ++ flag8 e
  | .sensor none => [0xFF#8]
  | .sensor (some (q, z, r)) => [byte q.code] ++ code8 Fin.val z ++ r.bytes
  | .zoneCondition e q c f => flag8 e ++ c.bytes q ++ flag8 f
  | .outdoor b c m => code8 Fin.val b ++ code8 Fin.val c ++ fieldU16 m
  | .zone z h fs =>
    [byte z.presence.code, byte z.count] ++ fieldU16 z.hold ++ fieldU16 z.ceiling
      ++ code8 CeilingReason.code z.reason ++ field8 h
      ++ fs.flatMap (fun f => flag8 f.2)
  | .account a => a.bytes
  | .ledger d w s c ms =>
    dateBytes d ++ beNat 4 w ++ flag8 s ++ be16 (half c) ++ ms.toList.flatMap Monitor.bytes
  | .actuator none => [0xFF#8]
  | .actuator (some (r, e)) => r.bytes ++ r.kind.valueBytes e
  | .excursion t => t.bytes
  | .histogram h =>
    h.toList.flatMap (fun b => beNat 4 b.count) ++ h.toList.flatMap (fun b => flag8 b.saturated)
  | .stats e z c => flag8 e ++ be16 z ++ combineBytes c
  | .store s p as st =>
    [byte s.code] ++ flag8 p ++ [byte as.length] ++ as.map (fun a => byte a.val) ++ [byte st.code]
  | .link o n k b r => [o, byte n, byte k] ++ flag8 b ++ flag8 r
  | .access l p e => [byte l.code] ++ flag8 p ++ code8 Fin.val e

/-- The kind of a refused message in a reply: COMMAND 0, TIME FEh, a request its code
(assumption log 11). -/
def DeniedKind.code : DeniedKind → Nat
  | .command => 0
  | .time => 0xFE
  | .request k => k.code

/-- The access fault record as sent: address, kind, subject, further (R178). DESIGN CHOICE
(assumption log 11): an empty record is one byte FFh, a full one begins with 01h, and a subject of
none takes no byte. -/
def faultBytes : Option AccessFault → List Byte
  | none => [0xFF#8]
  | some f => [1#8, f.address, byte f.kind.code] ++ f.subject.getD [] ++ flag8 f.further

/-- The contents of a REPLY (R205). The FLC's state and cycle number stand before the subject of a
READ STATE: DESIGN CHOICE (assumption log 11; R174). -/
def Contents.bytes : Contents → List Byte
  | .nothing => []
  | .records t first rs =>
    [byte t.code, byte first, byte rs.length] ++ rs.flatMap TableRecord.bytes
  | .reading s c r => [byte s.code] ++ be16 c ++ r.bytes
  | .account cfg a => cfg.bytes ++ a.linkBytes
  | .fault r => faultBytes r
  | .zone z => z.replyBytes
  | .grant x r s => be16 (half x) ++ be16 r ++ [byte s.code]
  | .stats e z c => flag8 e ++ be16 z ++ combineBytes c
  | .invalid t i c => [byte t.code, byte i, byte c.code]

/-- The body of a REPLY (R205). -/
def Reply.body (r : Reply) : List Byte := [r.code, byte r.status.code] ++ r.contents.bytes

/-- Destination, kind and body of an outbound message (R166). -/
def OutMsg.parts : OutMsg → Byte × Byte × List Byte
  | .answer ⟨d, .result r⟩ => (d, kindResult, r.body)
  | .answer ⟨d, .reply r⟩ => (d, kindReply, r.body)
  | .report r => (Config.controllerAddress, kindReport, r.body)
  | .notice e => (Config.controllerAddress, kindNotice, e.body)

/-- The characters of a frame (R204). -/
def frameOf (dest src kind : Byte) (body : List Byte) : List Byte :=
  let covered := [dest, src, kind, byte body.length] ++ body
  Config.startCode :: covered ++ be16 (crc16 covered)

/-- The frame by which an outbound message leaves on BL_TXD (R166). -/
def OutMsg.frame (own : Byte) (m : OutMsg) : List Byte :=
  frameOf m.parts.1 own m.parts.2.1 m.parts.2.2

end Sys2Proof.Machine
end

