-- ==== Sys2Proof/Machine/Ops.lean ====
section
/-! DEFINITION. The operations that several blocks share: one block's state replaced, a post to the
notice board (R162, R163), the arbiter's choice (R165), and the Nonvolatile Store Controller's
taking of work (R195, R196). -/

namespace Sys2Proof.Machine

open Sys2Proof

/-! ## One block's state replaced -/

/-- The part with another FLC state. -/
def State.setFlc (s : State) (x : Flc) : State := { s with flc := x }
/-- The part with another TBU state. -/
def State.setTbu (s : State) (x : Tbu) : State := { s with tbu := x }
/-- The part with another CMU state. -/
def State.setCmu (s : State) (x : Cmu) : State := { s with cmu := x }
/-- The part with another DAU state. -/
def State.setDau (s : State) (x : Dau) : State := { s with dau := x }
/-- The part with another ZCU state. -/
def State.setZcu (s : State) (x : Zcu) : State := { s with zcu := x }
/-- The part with another CGU state. -/
def State.setCgu (s : State) (x : Cgu) : State := { s with cgu := x }
/-- The part with another BLI state. -/
def State.setBli (s : State) (x : Bli) : State := { s with bli := x }
/-- The part with another MRH state. -/
def State.setMrh (s : State) (x : Mrh) : State := { s with mrh := x }
/-- The part with another XSU state. -/
def State.setXsu (s : State) (x : Xsu) : State := { s with xsu := x }
/-- The part with another NVS state. -/
def State.setNvs (s : State) (x : Nvs) : State := { s with nvs := x }
/-- The part with other store contents. -/
def State.setStore (s : State) (x : Store) : State := { s with store := x }
/-- The part with other pin levels. -/
def State.setPins (s : State) (x : Pins) : State := { s with pins := x }
/-- The part with another schedule of open orders. -/
def State.setSchedule (s : State) (x : List Order) : State := { s with schedule := x }

/-- The orders that hold inside the present command (assumption log 4). -/
def State.order (s : State) : Order := s.schedule.headD .default

/-! ## Saturating counts (00, Conventions) -/

/-- A count held to its maximum. -/
def saturate (limit n : Nat) : Nat := min n limit

/-! ## The notice board (R161 to R163) -/

/-- The bit of the notice mask that enables a notice's kind, in the order of R29; START has none. -/
def Notice.maskBit : Notice → Option Nat
  | .start _ _ => none
  | .boardFull => some 15
  | n => some (n.code - 1)

/-- Whether a mask lets a notice be placed (R162, first row). -/
def Notice.enabledBy (n : Notice) (mask : BitVec 16) : Bool :=
  match n.maskBit with
  | none => true
  | some b => mask.getLsbD b

/-- Whether an entry is a keyed entry, of any kind but BOARD_FULL (R161). -/
def BoardEntry.keyed (e : BoardEntry) : Bool := e.notice != .boardFull

/-- How many keyed entries a board holds. -/
def keyedCount (board : List BoardEntry) : Nat := (board.filter BoardEntry.keyed).length

/-- Whether a board holds an entry with a notice's key. -/
def holdsKey (board : List BoardEntry) (n : Notice) : Bool :=
  board.any fun e => e.notice.key == n.key

/-- The entry with the notice's key takes its fields and counts one merge more (R162, second row). -/
def mergeInto (board : List BoardEntry) (n : Notice) : List BoardEntry :=
  board.map fun e => if e.notice.key = n.key then ⟨n, saturate Config.mergeMax (e.merge + 1)⟩ else e

/-- A new entry at the tail (R162, third row). -/
def atTail (board : List BoardEntry) (n : Notice) : List BoardEntry := board ++ [⟨n, 1⟩]

/-- The BOARD_FULL post made for a dropped post (R163). -/
def boardFullPost (mask : BitVec 16) (board : List BoardEntry) : List BoardEntry :=
  if !Notice.boardFull.enabledBy mask then board
  else if holdsKey board .boardFull then mergeInto board .boardFull
  else atTail board .boardFull

/-- A post as the board takes it, by the first row of R162 that applies. -/
def boardPost (mask : BitVec 16) (n : Notice) (board : List BoardEntry) : List BoardEntry :=
  if !n.enabledBy mask then board
  else if holdsKey board n then mergeInto board n
  else if n != .boardFull && keyedCount board < Config.keyedCapacity then atTail board n
  else boardFullPost mask board

/-! ## The outbound arbiter (R165) -/

/-- The arbiter's choice: where the transmitter is IDLE and not halted, the reply slot, else the
report buffer, else the oldest board entry leaves its source for the transmitter (R165). -/
def Bli.arbitrate (b : Bli) : Bli :=
  if b.tx = .idle ∧ b.halted = false then
    match b.replySlot with
    | some m => { b with replySlot := none, tx := .sending (.answer m) }
    | none =>
      match b.report with
      | some r => { b with report := none, tx := .sending (.report r) }
      | none =>
        match b.board with
        | e :: rest => { b with board := rest, tx := .sending (.notice e) }
        | [] => b
  else b

/-- The arbiter's turn at a placement, where the schedule has it act at once. -/
def State.settlePlacement (s : State) (b : Bli) : State :=
  s.setBli (if s.order.eager then b.arbitrate else b)

/-- The building link after a post, judged against the notice mask of the active Bus Parameters at
the moment of the post (R162, R164). -/
def State.posted (s : State) (n : Notice) : Bli :=
  { s.bli with board := boardPost s.tbu.active.bus.mask n s.bli.board }

/-- A block posts a notice (R162). -/
def post (n : Notice) (s : State) : State := s.settlePlacement (s.posted n)

/-- A list of posts, in order. -/
def postAll (ns : List Notice) (s : State) : State := ns.foldl (fun s n => post n s) s

/-- A post made at the end of start-up, before taking begins: the arbiter has no turn until the end of
the event, since START is still on the board, its oldest entry, when taking begins (R164, R202). -/
def postHeld (n : Notice) (s : State) : State := s.setBli (s.posted n)

/-- A list of posts made at the end of start-up, in order. -/
def postAllHeld (ns : List Notice) (s : State) : State := ns.foldl (fun s n => postHeld n s) s

/-- Work done step by step, in order. -/
def runSteps (steps : List (State → State)) (s : State) : State := steps.foldl (fun s f => f s) s

/-- The arbiter's turn at the end of an event, and the schedule's entry for it used up. -/
def finish (s : State) : State :=
  (s.setBli s.bli.arbitrate).setSchedule s.schedule.tail

/-! ## Work for the store (R195, R196) -/

/-- The NVS begins no write while a RESTART is pending and the arbiter has halted (R195). -/
def State.storeHeld (s : State) : Bool := s.mrh.restartPending && s.bli.halted

/-- What a record write captures of its account at the write's start (R195). -/
def captureRecord (d : Dau) (a : Fin 64) : AccountItem :=
  let r := d.accounts.get a
  let zero := r.state == .idle
  { account := a.val
    date := d.ledger
    usedToday := if zero then 0 else r.usedToday
    usedYear := if zero then 0 else r.usedYear
    extension := if zero then 0 else r.extension
    suspended := r.state == .suspended }

/-- The lowest account of the pending-account set. -/
def Nvs.lowestPending (n : Nvs) : Option (Fin 64) := n.pendingAccounts.find? fun _ b => b

/-- An IDLE store with work, not held, begins its next write: the configuration first, else the
lowest pending account (R195). -/
def serveStore (s : State) : State :=
  if s.nvs.state = .idle ∧ s.storeHeld = false then
    if s.nvs.pendingConfig then
      s.setNvs { s.nvs with
        pendingConfig := false, state := .writingConfig, write := some (.config s.tbu.active) }
    else
      match s.nvs.lowestPending with
      | some a =>
        s.setNvs { s.nvs with
          pendingAccounts := s.nvs.pendingAccounts.set a false
          state := .writingRecord
          write := some (.record a (captureRecord s.dau a)) }
      | none => s
  else s

/-- The DAU marks an account pending: ignored by a FAILED store, else the account joins the set and
an IDLE store begins at once (R196). -/
def markAccount (a : Fin 64) (s : State) : State :=
  if s.nvs.state = .failed then s
  else serveStore (s.setNvs { s.nvs with pendingAccounts := s.nvs.pendingAccounts.set a true })

/-- Several accounts marked, in the order given. -/
def markAccounts (as : List (Fin 64)) (s : State) : State := as.foldl (fun s a => markAccount a s) s

/-- The Table Unit's request for a configuration write at a swap (R47, R196). -/
def requestConfigWrite (s : State) : State :=
  if s.nvs.state = .failed then
    post (.commit .notStored) (s.setTbu { s.tbu with commit := .idle })
  else
    let s1 := s.setTbu { s.tbu with commit := .storing }
    serveStore (s1.setNvs { s1.nvs with pendingConfig := true })

/-! ## Per-entry updates of the blocks' tables -/

/-- One zone condition entry replaced. -/
def Cmu.setCond (c : Cmu) (z : Fin 16) (q : CondQ) (e : ZoneCond) : Cmu :=
  { c with conds := c.conds.set z ((c.conds.get z).set q e) }

/-- One zone condition entry. -/
def Cmu.cond (c : Cmu) (z : Fin 16) (q : CondQ) : ZoneCond := (c.conds.get z).get q

/-- One sensor record replaced. -/
def Cmu.setSensor (c : Cmu) (k : Fin 48) (r : SensorRecord) : Cmu :=
  { c with sensors := c.sensors.set k (some r) }

/-- One account's dynamic record replaced. -/
def Dau.setAccount (d : Dau) (a : Fin 64) (r : AccountDyn) : Dau :=
  { d with accounts := d.accounts.set a r }

/-- One zone record of the ZCU replaced. -/
def Zcu.setZone (c : Zcu) (z : Fin 16) (r : ZoneDyn) : Zcu := { c with zones := c.zones.set z r }

/-- One actuator record replaced. -/
def Cgu.setActuator (c : Cgu) (k : Fin 48) (r : ActuatorRecord) : Cgu :=
  { c with actuators := c.actuators.set k (some r) }

/-- One tracker. -/
def Xsu.tracker (x : Xsu) (z : Fin 16) (q : CondQ) : Tracker := (x.trackers.get z).get q

/-- One tracker replaced. -/
def Xsu.setTracker (x : Xsu) (z : Fin 16) (q : CondQ) (t : Tracker) : Xsu :=
  { x with trackers := x.trackers.set z ((x.trackers.get z).set q t) }

end Sys2Proof.Machine
end

