-- ==== Sys2Proof/Machine/Flags.lean ====
section
/-! DEFINITION. The classes, sides, latches and pins that follow from values and tables: sample
classes (R59 to R61), two-sample agreement (R62, R63), coverage (R67), side classes (R68), latches
(R69), shade forcing (R71) and ALERT (R73). -/

namespace Sys2Proof.Machine

open Sys2Proof

/-! ## Sample classes -/

/-- The class of a value against four limits (R59). -/
def classifyFour (v alarmLo warnLo warnHi alarmHi : Int) : Class :=
  if v ≤ alarmLo then .alarmLo
  else if v < warnLo then .warnLo
  else if v ≤ warnHi then .normal
  else if v < alarmHi then .warnHi
  else .alarmHi

/-- The class of a value against two high limits (R60). -/
def classifyTwo (v warnHi alarmHi : Int) : Class :=
  if v ≤ warnHi then .normal else if v < alarmHi then .warnHi else .alarmHi

/-- The class of an RH value in CURVE mode, around the centre of a band (R61). -/
def classifyCurve (v : Int) (centre warn alarm : Nat) : Class :=
  classifyFour v (centre - alarm) (centre - warn) (centre + warn) (centre + alarm)

/-- The class of an accepted sample in a zone; none for RH in CURVE mode while the outdoor
reference band is UNKNOWN (R59 to R61). -/
def sampleClass (t : Tables) (band : Option (Fin 35)) (z : ZoneRec) (q : CondQ) (v : Int) :
    Option Class :=
  match q with
  | .temp => some (classifyFour v (int z.tempAlarmLo) (int z.tempWarnLo) (int z.tempWarnHi)
      (int z.tempAlarmHi))
  | .rh =>
    if z.isCurve then
      band.map fun b => classifyCurve v (t.centre b) (num z.rhWarnHalf) (num z.rhAlarmHalf)
    else some (classifyFour v (num z.rhAlarmLo) (num z.rhWarnLo) (num z.rhWarnHi)
      (num z.rhAlarmHi))
  | .lux => some (classifyTwo v (num z.luxWarnHi) (num z.luxAlarmHi))
  | .uv => some (classifyTwo v (num z.uvWarnHi) (num z.uvAlarmHi))

/-- Two-sample agreement: the confirmed standing and the candidate after a sample of standing `x`
(R62; R63 for the outdoor reference band). -/
def agree {α : Type} [DecidableEq α] (standing candidate : Option α) (x : α) :
    Option α × Option α :=
  match standing with
  | none => (some x, none)
  | some y =>
    if x = y then (some y, none)
    else if candidate = some x then (some x, none)
    else (some y, some x)

/-! ## Side classes and coverage -/

/-- What a record's class counts on the low side (R68). -/
def Class.lowSide : Class → SideClass
  | .warnLo => .warn
  | .alarmLo => .alarm
  | .normal | .warnHi | .alarmHi => .normal

/-- What a record's class counts on the high side (R68). -/
def Class.highSide : Class → SideClass
  | .warnHi => .warn
  | .alarmHi => .alarm
  | .normal | .warnLo | .alarmLo => .normal

/-- The worse of two side classes (R68). -/
def SideClass.worse (a b : SideClass) : SideClass := if a.code ≤ b.code then b else a

/-- The worst of a list of side classes; NORMAL when none is counted (R68). -/
def worstSide (l : List SideClass) : SideClass := l.foldl SideClass.worse .normal

/-- The slots of a zone that sense a condition quantity. -/
def Tables.condSlots (t : Tables) (z : Fin 16) (q : CondQ) : List (Fin 48) :=
  t.slots.indices fun _ r => r.sensesIn q.quantity z

/-- The LIVE records of a zone and quantity. -/
def liveRecords (t : Tables) (c : Cmu) (z : Fin 16) (q : CondQ) : List SensorRecord :=
  (t.condSlots z q).filterMap fun k => (c.sensors.get k).filter fun r => r.health == .live

/-- RH in a CURVE zone while the band is UNKNOWN (R67). -/
def lacksReference (t : Tables) (band : Option (Fin 35)) (z : Fin 16) (q : CondQ) : Bool :=
  q == .rh && (t.zoneRec z).isCurve && band.isNone

/-- Coverage of a zone entry (R67; NONE comes first, assumption log 13). -/
def coverageOf (t : Tables) (c : Cmu) (z : Fin 16) (q : CondQ) : Coverage :=
  if (t.condSlots z q).isEmpty then .none
  else if lacksReference t c.band z q then .blind
  else if (liveRecords t c z q).isEmpty then .blind
  else .live

/-- The classes that count for a zone's sides (R68). -/
def countedClasses (t : Tables) (c : Cmu) (z : Fin 16) (q : CondQ) : List Class :=
  if coverageOf t c z q = .live then (liveRecords t c z q).filterMap fun r => r.cls else []

/-! ## Latches -/

/-- A latch after its side moves from `old` to `new` (R69). -/
def latchAfter (follows : Bool) (old new : SideClass) (latch : Bool) : Bool :=
  if new = .alarm then (if old = .alarm then latch else true)
  else if old = .alarm ∧ follows then false
  else latch

/-- A zone entry recomputed from the sensors' records (R67 to R69). -/
def entryAfter (t : Tables) (c : Cmu) (z : Fin 16) (q : CondQ) (old : ZoneCond) : ZoneCond :=
  let classes := countedClasses t c z q
  let low := if q.hasLow then worstSide (classes.map Class.lowSide) else .normal
  let high := worstSide (classes.map Class.highSide)
  let follows := (t.zoneRec z).follows q
  { low := low
    high := high
    coverage := coverageOf t c z q
    lowLatch := latchAfter follows old.low low old.lowLatch
    highLatch := latchAfter follows old.high high old.highLatch }

/-- A FOLLOWING latch whose side is not ALARM is cleared at a swap (R76). -/
def clearFollowing (follows : Bool) (e : ZoneCond) : ZoneCond :=
  { e with
    lowLatch := e.lowLatch && !(follows && e.low != .alarm)
    highLatch := e.highLatch && !(follows && e.high != .alarm) }

/-! ## Shade forcing and ALERT -/

/-- An entry with an ALARM side or a set latch (R73). -/
def ZoneCond.alarms (e : ZoneCond) : Bool :=
  e.low == .alarm || e.high == .alarm || e.lowLatch || e.highLatch

/-- A high side that forces shades (R71). -/
def ZoneCond.forcesShade (e : ZoneCond) : Bool := e.high == .alarm || e.highLatch

/-- A zone is shade-forced (R71). -/
def shadeForced (t : Tables) (c : Cmu) (z : Fin 16) : Bool :=
  t.zoneEnabled z && ((c.cond z .uv).forcesShade || (c.cond z .lux).forcesShade)

/-- The level of ALERT: some enabled zone has an ALARM side or a set latch (R73). -/
def alertLevel (t : Tables) (c : Cmu) : Bool :=
  t.enabledZones.any fun z => CondQ.all.any fun q => (c.cond z q).alarms

/-! ## Presence -/

/-- The presence state of an all-vacant count under a vacancy hold (R107). -/
def presenceOf (count hold : Nat) : Presence :=
  if count = 0 then .occupied else if hold ≤ count then .vacant else .vacantPending

/-! ## Account states -/

/-- The effective daily allowance in lux·s (R78). -/
def effectiveAllowance (r : AccountRec) (d : AccountDyn) : Nat :=
  (num r.allowance + d.extension) * Config.luxSecondsPerLuxHour

/-- The state of an enabled account that is not SUSPENDED (R85). -/
def evaluated (r : AccountRec) (d : AccountDyn) : AccountState :=
  if r.budgetLuxSeconds ≤ d.usedYear then .annualSpent
  else if effectiveAllowance r d ≤ d.usedToday then .dailySpent
  else .open_

end Sys2Proof.Machine
end

