-- ==== Sys2Proof/Machine/Statistics.lean ====
section
/-! DEFINITION. The Excursion Statistics Unit: change reports (R185), duration (R186), counting
(R187, R188) and its swap work (R191). -/

namespace Sys2Proof.Machine

open Sys2Proof

/-- The bin of a duration in cycle closes (R187). -/
def binOf (duration : Nat) : Fin 8 :=
  if duration ≤ 1 then 0 else if duration ≤ 3 then 1 else if duration ≤ 7 then 2
  else if duration ≤ 15 then 3 else if duration ≤ 31 then 4 else if duration ≤ 63 then 5
  else if duration ≤ 127 then 6 else 7

/-- A bin after one count; a count into a full bin is lost and sets its saturated flag (R187). -/
def Bin.raise (b : Bin) : Bin :=
  if b.count < Config.binMax then { b with count := b.count + 1 } else { b with saturated := true }

/-- Whether an excursion that ends now in a zone is selected (R187 step 2). -/
def Xsu.selects (x : Xsu) (z : Fin 16) : Bool := x.enable && x.zoneMask.getLsbD z.val

/-- An OPEN tracker closes with a count (R187), notified if its bin is in the combine mask (R188). -/
def countExcursion (z : Fin 16) (q : CondQ) (s : State) : State :=
  let x := s.xsu
  let t := x.tracker z q
  let bin := binOf t.duration
  if x.selects z then
    let h := x.histograms.get q
    let x1 := { x with histograms := x.histograms.set q (h.set bin (h.get bin).raise) }
    let s1 := s.setXsu (x1.setTracker z q { t with state := .closed, ending := some .counted })
    if (x.combine.get q).getLsbD bin.val then post (.excursion q z bin t.peak) s1 else s1
  else s.setXsu (x.setTracker z q { t with state := .closed, ending := some .notSelected })

/-- The worse of an entry's two sides. -/
def ZoneCond.worst (e : ZoneCond) : SideClass := e.low.worse e.high

/-- The XSU acts on a change report, by the first row of R185 that applies. -/
def changeReport (z : Fin 16) (q : CondQ) (e : ZoneCond) (s : State) : State :=
  let t := s.xsu.tracker z q
  match t.state with
  | .closed =>
    if e.coverage = .live ∧ e.worst ≠ .normal then
      s.setXsu (s.xsu.setTracker z q ⟨.open_, 0, some e.worst, none⟩)
    else s
  | .open_ =>
    if e.coverage ≠ .live then
      s.setXsu (s.xsu.setTracker z q { t with state := .closed, ending := some .discarded })
    else if e.worst = .normal then countExcursion z q s
    else if e.worst = .alarm then s.setXsu (s.xsu.setTracker z q { t with peak := some .alarm })
    else s

/-- A tracker's duration after a cycle close (R186). -/
def Tracker.afterClose (t : Tracker) : Tracker :=
  match t.state with
  | .open_ => { t with duration := saturate Config.durationMax (t.duration + 1) }
  | .closed => t

/-- The same change to all four quantities. -/
def PerQ.map {α β : Type} (p : PerQ α) (f : α → β) : PerQ β := ⟨f p.temp, f p.rh, f p.lux, f p.uv⟩

/-- The XSU's cycle-close work, on the tables of cycle n (R186). -/
def xsuClose (t : Tables) (s : State) : State :=
  s.setXsu { s.xsu with
    trackers := s.xsu.trackers.mapIdx fun z p =>
      if t.zoneEnabled z then p.map Tracker.afterClose else p }

/-- The XSU's swap work: the trackers of a zone the swap disables, or that was disabled, are
fresh (R191). -/
def xsuSwap (old new : Tables) (s : State) : State :=
  s.setXsu { s.xsu with
    trackers := s.xsu.trackers.mapIdx fun z p =>
      if old.zoneEnabled z && !new.zoneEnabled z then p.map fun _ => Tracker.fresh else p }

end Sys2Proof.Machine
end

