-- ==== Sys2Proof/Machine/Ceiling.lean ====
section
/-! DEFINITION. The Zone Ceiling Unit: ceilings (R115 to R117), presence samples (R109), cycle-close
work (R110, R114), holds (R112, R113) and swap work (R119, R120). The tables are an argument: the
active copy, or at a cycle close the tables of cycle n (R45). -/

namespace Sys2Proof.Machine

open Sys2Proof

/-- An account that puts its zone under dose rest (R116). -/
def accountRests (t : Tables) (d : Dau) (z : Fin 16) (a : Fin 64) : Bool :=
  let r := t.accounts.get a
  r.isEnabled && r.zoneIndex == some z && r.rests &&
    ((d.accounts.get a).state == .dailySpent || (d.accounts.get a).state == .annualSpent)

/-- A zone is under dose rest (R116). -/
def doseRest (t : Tables) (d : Dau) (z : Fin 16) : Bool :=
  t.accounts.any fun a _ => accountRests t d z a

/-- The reason of an enabled zone's ceiling, by the first row of R115 that applies. -/
def ceilingReason (t : Tables) (d : Dau) (z : Fin 16) (r : ZoneDyn) : CeilingReason :=
  if doseRest t d z then .restDose
  else if (t.zoneRec z).restsOnVacancy ∧ r.presence = .vacant ∧ r.hold = none then .restVacant
  else .table

/-- The ceiling that a reason gives (R115). -/
def ceilingValue (z : ZoneRec) : CeilingReason → Nat
  | .table => num z.luxCeiling
  | .restVacant => num z.restLevel
  | .restDose => num z.restLevel

/-- A zone record with ceiling and reason computed (R115). -/
def ZoneDyn.computed (t : Tables) (d : Dau) (z : Fin 16) (r : ZoneDyn) : ZoneDyn :=
  let reason := ceilingReason t d z r
  { r with ceiling := some (ceilingValue (t.zoneRec z) reason), reason := some reason }

/-- An enabled zone's ceiling is recomputed; a change of ceiling or reason is posted (R117). -/
def recompute (t : Tables) (z : Fin 16) (s : State) : State :=
  if t.zoneEnabled z then
    let r := s.zcu.zones.get z
    let r' := r.computed t s.dau z
    if r' = r then s
    else post (.zoneCeiling z r'.ceiling r'.reason) (s.setZcu (s.zcu.setZone z r'))
  else s

/-- Every enabled zone's ceiling recomputed once, in ascending order. -/
def recomputeAll (t : Tables) (s : State) : State :=
  t.enabledZones.foldl (fun s z => recompute t z s) s

/-- An accepted PRESENCE sample (R109). -/
def presenceSample (slot : Fin 48) (z : Fin 16) (vacant : Bool) (s : State) : State :=
  if vacant then s.setZcu { s.zcu with vacantSeen := s.zcu.vacantSeen.set slot true }
  else
    let r := s.zcu.zones.get z
    if r.count = 0 ∧ r.presence = .occupied then s
    else recompute s.tbu.active z
      (s.setZcu (s.zcu.setZone z { r with count := 0, presence := .occupied }))

/-- Every PRESENCE slot of a zone, of which there is at least one, voted VACANT (R110). -/
def allVacant (t : Tables) (c : Zcu) (z : Fin 16) : Bool :=
  !(t.presenceSlots z).isEmpty && (t.presenceSlots z).all fun k => c.vacantSeen.get k

/-- A zone record after the vote combination of a cycle close (R110). -/
def ZoneDyn.combined (hold : Nat) (vacant : Bool) (r : ZoneDyn) : ZoneDyn :=
  let count := if vacant then saturate Config.vacantCountMax (r.count + 1) else 0
  { r with count := count, presence := presenceOf count hold }

/-- A hold after a cycle close of C seconds (R114). -/
def holdAfter (c : Nat) : Option Nat → Option Nat
  | some h => if h ≤ c then none else some (h - c)
  | none => none

/-- A zone record after a cycle close: votes combined, then the hold counted down (R110, R114). -/
def ZoneDyn.afterClose (t : Tables) (c : Zcu) (z : Fin 16) (r : ZoneDyn) : ZoneDyn :=
  if t.zoneEnabled z then
    let r1 := r.combined (num (t.zoneRec z).vacancyHold) (allVacant t c z)
    { r1 with hold := holdAfter (num t.bus.cycleInterval) r1.hold }
  else r

/-- Votes combined and holds counted down in every zone; every vacant-seen flag becomes no (R110,
R114). -/
def combineZones (t : Tables) (s : State) : State :=
  s.setZcu
    { zones := s.zcu.zones.mapIdx fun z r => r.afterClose t s.zcu z
      vacantSeen := Tab.fill 48 false }

/-- The ZCU's cycle-close work on the tables of cycle n, in steps (R110, R114). -/
def zcuCloseSteps (t : Tables) : List (State → State) :=
  combineZones t :: t.enabledZones.map (recompute t)

/-- The node addresses of a zone's PRESENCE slots (R119). -/
def presenceNodes (t : Tables) (z : Fin 16) : List (Option Nat) :=
  (t.presenceSlots z).map fun k => (t.slots.get k).node

/-- Two lists hold the same node addresses. -/
def sameNodes (a b : List (Option Nat)) : Bool := a.all (b.contains ·) && b.all (a.contains ·)

/-- A zone's presence record matched to the new tables, by the first row of R119 that applies. -/
def ZoneDyn.afterSwap (old new : Tables) (z : Fin 16) (r : ZoneDyn) : ZoneDyn :=
  match old.zoneEnabled z, new.zoneEnabled z with
  | false, false => r
  | true, false => ZoneDyn.reset
  | false, true => { r with presence := .occupied, count := 0, hold := none }
  | true, true =>
    if sameNodes (presenceNodes old z) (presenceNodes new z) then
      { r with presence := presenceOf r.count (num (new.zoneRec z).vacancyHold) }
    else { r with presence := .occupied, count := 0 }

/-- The ZCU's matching of presence records at a swap (R119); the flags start at no. -/
def zcuMatch (old new : Tables) (s : State) : State :=
  s.setZcu
    { zones := s.zcu.zones.mapIdx fun z r => r.afterSwap old new z
      vacantSeen := Tab.fill 48 false }

/-- A hold set or released by a request, and the ceiling recomputed (R112, R113). -/
def setHold (z : Fin 16) (h : Option Nat) (s : State) : State :=
  recompute s.tbu.active z
    (s.setZcu (s.zcu.setZone z { s.zcu.zones.get z with hold := h }))

end Sys2Proof.Machine
end

