-- ==== Sys2Proof/Machine/Dose.lean ====
section
/-! DEFINITION. The Dose Account Unit: cycle peak (R81), accrual (R82, R83), evaluation and its
effects (R85, R86), the ledger date (R87 to R91), revisions and link monitors (R92 to R95),
suspending, resuming and seeding (R97 to R99), marks (R100), restore (R101 to R103) and swap work
(R104, R105). -/

namespace Sys2Proof.Machine

open Sys2Proof

/-! ## An account's record written -/

/-- An account's record replaced. -/
def storeAccount (a : Fin 64) (r : AccountDyn) (s : State) : State :=
  s.setDau (s.dau.setAccount a r)

/-- An account's state is no longer `was`: made known to the ZCU, which recomputes the zone the tables
give the account (R86). -/
def tellZone (t : Tables) (a : Fin 64) (was : AccountState) (s : State) : State :=
  if (s.dau.accounts.get a).state = was then s
  else
    match (t.accounts.get a).zoneIndex with
    | some z => recompute t z s
    | none => s

/-- An account's state is no longer `was`: ACCOUNT_STATE posted with what stands (R86). -/
def tellState (a : Fin 64) (was : AccountState) (s : State) : State :=
  let r := s.dau.accounts.get a
  if r.state = was then s else post (.accountState a r.state r.usedToday r.usedYear) s

/-- An account's record written, with the effects of a change of state (R86): the ZCU is told, and
then the post is made. `tell` is false at a swap, where the ZCU makes one recomputation of its own
(R120). -/
def putAccount (t : Tables) (tell : Bool) (a : Fin 64) (r : AccountDyn) (s : State) : State :=
  let was := (s.dau.accounts.get a).state
  let s1 := storeAccount a r s
  tellState a was (if tell then tellZone t a was s1 else s1)

/-- An enabled account that is not SUSPENDED takes the state its counts give (R85). -/
def AccountDyn.evaluate (rec : AccountRec) (r : AccountDyn) : AccountDyn :=
  if r.state = .suspended then r else { r with state := evaluated rec r }

/-- The revision raised by 1, wrapping (R92). -/
def AccountDyn.revised (r : AccountDyn) : AccountDyn := { r with revision := r.revision + 1#16 }

/-! ## Link monitors (R80, R92, R93) -/

/-- An OPEN entry on an account becomes LAPSED (R92). -/
def Monitor.lapse (a : Fin 64) : Monitor → Monitor
  | .open_ e => if e.account = a then .lapsed e else .open_ e
  | .lapsed e => .lapsed e
  | .free => .free

/-- An OPEN entry becomes LAPSED, whatever its account (R105). -/
def Monitor.lapseAny : Monitor → Monitor
  | .open_ e => .lapsed e
  | .lapsed e => .lapsed e
  | .free => .free

/-- Every OPEN entry on an account becomes LAPSED (R92). -/
def Dau.lapse (d : Dau) (a : Fin 64) : Dau :=
  { d with monitors := d.monitors.mapIdx fun _ m => m.lapse a }

/-- The fields of an entry that is not FREE. -/
def Monitor.entry? : Monitor → Option MonitorEntry
  | .free => none
  | .open_ e => some e
  | .lapsed e => some e

/-- An entry's rank after the entry of rank `gone` became FREE (R80). -/
def Monitor.closeRank (gone : Nat) : Monitor → Monitor
  | .free => .free
  | .open_ e => .open_ (if gone < e.order then { e with order := e.order - 1 } else e)
  | .lapsed e => .lapsed (if gone < e.order then { e with order := e.order - 1 } else e)

/-- An entry becomes FREE and the higher ranks close up (R80). -/
def freeMonitor (ms : Tab Monitor 4) (i : Fin 4) : Tab Monitor 4 :=
  match (ms.get i).entry? with
  | none => ms
  | some e => (ms.set i .free).mapIdx fun _ m => m.closeRank e.order

/-- The entry a requester holds, OPEN or LAPSED; a requester holds at most one (R80). -/
def monitorOf (ms : Tab Monitor 4) (requester : Byte) : Option (Fin 4) :=
  ms.find? fun _ m => (m.entry?.map (·.requester)) == some requester

/-- The entry of lowest opening order among those a test selects. -/
def oldestMonitor (ms : Tab Monitor 4) (p : Monitor → Bool) : Option (Fin 4) :=
  (List.finRange 4).foldl (fun best i =>
    if p (ms.get i) then
      match best with
      | none => some i
      | some j =>
        if ((ms.get i).entry?.map (·.order)).getD 0 < ((ms.get j).entry?.map (·.order)).getD 0
        then some i else best
    else best) none

/-- LAPSED. -/
def Monitor.isLapsed : Monitor → Bool
  | .lapsed _ => true
  | .open_ _ => false
  | .free => false

/-- OPEN. -/
def Monitor.isOpen : Monitor → Bool
  | .open_ _ => true
  | .lapsed _ => false
  | .free => false

/-- The entry a new monitor takes (R93 step 2). -/
def chooseMonitor (ms : Tab Monitor 4) : Fin 4 :=
  match ms.find? fun _ m => m == .free with
  | some i => i
  | none =>
    match oldestMonitor ms Monitor.isLapsed with
    | some i => i
    | none => (oldestMonitor ms Monitor.isOpen).getD 0

/-- How many entries are not FREE. -/
def heldMonitors (ms : Tab Monitor 4) : Nat := (ms.indices fun _ m => m != .free).length

/-- The monitor table after a requester opens a monitor on an account (R93 steps 1 to 4). -/
def openMonitor (ms : Tab Monitor 4) (requester : Byte) (a : Fin 64) (revision : Half) :
    Tab Monitor 4 :=
  let ms1 := match monitorOf ms requester with
    | some i => freeMonitor ms i
    | none => ms
  let i := chooseMonitor ms1
  let ms2 := freeMonitor ms1 i
  ms2.set i (.open_ ⟨requester, a, revision, heldMonitors ms2 + 1⟩)

/-! ## Cycle peak and accrual -/

/-- An accepted LUX sample is a candidate for its account's cycle peak (R81). -/
def peakCandidate (a : Fin 64) (v : Nat) (s : State) : State :=
  let r := s.dau.accounts.get a
  if r.state = .idle then s
  else s.setDau (s.dau.setAccount a
    { r with peak := some (match r.peak with | some p => max p v | none => v) })

/-- Every LUX slot that names the account is STALE or NO_DATA; true where no slot names it (R82).
The health is that of the end of the last slot of cycle n. -/
def accountDark (t : Tables) (health : Tab (Option SensorRecord) 48) (a : Fin 64) : Bool :=
  (t.luxSlots a).all fun k =>
    match health.get k with
    | some r => r.health != .live
    | none => true

/-- The table lux ceiling of an account's zone (R82). -/
def tableCeiling (t : Tables) (rec : AccountRec) : Nat :=
  match rec.zoneIndex with
  | some z => num (t.zoneRec z).luxCeiling
  | none => 0

/-- The cycle value of an account, by the first row of R82 that applies. -/
def cycleValue (t : Tables) (health : Tab (Option SensorRecord) 48) (a : Fin 64)
    (r : AccountDyn) : Nat :=
  match r.peak with
  | some p => p
  | none => if accountDark t health a then tableCeiling t (t.accounts.get a) else r.last

/-- The last value after a cycle close: the cycle peak, where there is one (R82, R83). -/
def AccountDyn.takePeak (r : AccountDyn) : AccountDyn :=
  { r with last := r.peak.getD r.last, peak := none }

/-- An enabled account after the accrual of cycle n (R83). -/
def AccountDyn.accrued (t : Tables) (health : Tab (Option SensorRecord) 48) (a : Fin 64)
    (r : AccountDyn) : AccountDyn :=
  if r.state = .suspended then r.takePeak
  else
    let dose := cycleValue t health a r * num t.bus.cycleInterval
    AccountDyn.evaluate (t.accounts.get a)
      { r.takePeak with
        usedToday := saturate Config.doseMax (r.usedToday + dose)
        usedYear := saturate Config.doseMax (r.usedYear + dose) }

/-- Accrual of one account whose state was `was`, in steps of at most one post each (R83, R86). -/
def accrueSteps (t : Tables) (health : Tab (Option SensorRecord) 48) (was : AccountState)
    (a : Fin 64) : List (State → State) :=
  [fun s => storeAccount a ((s.dau.accounts.get a).accrued t health a) s, tellZone t a was,
    tellState a was]

/-- The date watch's work at a cycle close (R91). -/
def watchClose (t : Tables) (s : State) : State :=
  let w := saturate Config.dateWatchLimit (s.dau.dateWatch + num t.bus.cycleInterval)
  if w = Config.dateWatchLimit ∧ s.dau.dateStale = false then
    post (.clock .stale) (s.setDau { s.dau with dateWatch := w, dateStale := true })
  else s.setDau { s.dau with dateWatch := w }

/-- The checkpoint's work at a cycle close (R100). -/
def checkpointClose (t : Tables) (s : State) : State :=
  let c := s.dau.checkpointCounter + num t.bus.cycleInterval
  if num t.bus.checkpoint ≤ c then
    markAccounts t.enabledAccounts (s.setDau { s.dau with checkpointCounter := 0 })
  else s.setDau { s.dau with checkpointCounter := c }

/-- The DAU's cycle-close work on the tables of cycle n, in steps, with the sensors' health and the
accounts as they stood at the end of the last slot (R82, R83, R91, R100). The order of accrual, date
watch and checkpoint is R84's own listing; no rule fixes it: DESIGN CHOICE (assumption log 4). So is
that each account is changed, made known to the ZCU and posted before the next is changed (R83,
R86). -/
def dauCloseSteps (t : Tables) (health : Tab (Option SensorRecord) 48) (d : Dau) :
    List (State → State) :=
  (t.enabledAccounts.flatMap fun a => accrueSteps t health (d.accounts.get a).state a)
    ++ [watchClose t, checkpointClose t]

/-! ## Time of day -/

/-- One date is later than another (R87). -/
def Date.later (a b : Date) : Bool :=
  b.year < a.year || (a.year == b.year && b.day < a.day)

/-- An account after a rollover, evaluated (R88, R89). -/
def AccountDyn.rolled (rec : AccountRec) (annual : Bool) (r : AccountDyn) : AccountDyn :=
  AccountDyn.evaluate rec
    { r.revised with
      usedToday := 0
      extension := 0
      usedYear := if annual then 0 else r.usedYear }

/-- A rollover's work on one account, whole: its record changed, made known to the ZCU, posted and marked
pending (R86, R88, R89). -/
def rollAccount (t : Tables) (annual : Bool) (a : Fin 64) (s : State) : State :=
  let r := (s.dau.accounts.get a).rolled (t.accounts.get a) annual
  markAccount a (putAccount t true a r (s.setDau (s.dau.lapse a)))

/-- A daily rollover, annual too where asked, to a date (R88, R89). The ledger date moves before the
accounts are marked, as R88 lists them, though R87's later-year row names the date last; so a record
captured at the first mark carries the new date: DESIGN CHOICE (assumption log 4). So is that each
account's work is done whole before the next account is changed. -/
def rollover (d : Date) (annual : Bool) (s : State) : State :=
  let t := s.tbu.active
  t.enabledAccounts.foldl (fun s a => rollAccount t annual a s)
    (s.setDau { s.dau with ledger := some d })

/-- An accepted TIME resets the date watch (R91). -/
def acceptTime (s : State) : State :=
  s.setDau { s.dau with dateWatch := 0, dateStale := false }

/-- A TIME date that has passed the access and range checks, by the first row of R87 that applies. -/
def takeDate (d : Date) (s : State) : State :=
  match s.dau.ledger with
  | none =>
    markAccounts s.tbu.active.enabledAccounts
      (acceptTime (s.setDau { s.dau with ledger := some d }))
  | some l =>
    if d = l then acceptTime s
    else if d.later l then acceptTime (rollover d (l.year < d.year) s)
    else post (.clock .regress) s

/-- A date within the range a TIME may carry (R87). -/
def Date.inRange (d : Date) : Bool :=
  2000 ≤ d.year && d.year ≤ 2099 && 1 ≤ d.day && d.day ≤ 366

/-! ## Requests on accounts -/

/-- An extension granted to an account, its requester's entry `i` freed (R95). -/
def grantAccount (a : Fin 64) (i : Fin 4) (amount : Nat) (s : State) : State :=
  let t := s.tbu.active
  let r := s.dau.accounts.get a
  let r' := AccountDyn.evaluate (t.accounts.get a)
    { r.revised with extension := r.extension + amount }
  let s1 := s.setDau { s.dau with monitors := freeMonitor s.dau.monitors i }
  markAccount a (putAccount t true a r' (s1.setDau (s1.dau.lapse a)))

/-- An account changed by a request: revision raised, entries lapsed, posted and marked (R92). -/
def changeAccount (a : Fin 64) (r : AccountDyn) (s : State) : State :=
  markAccount a (putAccount s.tbu.active true a r.revised (s.setDau (s.dau.lapse a)))

/-- An account made SUSPENDED, if it is not (R97). -/
def suspend (a : Fin 64) (s : State) : State :=
  let r := s.dau.accounts.get a
  if r.state = .suspended then s else changeAccount a { r with state := .suspended } s

/-- A SUSPENDED account evaluated out of suspension (R98). -/
def resume (a : Fin 64) (s : State) : State :=
  let r := s.dau.accounts.get a
  if r.state = .suspended then
    changeAccount a { r with state := evaluated (s.tbu.active.accounts.get a) r } s
  else s

/-- An account's used year seeded, in lux·s (R99). -/
def seed (a : Fin 64) (usedYear : Nat) (s : State) : State :=
  let r := { s.dau.accounts.get a with usedYear := usedYear, restoreFailed := false }
  changeAccount a (r.evaluate (s.tbu.active.accounts.get a)) s

/-! ## Restore at start-up -/

/-- A valid account record of the store (R101). -/
def validRecord (a : Fin 64) (item : StoredItem AccountItem) : Option AccountItem :=
  match checkedRecord item with
  | some r =>
    if r.account = a.val ∧ (r.date.all Date.inRange) ∧ r.usedToday ≤ r.usedYear then some r
    else none
  | none => none

/-- The later of two dates that may be absent. -/
def latestDate (a b : Option Date) : Option Date :=
  match a, b with
  | none, d => d
  | d, none => d
  | some x, some y => if y.later x then some y else some x

/-- The ledger date that the records give: the latest of a valid record of an enabled account
(R101). -/
def restoredLedger (t : Tables) (records : Tab (StoredItem AccountItem) 64) : Option Date :=
  t.enabledAccounts.foldl (fun d a =>
    match validRecord a (records.get a) with
    | some r => latestDate d r.date
    | none => d) none

/-- A valid record restored and rolled to the ledger date (R102). -/
def restoredAccount (rec : AccountRec) (ledger : Option Date) (r : AccountItem) : AccountDyn :=
  let sameYear := match r.date, ledger with
    | some d, some l => d.year == l.year
    | _, _ => true
  let sameDay := match r.date, ledger with
    | some d, some l => d == l
    | _, _ => true
  AccountDyn.evaluate rec
    { state := if r.suspended then .suspended else .open_
      usedToday := if sameDay then r.usedToday else 0
      usedYear := if sameYear then r.usedYear else 0
      extension := min (if sameDay then r.extension else 0) (num rec.allowance)
      peak := none
      last := 0
      revision := 0#16
      restoreFailed := false }

/-- An invalid record's account: charged as fully spent for the year (R103). -/
def condemnedAccount (rec : AccountRec) : AccountDyn :=
  AccountDyn.evaluate rec
    { state := .open_
      usedToday := 0
      usedYear := rec.budgetLuxSeconds
      extension := 0
      peak := none
      last := 0
      revision := 0#16
      restoreFailed := true }

/-- An account's dynamic record at the end of restore (R101 to R103). -/
def accountAtStart (t : Tables) (records : Tab (StoredItem AccountItem) 64) (a : Fin 64) :
    AccountDyn :=
  if t.accountEnabled a then
    match validRecord a (records.get a) with
    | some r => restoredAccount (t.accounts.get a) (restoredLedger t records) r
    | none => condemnedAccount (t.accounts.get a)
  else AccountDyn.reset

/-- The DAU's state at the end of restore (R101 to R103). -/
def restoredDau (t : Tables) (records : Tab (StoredItem AccountItem) 64) : Dau :=
  { Dau.reset with
    accounts := Tab.build 64 (accountAtStart t records)
    ledger := restoredLedger t records }

/-- The ACCOUNT_STATE posts at the end of restore: each enabled account that is not OPEN (R103). -/
def restorePosts (t : Tables) (d : Dau) : List Notice :=
  t.enabledAccounts.filterMap fun a =>
    let r := d.accounts.get a
    if r.state = .open_ then none
    else some (.accountState a r.state r.usedToday r.usedYear)

/-! ## Swap -/

/-- An account's record after a swap, by the rows of R104. -/
def AccountDyn.afterSwap (old new : Tables) (a : Fin 64) (r : AccountDyn) : AccountDyn :=
  match old.accountEnabled a, new.accountEnabled a with
  | false, false => r
  | true, false => { AccountDyn.reset with revision := r.revision + 1#16 }
  | false, true => { AccountDyn.reset with state := .open_, revision := r.revision + 1#16 }
  | true, true =>
    AccountDyn.evaluate (new.accounts.get a)
      { r.revised with extension := min r.extension (num (new.accounts.get a).allowance) }

/-- The swap's work on one account: its record, its post, and its mark where the swap disables or
newly enables it (R100, R104). -/
def swapAccount (old new : Tables) (a : Fin 64) (s : State) : State :=
  let s1 := putAccount new false a ((s.dau.accounts.get a).afterSwap old new a) s
  if old.accountEnabled a = new.accountEnabled a then s1 else markAccount a s1

/-- The DAU's swap work (R104, R105), each account's whole before the next is changed: DESIGN CHOICE
(assumption log 4). -/
def dauSwap (old new : Tables) (s : State) : State :=
  (List.finRange 64).foldl (fun s a => swapAccount old new a s)
    (s.setDau { s.dau with monitors := s.dau.monitors.mapIdx fun _ m => m.lapseAny })

end Sys2Proof.Machine
end

