-- ==== Sys2Proof/Machine/Condition.lean ====
section
/-! DEFINITION. The Condition Monitor: sensor results (R54 to R58), the outdoor reference band (R63,
R64), zone entries (R67 to R69, R72), CLEAR LATCH (R70), staleness (R65) and swap work (R75 to
R77). -/

namespace Sys2Proof.Machine

open Sys2Proof

/-! ## Zone entries -/

/-- Side classes or coverage differ: a change the XSU is told of (section 9.2). -/
def ZoneCond.reportable (old new : ZoneCond) : Bool :=
  old.low != new.low || old.high != new.high || old.coverage != new.coverage

/-- The ZONE_CONDITION post for an entry, where the zone's notice enable asks for it (R72). -/
def postCondition (t : Tables) (z : Fin 16) (q : CondQ) (e : ZoneCond) (s : State) : State :=
  if (t.zoneRec z).notifies q then post (.zoneCondition z q e) s else s

/-- The change made known to the XSU (section 9.2). -/
def reportCondition (z : Fin 16) (q : CondQ) (old new : ZoneCond) (s : State) : State :=
  if old.reportable new then changeReport z q new s else s

/-- An entry set, with ALERT at its new level (R73). -/
def setEntry (t : Tables) (z : Fin 16) (q : CondQ) (e : ZoneCond) (s : State) : State :=
  let c := s.cmu.setCond z q e
  s.setCmu { c with alert := alertLevel t c }

/-- An entry brought from `old` to `new`, if a field differs. -/
def changeEntry (t : Tables) (z : Fin 16) (q : CondQ) (old new : ZoneCond) (s : State) : State :=
  if new = old then s else setEntry t z q new s

/-- An entry that is no longer `old` made known to the XSU (section 9.2). -/
def tellStatistics (z : Fin 16) (q : CondQ) (old : ZoneCond) (s : State) : State :=
  reportCondition z q old (s.cmu.cond z q) s

/-- An entry that is no longer `old` posted (R72). -/
def tellBoard (t : Tables) (z : Fin 16) (q : CondQ) (old : ZoneCond) (s : State) : State :=
  if s.cmu.cond z q = old then s else postCondition t z q (s.cmu.cond z q) s

/-- A changed entry announced, in steps: the report to the XSU and the post, in the order the schedule
gives (assumption log 4). -/
def announceSteps (reportFirst : Bool) (t : Tables) (z : Fin 16) (q : CondQ) (old : ZoneCond) :
    List (State → State) :=
  if reportFirst then [tellStatistics z q old, tellBoard t z q old]
  else [tellBoard t z q old, tellStatistics z q old]

/-- An entry of an enabled zone brought from `old` to `new`, and announced if a field changed (R72).
Where one event changes several entries, each is announced before the next is changed, so one
entry's ZONE_CONDITION and the EXCURSION of its report stand before the next entry's: DESIGN CHOICE
(assumption log 4). -/
def moveEntry (t : Tables) (z : Fin 16) (q : CondQ) (old new : ZoneCond) (s : State) : State :=
  runSteps (announceSteps s.order.reportFirst t z q old) (changeEntry t z q old new s)

/-- An entry of an enabled zone recomputed from the records (R67 to R69). -/
def refreshEntry (t : Tables) (z : Fin 16) (q : CondQ) (s : State) : State :=
  if t.zoneEnabled z then
    moveEntry t z q (s.cmu.cond z q) (entryAfter t s.cmu z q (s.cmu.cond z q)) s
  else s

/-- An entry, which stands at `old`, recomputed from the records and announced, in steps (R65, R67 to
R69, R72). -/
def refreshSteps (reportFirst : Bool) (t : Tables) (z : Fin 16) (q : CondQ) (old : ZoneCond) :
    List (State → State) :=
  (fun s => changeEntry t z q old (entryAfter t s.cmu z q old) s)
    :: announceSteps reportFirst t z q old

/-- Every entry of every enabled zone, as they stand in `c`, recomputed in steps, in ascending order
of zone and quantity. -/
def refreshAllSteps (reportFirst : Bool) (t : Tables) (c : Cmu) : List (State → State) :=
  t.enabledZones.flatMap fun z =>
    CondQ.all.flatMap fun q => refreshSteps reportFirst t z q (c.cond z q)

/-- The RH entries of the enabled CURVE zones recomputed: the band has left UNKNOWN (R64). -/
def refreshCurveZones (t : Tables) (s : State) : State :=
  (t.enabledZones.filter fun z => (t.zoneRec z).isCurve).foldl
    (fun s z => refreshEntry t z .rh s) s

/-! ## Sensor results -/

/-- The accepted range of a quantity's samples (R55). -/
def Quantity.accepts (q : Quantity) (v : Int) : Bool :=
  match q with
  | .temp => -400 ≤ v && v ≤ 850
  | .rh => 0 ≤ v && v ≤ 1000
  | .lux => 0 ≤ v && v ≤ 65000
  | .uv => 0 ≤ v && v ≤ 2000
  | .presence => v == 0 || v == 1
  | .outdoor => -400 ≤ v && v ≤ 600

/-- The three acceptance checks, in order (R55). -/
def judgeSample (q : Quantity) (v : Int) (fault warming : Bool) : Acceptance :=
  if fault then .refused .fault
  else if warming then .refused .warming
  else if !q.accepts v then .refused .range
  else .accepted

/-- The posts of a refused sample (R55). -/
def refusalPosts (k : Fin 48) : RefuseReason → List Notice
  | .fault => [.sensorFlag k .fault]
  | .warming => []
  | .range => [.sensorFlag k .fault]

/-- The posts of an accepted sample (R56). -/
def acceptancePosts (k : Fin 48) (r : SensorRecord) (calDue : Bool) : List Notice :=
  (if r.health = .live then [] else [.sensorHealth k .live])
    ++ (if calDue && !r.calDue then [.sensorFlag k .calDue] else [])

/-- A record after an accepted sample (R56). -/
def SensorRecord.accept (r : SensorRecord) (v : Int) (calDue : Bool) : SensorRecord :=
  { r with health := .live, missed := 0, value := some v, calDue := calDue, got := true }

/-- A record after its accepted sample was classified (R62). -/
def SensorRecord.classify (r : SensorRecord) (c : Option Class) : SensorRecord :=
  match c with
  | none => r
  | some x =>
    let (cls, cand) := agree r.cls r.candidate x
    { r with cls := cls, candidate := cand }

/-- An accepted sample of a condition quantity (R57, R59 to R62): the record's class moves and the
slot's zone entry is recomputed. -/
def acceptCondition (k : Fin 48) (z : Fin 16) (q : CondQ) (v : Int) (r : SensorRecord)
    (s : State) : State :=
  let t := s.tbu.active
  let r' := r.classify (sampleClass t s.cmu.band (t.zoneRec z) q v)
  refreshEntry t z q (s.setCmu (s.cmu.setSensor k r'))

/-- An accepted OUTDOOR sample moves the outdoor reference band (R63, R64). -/
def acceptOutdoor (k : Fin 48) (v : Int) (r : SensorRecord) (s : State) : State :=
  let (band, cand) := agree s.cmu.band r.bandCandidate (bandOf v)
  let c := s.cmu.setSensor k { r with bandCandidate := cand }
  let s1 := s.setCmu { c with band := band }
  if s.cmu.band.isNone then refreshCurveZones s.tbu.active s1 else s1

/-- An accepted sample beyond its record (R57). -/
def acceptFurther (k : Fin 48) (slot : SlotRec) (q : Quantity) (v : Int) (r : SensorRecord)
    (s : State) : State :=
  match q.cond, slot.zoneIndex with
  | some c, some z =>
    let s1 := match slot.accountIndex with
      | some a => peakCandidate a v.toNat s
      | none => s
    acceptCondition k z c v r s1
  | none, some z =>
    if q = .presence then presenceSample k z (v == 0) (s.setCmu (s.cmu.setSensor k r))
    else acceptOutdoor k v r s
  | none, none => acceptOutdoor k v r s
  | some _, none => s.setCmu (s.cmu.setSensor k r)

/-- A sample in a GOOD result, accepted or refused (R55 to R57). The posts of the acceptance are made
before the sample is handed on: SENSOR_HEALTH, SENSOR_FLAG as R56 lists them, and then the
ZONE_CONDITION (R57, R72) or the ZONE_CEILING (R109) that it brings: DESIGN CHOICE (assumption log 4). -/
def handleSample (k : Fin 48) (q : Quantity) (v : Int) (fault warming calDue : Bool)
    (s : State) : State :=
  match s.cmu.sensors.get k with
  | none => s
  | some r =>
    match judgeSample q v fault warming with
    | .refused reason => postAll (refusalPosts k reason) s
    | .accepted =>
      acceptFurther k (s.tbu.active.slots.get k) q v (r.accept v calDue)
        (postAll (acceptancePosts k r calDue) s)

/-- The acceptance field of a report standing (R58). -/
def acceptanceOf (q : Quantity) : SlotOutcome → Option Acceptance
  | .good (.sample v fault warming _) => some (judgeSample q v fault warming)
  | _ => none

/-- The standing field of a report standing, after the result has been handled (R58). -/
def standingOf (c : Cmu) (k : Fin 48) (q : Quantity) (o : SlotOutcome) : Standing :=
  match q with
  | .outdoor => .band c.band
  | .presence =>
    match o with
    | .good (.sample v f w _) => .presence (v == 0 && judgeSample .presence v f w == .accepted)
    | _ => .presence false
  | _ => .cls ((c.sensors.get k).bind (·.cls))

/-- A sensor slot's result handled by the CMU, and its standing given to the BLI (R54 to R58,
R158). -/
def sensorResult (k : Fin 48) (q : Quantity) (o : SlotOutcome) (s : State) : State :=
  let s1 := match o with
    | .good (.sample v fault warming calDue) => handleSample k q v fault warming calDue s
    | _ => s
  s1.setBli { s1.bli with
    standings := s1.bli.standings ++ [⟨k, acceptanceOf q o, standingOf s1.cmu k q o⟩] }

/-! ## Staleness -/

/-- A record's missed count at a cycle close, and whether it becomes STALE there (R65). -/
def SensorRecord.missedAfter (limit : Nat) (r : SensorRecord) : Nat :=
  if r.got then r.missed else saturate limit (r.missed + 1)

/-- The record becomes STALE at this cycle close (R65). -/
def SensorRecord.goesStale (limit : Nat) (r : SensorRecord) : Bool :=
  !r.got && r.missedAfter limit == limit && r.health != .stale

/-- A record after a cycle close (R65). -/
def SensorRecord.afterClose (limit : Nat) (r : SensorRecord) : SensorRecord :=
  { r with
    missed := r.missedAfter limit
    health := if r.goesStale limit then .stale else r.health
    got := false }

/-- The slots of the Slot Map of cycle n whose record becomes STALE at its close (R65). -/
def staleSlots (t : Tables) (c : Cmu) : List (Fin 48) :=
  t.slots.indices fun k slot =>
    slot.isSensor && ((c.sensors.get k).any fun r => r.goesStale (num t.bus.staleLimit))

/-- The records of cycle n after its close (R65). -/
def ageSensors (t : Tables) (s : State) : State :=
  s.setCmu { s.cmu with
    sensors := s.cmu.sensors.mapIdx fun k r =>
      if (t.slots.get k).isSensor then r.map (·.afterClose (num t.bus.staleLimit)) else r }

/-- The CMU's cycle-close work on the tables of cycle n, in steps, its state before it being `c`
(R65). -/
def cmuCloseSteps (reportFirst : Bool) (t : Tables) (c : Cmu) : List (State → State) :=
  ageSensors t :: (staleSlots t c).map (fun k => post (.sensorHealth k .stale))
    ++ refreshAllSteps reportFirst t c

/-! ## CLEAR LATCH -/

/-- A side of a zone entry. -/
def ZoneCond.side (e : ZoneCond) : Side → SideClass
  | .low => e.low
  | .high => e.high

/-- A zone entry with a side's latch cleared (R70). -/
def ZoneCond.clearLatch (e : ZoneCond) : Side → ZoneCond
  | .low => { e with lowLatch := false }
  | .high => { e with highLatch := false }

/-- A latch of an enabled zone cleared (R70). -/
def clearLatch (z : Fin 16) (q : CondQ) (side : Side) (s : State) : State :=
  let e := s.cmu.cond z q
  moveEntry s.tbu.active z q e (e.clearLatch side) s

/-! ## Start-up and swap -/

/-- Fresh records for the used SENSOR slots of a Slot Map (R53). -/
def freshSensors (t : Tables) : Tab (Option SensorRecord) 48 :=
  t.slots.mapIdx fun _ slot =>
    slot.sensorQuantity.map fun q => SensorRecord.fresh (num slot.node) q

/-- A fresh entry of an enabled zone with its coverage set, at start-up (R53). -/
def initialConds (t : Tables) (c : Cmu) : Tab (PerQ ZoneCond) 16 :=
  Tab.build 16 fun z =>
    let e := fun q =>
      if t.zoneEnabled z then { ZoneCond.fresh with coverage := coverageOf t c z q }
      else ZoneCond.fresh
    ⟨e .temp, e .rh, e .lux, e .uv⟩

/-- The CMU when start-up enters RUNNING (R53). -/
def cmuAtStart (t : Tables) : Cmu :=
  let c := { Cmu.reset with sensors := freshSensors t }
  { c with conds := initialConds t c }

/-- The old slot whose record a slot of the new Slot Map keeps: same node and quantity (R75). -/
def keptSensor (c : Cmu) (slot : SlotRec) : Option (Fin 48) :=
  match slot.sensorQuantity with
  | none => none
  | some q => c.sensors.find? fun _ r => r.any fun r => some r.node == slot.node && r.quantity == q

/-- The outdoor reference band after a swap (R77). -/
def bandAfterSwap (new : Tables) (c : Cmu) : Option (Fin 35) :=
  match new.outdoorSlot with
  | none => none
  | some k => if (keptSensor c (new.slots.get k)).isSome then c.band else none

/-- A kept record under the new tables (R75). -/
def SensorRecord.kept (old new : Tables) (band : Option (Fin 35)) (was now : Fin 48)
    (r : SensorRecord) : SensorRecord :=
  let zone := (new.slots.get now).zoneIndex
  let moved := (old.slots.get was).zoneIndex != zone
  let unclassed := r.quantity == .rh && band.isNone
    && (zone.any fun z => (new.zoneRec z).isCurve)
  let r1 := if moved || unclassed then { r with cls := none, candidate := none } else r
  { r1 with missed := min r1.missed (num new.bus.staleLimit) }

/-- The sensor records after a swap: kept or fresh (R75). -/
def sensorsAfterSwap (old new : Tables) (c : Cmu) : Tab (Option SensorRecord) 48 :=
  new.slots.mapIdx fun k slot =>
    slot.sensorQuantity.map fun q =>
      match keptSensor c slot with
      | some j =>
        match c.sensors.get j with
        | some r => r.kept old new (bandAfterSwap new c) j k
        | none => SensorRecord.fresh (num slot.node) q
      | none => SensorRecord.fresh (num slot.node) q

/-- The entries of zones that the swap does not leave enabled, or newly enables, are fresh (R76). -/
def clearedConds (old new : Tables) (c : Cmu) : Tab (PerQ ZoneCond) 16 :=
  c.conds.mapIdx fun z p =>
    if old.zoneEnabled z && new.zoneEnabled z then p else ⟨.fresh, .fresh, .fresh, .fresh⟩

/-- One entry rebuilt under the new Zone Table (R76). -/
def rebuildEntry (new : Tables) (z : Fin 16) (q : CondQ) (s : State) : State :=
  let old := s.cmu.cond z q
  let e := clearFollowing ((new.zoneRec z).follows q) (entryAfter new s.cmu z q old)
  moveEntry new z q old e s

/-- Every entry of every zone enabled after the swap rebuilt, in ascending order of zone and quantity,
each announced before the next is rebuilt (R72, R76): DESIGN CHOICE (assumption log 4). -/
def rebuildAll (new : Tables) (s : State) : State :=
  new.enabledZones.foldl (fun s z => CondQ.all.foldl (fun s q => rebuildEntry new z q s) s) s

/-- The CMU's swap work (R75 to R77). -/
def cmuSwap (old new : Tables) (s : State) : State :=
  let c := { s.cmu with
    sensors := sensorsAfterSwap old new s.cmu
    conds := clearedConds old new s.cmu
    band := bandAfterSwap new s.cmu }
  rebuildAll new (s.setCmu { c with alert := alertLevel new c })

end Sys2Proof.Machine
end

