-- ==== Sys2Proof/Machine/Gate.lean ====
section
/-! DEFINITION. The Command Gate: effective target and step (R124, R125), taking a COMMAND (R126 to
R128), settling (R130), the call decision (R131 to R133), answers and misses (R134 to R142) and swap
work (R144 to R146). -/

namespace Sys2Proof.Machine

open Sys2Proof

/-! ## Effective target and step -/

/-- The value range of an actuator kind (section 6 outline). -/
def ActKind.low : ActKind → Int
  | .luminaire => 0 | .humidifier => 0 | .climate => 50 | .shade => 0

/-- The value range of an actuator kind (section 6 outline). -/
def ActKind.high : ActKind → Int
  | .luminaire => 2000 | .humidifier => 1000 | .climate => 350 | .shade => 100

/-- A value in the range of its kind. -/
def ActKind.accepts (k : ActKind) (v : Int) : Bool := k.low ≤ v && v ≤ k.high

/-- The slewed kinds (R125). -/
def ActKind.slewed : ActKind → Bool
  | .humidifier => true | .climate => true | .luminaire => false | .shade => false

/-- A humidifier's limits in a zone: none in CURVE mode while the band is UNKNOWN (R124). -/
def humidLimits (t : Tables) (band : Option (Fin 35)) (z : ZoneRec) : Option (Int × Int) :=
  if z.isCurve then
    band.map fun b =>
      (hold ((t.centre b : Int) - num z.rhWarnHalf) 0 1000,
       hold ((t.centre b : Int) + num z.rhWarnHalf) 0 1000)
  else some (num z.rhWarnLo, num z.rhWarnHi)

/-- A base clamped by the zone's present limits, by kind (R124). A luminaire of a zone without a
ceiling has no effective target: no used slot names such a zone (R120; assumption log 15). -/
def clampTarget (s : State) (kind : ActKind) (z : Fin 16) (base : Int) : Option Int :=
  let t := s.tbu.active
  let zr := t.zoneRec z
  match kind with
  | .luminaire => (s.zcu.zones.get z).ceiling.map fun c => min base (c : Int)
  | .shade => some (if shadeForced t s.cmu z then 100 else base)
  | .humidifier => (humidLimits t s.cmu.band zr).map fun l => hold base l.1 l.2
  | .climate => some (hold (hold base (int zr.tempWarnLo) (int zr.tempWarnHi)) 50 350)

/-- The base: the requested target if present, otherwise the delivered value (R124). -/
def ActuatorRecord.base (r : ActuatorRecord) : Option Int := r.target.or r.delivered

/-- The effective target (R124). -/
def effectiveTarget (s : State) (r : ActuatorRecord) : Option Int :=
  r.base.bind fun b => clampTarget s r.kind r.zone b

/-- The step limit of a slewed kind in a zone (R125). -/
def stepLimit (z : ZoneRec) : ActKind → Nat
  | .humidifier => num z.rhStep
  | .climate => num z.tempStep
  | .luminaire => 0
  | .shade => 0

/-- A value moved toward another by at most a step (R125). -/
def moveToward (v goal : Int) (step : Nat) : Int := hold goal (v - step) (v + step)

/-- The step value of a fresh SET (R125). -/
def stepValue (z : ZoneRec) (kind : ActKind) (delivered goal : Int) : Int :=
  if kind.slewed then moveToward delivered goal (stepLimit z kind) else goal

/-! ## Settling (R130) -/

/-- A SET is in flight. -/
def ActuatorRecord.setInFlight (r : ActuatorRecord) : Bool :=
  match r.inFlight with
  | some ⟨_, .set _ _⟩ => true
  | some ⟨_, .action _ _⟩ => false
  | none => false

/-- The id of an owed SET that the settle check finds settled (R130). -/
def settledSet (s : State) (r : ActuatorRecord) : Option Half :=
  match r.latestSet, r.delivered with
  | some id, some d =>
    if r.setInFlight = false ∧ (r.link = .online ∨ r.link = .suspect)
        ∧ effectiveTarget s r = some d
    then some id else none
  | _, _ => none

/-- One actuator record replaced. -/
def putActuator (k : Fin 48) (r : ActuatorRecord) (s : State) : State :=
  s.setCgu (s.cgu.setActuator k r)

/-- The settle check on the record of a slot (R130). -/
def settleCheck (k : Fin 48) (s : State) : State :=
  match s.cgu.actuators.get k with
  | none => s
  | some r =>
    match settledSet s r with
    | none => s
    | some id =>
      post (.commandOutcome r.node id .done) (putActuator k { r with latestSet := none } s)

/-! ## The call decision (R131 to R133) -/

/-- An in-flight SET value passes the test of its kind at a call (R132). -/
def admissible (s : State) (r : ActuatorRecord) (v : Int) : Bool :=
  match r.kind with
  | .luminaire =>
    match (s.zcu.zones.get r.zone).ceiling with
    | some c => v ≤ c
    | none => false
  | .shade => effectiveTarget s r == some v
  | .humidifier | .climate =>
    match effectiveTarget s r, r.delivered with
    | some e, some d =>
      min d e ≤ v && v ≤ max d e
        && (v - d).natAbs ≤ stepLimit (s.tbu.active.zoneRec r.zone) r.kind
    | _, _ => false

/-- The value of the fresh SET a call would make: where delivered value and effective target exist
and differ (R131). -/
def freshSet (s : State) (r : ActuatorRecord) : Option Int :=
  match r.delivered, effectiveTarget s r with
  | some d, some e =>
    if d = e then none else some (stepValue (s.tbu.active.zoneRec r.zone) r.kind d e)
  | _, _ => none

/-- A record with a fresh SET placed in flight, its tag drawn (R131, R133). -/
def ActuatorRecord.placeSet (r : ActuatorRecord) (v : Int) : ActuatorRecord :=
  { r with inFlight := some ⟨r.nextTag, .set v r.latestSet⟩, nextTag := r.nextTag + 1#3 }

/-- A record whose oldest queued ACTION is placed in flight, its tag drawn (R131, R133). -/
def ActuatorRecord.placeAction (r : ActuatorRecord) (a : QueuedAction) (rest : List QueuedAction) :
    ActuatorRecord :=
  { r with
    queue := rest
    inFlight := some ⟨r.nextTag, .action a.code a.id⟩
    nextTag := r.nextTag + 1#3 }

/-- Steps 3 to 7 of the call decision; no command is in flight (R131). The call is none to skip. -/
def decideIdle (s : State) (r : ActuatorRecord) : ActuatorRecord × Option Call :=
  match r.queue with
  | a :: rest => (r.placeAction a rest, some (.action a.code r.nextTag))
  | [] =>
    if r.delivered = none then (r, some .poll)
    else
      match freshSet s r with
      | some v => (r.placeSet v, some (.set v r.nextTag))
      | none =>
        if num s.tbu.active.bus.keepAlive ≤ r.sinceCall then (r, some .poll) else (r, none)

/-- The call decision on a record, after the settle check (R131). -/
def decideCall (s : State) (r : ActuatorRecord) : ActuatorRecord × Option Call :=
  if r.link = .lost then
    if num s.tbu.active.bus.keepAlive ≤ r.sinceCall then (r, some .poll) else (r, none)
  else
    match r.inFlight with
    | some ⟨tag, .action code _⟩ => (r, some (.action code tag))
    | some ⟨tag, .set v _⟩ =>
      if admissible s r v then (r, some (.set v tag))
      else
        let r1 := { r with inFlight := none }
        match freshSet s r1 with
        | some w => (r1.placeSet w, some (.set w r1.nextTag))
        | none => decideIdle s r1
    | none => decideIdle s r

/-- What the Command Gate answers at the start of an actuator slot (R12, R131); a slot without a
record is skipped. -/
def callDecision (k : Fin 48) (s : State) : State × Option Call :=
  let s1 := settleCheck k s
  match s1.cgu.actuators.get k with
  | none => (s1, none)
  | some r =>
    let d := decideCall s1 r
    (putActuator k d.1 s1, d.2)

/-! ## Answers and misses (R134 to R142) -/

/-- Cycles since last call at a slot's end (R134). -/
def sinceCallAfter (n : Nat) : SlotOutcome → Nat
  | .skipped => saturate Config.sinceCallMax (n + 1)
  | _ => 0

/-- A GOOD answer is usable (R135). -/
def usable (r : ActuatorRecord) : Answer → Bool
  | .status v _ => r.kind.accepts v
  | .echo tag v _ => (r.inFlight.map (·.tag)) == some tag && r.kind.accepts v
  | .notReady => true
  | .sample _ _ _ _ => false

/-- The outcome counts as a miss (R140). -/
def isMiss (r : ActuatorRecord) : SlotOutcome → Bool
  | .good a => !usable r a
  | .missing | .garbled | .wrongNode | .overlong => true
  | .collided | .skipped => false

/-- A usable ECHO of an in-flight ACTION or SET: the record after it and its posts (R136). -/
def echoed (r : ActuatorRecord) (v : Int) : ActuatorRecord × List Notice :=
  let r1 := { r with delivered := some v, inFlight := none }
  match r.inFlight with
  | some ⟨_, .action _ id⟩ => (r1, [.commandOutcome r.node id .done])
  | some ⟨_, .set w _⟩ =>
    if v = w then (r1, [])
    else
      ({ r1 with target := none, latestSet := none },
       match r.latestSet with
       | some id => [.commandOutcome r.node id .failed]
       | none => [])
  | none => (r1, [])

/-- The FAULT flag of an answer (R138). -/
def Answer.faultFlag : Answer → Bool
  | .status _ f => f
  | .echo _ _ f => f
  | .notReady => false
  | .sample _ _ _ _ => false

/-- A record after the contents of a usable answer, with its posts (R136, R137). -/
def answered (r : ActuatorRecord) : Answer → ActuatorRecord × List Notice
  | .echo _ v _ => echoed r v
  | .status v _ => ({ r with delivered := some v }, [])
  | .notReady => (r, [])
  | .sample _ _ _ _ => (r, [])

/-- A good answer: contents, FAULT, and the link state ONLINE (R136 to R140, R142). That a FAULT of a
LOST actuator is posted before its ACTUATOR_STATE BACK is R135's own listing, which fixes no order of
the two: DESIGN CHOICE (assumption log 4). -/
def goodAnswer (r : ActuatorRecord) (a : Answer) : ActuatorRecord × List Notice :=
  let x := answered r a
  ({ x.1 with miss := 0, link := .online },
   x.2 ++ (if a.faultFlag then [.actuatorFault r.node] else [])
     ++ (if r.link = .lost then [.actuatorState r.node .back] else []))

/-- The outcomes LOST of a record's in-flight and queued ACTIONs (R141). -/
def lostOutcomes (r : ActuatorRecord) : List Notice :=
  (match r.inFlight with
    | some ⟨_, .action _ id⟩ => [.commandOutcome r.node id .lost]
    | some ⟨_, .set _ _⟩ => []
    | none => [])
    ++ r.queue.map fun a => .commandOutcome r.node a.id .lost

/-- An actuator becomes LOST (R141): the record after it and its posts. -/
def loseActuator (r : ActuatorRecord) : ActuatorRecord × List Notice :=
  ({ r with link := .lost, inFlight := none, queue := [] },
   .actuatorState r.node .lost :: lostOutcomes r)

/-- A miss under the miss limit M (R139, R140). -/
def missed (limit : Nat) (r : ActuatorRecord) : ActuatorRecord × List Notice :=
  let r1 := { r with miss := saturate limit (r.miss + 1) }
  if r.link = .lost then (r1, [])
  else if r1.miss < limit then ({ r1 with link := .suspect }, [])
  else loseActuator r1

/-- A miss that takes an actuator that was not LOST to M misses (R141). -/
def losesActuator (limit : Nat) (r : ActuatorRecord) (o : SlotOutcome) : Bool :=
  isMiss r o && r.link != .lost && limit ≤ r.miss + 1

/-- A record after its slot's outcome, with the posts (R134, R135). -/
def slotAnswered (limit : Nat) (r : ActuatorRecord) (o : SlotOutcome) :
    ActuatorRecord × List Notice :=
  let r1 := { r with sinceCall := sinceCallAfter r.sinceCall o }
  match o with
  | .good a => if usable r1 a then goodAnswer r1 a else missed limit r1
  | .missing | .garbled | .wrongNode | .overlong => missed limit r1
  | .collided | .skipped => (r1, [])

/-- An actuator slot's outcome handled by the CGU, then the settle check (R135). -/
def actuatorResult (k : Fin 48) (o : SlotOutcome) (s : State) : State :=
  match s.cgu.actuators.get k with
  | none => s
  | some r =>
    let x := slotAnswered (num s.tbu.active.bus.missLimit) r o
    settleCheck k (postAll x.2 (putActuator k x.1 s))

/-! ## Taking a COMMAND (R126 to R128) -/

/-- What a COMMAND asks for, where its body has the COMMAND length and a known kind (R204). -/
inductive Asked where
  | set (value : Half)
  | action (code : Half)
  deriving DecidableEq, Repr

/-- The fields of a COMMAND of the right length and kind. -/
structure Command where
  id : Half
  node : Nat
  asked : Asked
  deriving DecidableEq, Repr

/-- A COMMAND body read (R204); none for check 3 of R126. -/
def parseCommand : List Byte → Option Command
  | [i1, i0, node, kind, v1, v0] =>
    if kind = 1#8 then some ⟨halfOf i1 i0, node.toNat, .set (halfOf v1 v0)⟩
    else if kind = 2#8 then some ⟨halfOf i1 i0, node.toNat, .action (halfOf v1 v0)⟩
    else none
  | _ => none

/-- The command id a RESULT carries: 0 where the body is too short to hold one (R204). -/
def commandId : List Byte → Half
  | i1 :: i0 :: _ => halfOf i1 i0
  | _ => 0#16

/-- The node field a denial records: none where the body is too short to hold it (R176). -/
def commandNode : List Byte → Option (List Byte)
  | _ :: _ :: node :: _ => some [node]
  | _ => none

/-- A SET value as the actuator's value: signed for CLIMATE, unsigned otherwise (R205). -/
def setValue (kind : ActKind) (v : Half) : Int :=
  match kind with
  | .climate => v.toInt
  | .luminaire | .humidifier | .shade => v.toNat

/-- Checks 4 to 9 of R126: the status of the refusal, or the actuator's slot and record. An action code
is the whole 2-byte field, so one above 255 is RANGE: DEDUCED (assumption log 14). -/
def judgeCommand (s : State) (c : Command) : Status ⊕ (Fin 48 × ActuatorRecord) :=
  match s.tbu.active.slotOfNode c.node with
  | none => .inl .unknownNode
  | some k =>
    match s.cgu.actuators.get k with
    | none => .inl .notActuator
    | some r =>
      match c.asked with
      | .set v =>
        if !r.kind.accepts (setValue r.kind v) then .inl .range
        else if r.kind = .humidifier ∧ (s.tbu.active.zoneRec r.zone).isCurve ∧ s.cmu.band = none
        then .inl .noReference
        else .inr (k, r)
      | .action code =>
        if (ActionCode.ofCode code.toNat).isNone then .inl .range
        else if r.link = .lost then .inl .actuatorLost
        else if Config.actionQueueCapacity ≤ r.queue.length then .inl .queueFull
        else .inr (k, r)

/-- A taken SET (R127): the record, the posts and the settle check. -/
def takeSet (k : Fin 48) (r : ActuatorRecord) (id : Half) (v : Int) (s : State) : State :=
  let posts := match r.latestSet with
    | some old => [Notice.commandOutcome r.node old .superseded]
    | none => []
  settleCheck k
    (putActuator k { r with target := some v, latestSet := some id } (postAll posts s))

/-- The RESULT of a taken SET (R127). -/
def setResult (s : State) (r : ActuatorRecord) (id : Half) (v : Int) : CmdResult :=
  let e := effectiveTarget s { r with target := some v }
  ⟨id, .taken, .set e (e != some v) (r.link == .unknown || r.link == .lost)⟩

/-- A taken ACTION joins the tail of the queue (R128). -/
def takeAction (k : Fin 48) (r : ActuatorRecord) (id : Half) (code : ActionCode) (s : State) :
    State :=
  putActuator k { r with queue := r.queue ++ [⟨id, code⟩] } s

/-- Checks 3 to 9 of R126 and the taking, once NOT_RUNNING and DENIED are past. -/
def commandEffect (body : List Byte) (s : State) : State × CmdResult :=
  match parseCommand body with
  | none => (s, ⟨commandId body, .range, .nothing⟩)
  | some c =>
    match judgeCommand s c with
    | .inl status => (s, ⟨c.id, status, .nothing⟩)
    | .inr (k, r) =>
      match c.asked with
      | .set v =>
        let x := setValue r.kind v
        (takeSet k r c.id x s, setResult s r c.id x)
      | .action code =>
        match ActionCode.ofCode code.toNat with
        | some a => (takeAction k r c.id a s, ⟨c.id, .taken, .action (r.queue.length + 1)⟩)
        | none => (s, ⟨c.id, .range, .nothing⟩)

/-! ## Start-up and swap -/

/-- A fresh record for an ACTUATOR slot (R122). -/
def freshActuator (k : Fin 48) (slot : SlotRec) : Option ActuatorRecord :=
  match slot.actuatorKind, slot.zoneIndex with
  | some kind, some z => some (ActuatorRecord.fresh (num slot.node) kind z k)
  | _, _ => none

/-- Fresh records for every ACTUATOR slot (R123). -/
def cguAtStart (t : Tables) : Cgu := ⟨t.slots.mapIdx freshActuator⟩

/-- A record and a slot of the new Slot Map match: node and kind (R144). -/
def ActuatorRecord.fits (r : ActuatorRecord) (slot : SlotRec) : Bool :=
  slot.node == some r.node && slot.actuatorKind == some r.kind

/-- The record a slot of the new Slot Map keeps (R144). -/
def keptActuator (c : Cgu) (slot : SlotRec) : Option ActuatorRecord :=
  ((c.actuators.toList.filterMap id).find? fun r => r.fits slot)

/-- Whether the new Slot Map keeps a record (R144). -/
def keepsRecord (new : Tables) (r : ActuatorRecord) : Bool := new.slots.any fun _ slot => r.fits slot

/-- The outcomes WITHDRAWN of a discarded record (R145). -/
def withdrawnOutcomes (r : ActuatorRecord) : List Notice :=
  (match r.latestSet with
    | some id => [Notice.commandOutcome r.node id .withdrawn]
    | none => [])
    ++ (match r.inFlight with
      | some ⟨_, .action _ id⟩ => [Notice.commandOutcome r.node id .withdrawn]
      | some ⟨_, .set _ _⟩ => []
      | none => [])
    ++ r.queue.map fun a => .commandOutcome r.node a.id .withdrawn

/-- A kept record held to the new miss limit, with the posts of a loss (R146). -/
def heldToLimit (limit : Nat) (r : ActuatorRecord) : ActuatorRecord × List Notice :=
  let r1 := { r with miss := if r.link = .lost then limit else min r.miss limit }
  if r.link = .suspect ∧ r1.miss = limit then loseActuator r1 else (r1, [])

/-- A slot of the new Slot Map with its record and the posts of the swap (R144, R146). -/
def swappedActuator (new : Tables) (c : Cgu) (k : Fin 48) (slot : SlotRec) :
    Option (ActuatorRecord × List Notice) :=
  match freshActuator k slot with
  | none => none
  | some f =>
    match keptActuator c slot with
    | some r => some (heldToLimit (num new.bus.missLimit) { r with slot := k, zone := f.zone })
    | none => some (f, [])

/-- The CGU's swap work: discarded records' outcomes, then the records of the new Slot Map
(R144 to R146). -/
def cguSwap (new : Tables) (s : State) : State :=
  let gone := (s.cgu.actuators.toList.filterMap id).filter fun r => !keepsRecord new r
  let made := new.slots.mapIdx fun k slot => swappedActuator new s.cgu k slot
  postAll (made.toList.flatMap fun x => (x.map (·.2)).getD [])
    (postAll (gone.flatMap withdrawnOutcomes)
      (s.setCgu ⟨made.mapIdx fun _ x => x.map (·.1)⟩))

end Sys2Proof.Machine
end

