-- ==== Sys2Proof/Machine/Validation.lean ====
section
/-! DEFINITION. Validation of a set of tables (R40 to R42): the request condition and the thirteen
table checks in their order, each with the record it reports. Start-up judges the configuration
image by the same checks (R199). -/

namespace Sys2Proof.Machine

open Sys2Proof

/-- The first failure of a check: table and index. -/
abbrev Failure := Option (TableId × Nat)

/-- A field is present and within a range. -/
def within (f : Option Nat) (lo hi : Nat) : Bool := f.any fun v => lo ≤ v && v ≤ hi

/-- A signed field is present and within a range. -/
def withinInt (f : Option Int) (lo hi : Int) : Bool := f.any fun v => lo ≤ v && v ≤ hi

/-- The lowest record of a table that a test finds failing. -/
def firstFailing {α : Type} {n : Nat} (id : TableId) (t : Tab α n) (bad : Fin n → α → Bool) :
    Failure :=
  (t.find? bad).map fun i => (id, i.val)

/-! ## FIELD_RANGE (R41, check 1) -/

/-- The Bus Parameters fields are in range (R29). -/
def BusRec.inRange (r : BusRec) : Bool :=
  within r.cycleInterval 1 30 && within r.staleLimit 1 15 && within r.missLimit 1 15
    && within r.keepAlive 1 255 && within r.checkpoint 300 3600 && num r.checkpoint % 60 == 0

/-- The fields that R30 requires of a SENSOR slot are in range. -/
def SlotRec.sensorInRange (r : SlotRec) : Bool :=
  within r.node 1 62 && within r.quantity 0 5
    && (r.senses .outdoor || within r.zone 0 15)
    && (!r.senses .lux || within r.account 0 63)

/-- The fields that R30 requires of an ACTUATOR slot are in range. -/
def SlotRec.actuatorInRange (r : SlotRec) : Bool :=
  within r.node 1 62 && within r.kind 0 3 && within r.zone 0 15

/-- A Slot Map record passes FIELD_RANGE (R30, R41). -/
def SlotRec.inRange (r : SlotRec) : Bool :=
  within r.use 0 2 && (!r.isSensor || r.sensorInRange) && (!r.isActuator || r.actuatorInRange)

/-- The four RH limits or the two half-widths, by mode (R31). -/
def ZoneRec.rhInRange (r : ZoneRec) : Bool :=
  within r.rhMode 0 1 &&
    if r.isCurve then within r.rhWarnHalf 1 300 && within r.rhAlarmHalf 1 300
    else within r.rhAlarmLo 0 1000 && within r.rhWarnLo 0 1000 && within r.rhWarnHi 0 1000
      && within r.rhAlarmHi 0 1000

/-- The four TEMP limits (R31). -/
def ZoneRec.tempInRange (r : ZoneRec) : Bool :=
  withinInt r.tempAlarmLo (-400) 850 && withinInt r.tempWarnLo (-400) 850
    && withinInt r.tempWarnHi (-400) 850 && withinInt r.tempAlarmHi (-400) 850

/-- The LUX and UV limits (R31). -/
def ZoneRec.lightInRange (r : ZoneRec) : Bool :=
  within r.luxWarnHi 0 65000 && within r.luxAlarmHi 0 65000 && within r.uvWarnHi 0 2000
    && within r.uvAlarmHi 0 2000

/-- Ceiling, rest, hold and step fields (R31). The rest level's range is the lux ceiling's; that it
is no greater than the ceiling is REST_LEVEL's matter (assumption log 12). -/
def ZoneRec.ceilingInRange (r : ZoneRec) : Bool :=
  within r.luxCeiling 0 2000 && within r.restLevel 0 2000 && within r.restOnVacancy 0 1
    && within r.vacancyHold 1 255 && within r.rhStep 1 50 && within r.tempStep 1 50

/-- One enumerated field of two values for each quantity. -/
def allTwoValued (p : PerQ (Option Nat)) : Bool := CondQ.all.all fun q => within (p.get q) 0 1

/-- A Zone Table record passes FIELD_RANGE (R31, R41). -/
def ZoneRec.inRange (r : ZoneRec) : Bool :=
  within r.enabled 0 1 &&
    (!r.isEnabled || (r.tempInRange && r.rhInRange && r.lightInRange && r.ceilingInRange
      && allTwoValued r.latch && allTwoValued r.notice))

/-- An Account Table record passes FIELD_RANGE (R33, R41). -/
def AccountRec.inRange (r : AccountRec) : Bool :=
  within r.enabled 0 1 &&
    (!r.isEnabled || (within r.zone 0 15 && within r.budget 1 10000 && within r.allowance 1 65535
      && within r.spend 0 1))

/-- A Requester Table record passes FIELD_RANGE (R34, R41). -/
def RequesterRec.inRange (r : RequesterRec) : Bool :=
  within r.used 0 1 && (!r.isUsed || (within r.address 1 254 && within r.level 0 2))

/-- FIELD_RANGE (R41, check 1). -/
def fieldRange (t : Tables) : Failure :=
  if !t.bus.inRange then some (.bus, 0)
  else
    (firstFailing .slotMap t.slots fun _ r => !r.inRange).or <|
    (firstFailing .zone t.zones fun _ r => !r.inRange).or <|
    (firstFailing .drift t.drift fun _ c => !within c 0 1000).or <|
    (firstFailing .account t.accounts fun _ r => !r.inRange).or <|
    firstFailing .requester t.requesters fun _ r => !r.inRange

/-! ## The other record checks (R41) -/

/-- A used slot has a field that R30 does not give for its use and quantity. -/
def SlotRec.misshapen (r : SlotRec) : Bool :=
  (r.isSensor && (r.kind.isSome || (r.senses .outdoor && r.zone.isSome)
    || (!r.senses .lux && r.account.isSome)))
  || (r.isActuator && (r.quantity.isSome || r.account.isSome))

/-- SLOT_SHAPE (R41, check 2). -/
def slotShape (t : Tables) : Failure := firstFailing .slotMap t.slots fun _ r => r.misshapen

/-- Four limits in strict order. -/
def strictOrder (a b c d : Int) : Bool := a < b && b < c && c < d

/-- The limits of a zone are in order. -/
def ZoneRec.ordered (r : ZoneRec) : Bool :=
  strictOrder (int r.tempAlarmLo) (int r.tempWarnLo) (int r.tempWarnHi) (int r.tempAlarmHi)
    && (if r.isCurve then num r.rhWarnHalf < num r.rhAlarmHalf
        else strictOrder (num r.rhAlarmLo) (num r.rhWarnLo) (num r.rhWarnHi) (num r.rhAlarmHi))
    && num r.luxWarnHi < num r.luxAlarmHi && num r.uvWarnHi < num r.uvAlarmHi

/-- BAND_ORDER (R41, check 3). -/
def bandOrder (t : Tables) : Failure :=
  firstFailing .zone t.zones fun _ r => r.isEnabled && !r.ordered

/-- REST_LEVEL (R41, check 4). -/
def restLevel (t : Tables) : Failure :=
  firstFailing .zone t.zones fun _ r => r.isEnabled && num r.luxCeiling < num r.restLevel

/-! ## The cross-record checks (R42) -/

/-- How many slots below an index satisfy a test. -/
def countBelow (t : Tables) (k : Fin 48) (p : SlotRec → Bool) : Nat :=
  (t.slots.indices fun j r => j < k && p r).length

/-- NODE_DUPLICATE: the lowest slot with the node of a used slot below it (R42, check 5). -/
def nodeDuplicate (t : Tables) : Failure :=
  firstFailing .slotMap t.slots fun k r =>
    r.isUsed && 0 < countBelow t k fun q => q.isUsed && q.node == r.node

/-- A zone field that names a zone that is not enabled. -/
def namesDisabledZone (t : Tables) (zone : Option Nat) : Bool :=
  zone.any fun z => !((finOf 16 z).any t.zoneEnabled)

/-- ZONE_DISABLED (R42, check 6). -/
def zoneDisabled (t : Tables) : Failure :=
  (firstFailing .slotMap t.slots fun _ r => r.isUsed && namesDisabledZone t r.zone).or
    (firstFailing .account t.accounts fun _ r => r.isEnabled && namesDisabledZone t r.zone)

/-- A LUX slot's account is enabled and of the slot's zone. -/
def accountAgrees (t : Tables) (r : SlotRec) : Bool :=
  r.accountIndex.any fun a => t.accountEnabled a && (t.accounts.get a).zone == r.zone

/-- ACCOUNT_MISMATCH (R42, check 7). -/
def accountMismatch (t : Tables) : Failure :=
  firstFailing .slotMap t.slots fun _ r => r.senses .lux && !accountAgrees t r

/-- ACCOUNT_SLOTS: the lowest LUX slot with four below it that name its account (R42, check 8). -/
def accountSlots (t : Tables) : Failure :=
  firstFailing .slotMap t.slots fun k r =>
    r.senses .lux && 4 ≤ countBelow t k fun q => q.senses .lux && q.account == r.account

/-- PRESENCE_SLOTS: the lowest PRESENCE slot with six below it in its zone (R42, check 9). -/
def presenceSlotsCheck (t : Tables) : Failure :=
  firstFailing .slotMap t.slots fun k r =>
    r.senses .presence && 6 ≤ countBelow t k fun q => q.senses .presence && q.zone == r.zone

/-- OUTDOOR_SLOTS: the second OUTDOOR slot (R42, check 10). -/
def outdoorSlots (t : Tables) : Failure :=
  firstFailing .slotMap t.slots fun k r =>
    r.senses .outdoor && 1 ≤ countBelow t k fun q => q.senses .outdoor

/-- CURVE_NO_OUTDOOR (R42, check 11). -/
def curveNoOutdoor (t : Tables) : Failure :=
  firstFailing .zone t.zones fun _ r => r.isEnabled && r.isCurve && t.outdoorSlot.isNone

/-- The centres of a band and of the band below it differ by more than 50. -/
def stepsTooFar (t : Tables) (b : Fin 35) : Bool :=
  match b.val with
  | 0 => false
  | b' + 1 =>
    match finOf 35 b' with
    | some c => 50 < ((t.centre b : Int) - t.centre c).natAbs
    | none => false

/-- CURVE_STEP (R42, check 12). -/
def curveStep (t : Tables) : Failure :=
  firstFailing .drift t.drift fun b _ => stepsTooFar t b

/-- REQUESTER_DUPLICATE (R42, check 13). -/
def requesterDuplicate (t : Tables) : Failure :=
  firstFailing .requester t.requesters fun i r =>
    r.isUsed && t.requesters.any fun j q => j < i && q.isUsed && q.address == r.address

/-! ## Validation -/

/-- The request condition of a COMMIT (R40). -/
def noSlots (t : Tables) : Failure :=
  if t.slots.any fun _ r => r.isUsed then none else some (.slotMap, 0)

/-- Every check in its order (R40 to R42). -/
def checks : List (CheckName × (Tables → Failure)) :=
  [(.noSlots, noSlots), (.fieldRange, fieldRange), (.slotShape, slotShape),
   (.bandOrder, bandOrder), (.restLevel, restLevel), (.nodeDuplicate, nodeDuplicate),
   (.zoneDisabled, zoneDisabled), (.accountMismatch, accountMismatch),
   (.accountSlots, accountSlots), (.presenceSlots, presenceSlotsCheck),
   (.outdoorSlots, outdoorSlots), (.curveNoOutdoor, curveNoOutdoor), (.curveStep, curveStep),
   (.requesterDuplicate, requesterDuplicate)]

/-- The first failure of the first failing check: table, index and check name; none for valid
tables (R40 to R42). -/
def validate (t : Tables) : Option (TableId × Nat × CheckName) :=
  checks.findSome? fun c => (c.2 t).map fun f => (f.1, f.2, c.1)

/-- The configuration image is valid: its check code agrees and its tables pass every check
(R199). -/
def validImage (item : StoredItem Tables) : Option Tables :=
  match checkedImage item with
  | some t => if (validate t).isNone then some t else none
  | none => none

end Sys2Proof.Machine
end

