-- ==== Sys2Proof/Machine/Close.lean ====
section
/-! DEFINITION. The start of a cycle (R3, R4, R5), the swap (R44, R46), the REPORT (R159) and cycle
close (R23). The order in which the blocks take a close or a swap comes from the schedule
(assumption log 4). -/

namespace Sys2Proof.Machine

open Sys2Proof

/-! ## The start of a cycle -/

/-- The start of a cycle mark: the timer is loaded with C and the slot count taken from the active
Slot Map, the slot results are emptied, no slot is in progress, and the mark begins (R1, R4, R5, R6,
R24). -/
def Flc.beginMark (t : Tables) (cycle : Half) (f : Flc) : Flc :=
  { f with
    state := .mark
    cycle := cycle
    timer := some (num t.bus.cycleInterval)
    slotCount := some t.slotCount
    slot := none
    phase := none
    results := []
    driverEnable := true
    txd := .mark }

/-- The FLC leaves STOPPED: cycle 0 begins with the active tables (R3). -/
def startCycling (s : State) : State := s.setFlc (s.flc.beginMark s.tbu.active 0#16)

/-! ## Orders of blocks -/

/-- The blocks a default order names, those the schedule names first (assumption log 4). -/
def completeOrder (named default : List Block) : List Block :=
  (named.filter fun b => default.contains b).eraseDups ++ default.filter fun b => !named.contains b

/-- The blocks whose close work can be ordered, in the order of R23: the XSU's is done first of all
(R186), and the Table Unit's is the swap. -/
def closeBlocks : List Block := [.dau, .zcu, .cmu, .bli]

/-- The blocks with work at a swap, in the order of R44; the Table Unit's own is its request for a
configuration write. -/
def swapBlocks : List Block := [.cmu, .dau, .zcu, .cgu, .xsu, .tbu]

/-! ## Swap -/

/-- The staged copy becomes the active copy, and the swap cycle absent (R44); where the schedule has
it so, the configuration write is asked for at once (R47, R196). -/
def activate (s : State) : State :=
  let s1 := s.setTbu { s.tbu with active := s.tbu.staged, swapCycle := none }
  if s.order.requestFirst then requestConfigWrite s1 else s1

/-- One block's swap work (R47, R75, R104, R119, R144, R191). -/
def swapWork (old new : Tables) (b : Block) (s : State) : State :=
  match b with
  | .cmu => cmuSwap old new s
  | .dau => dauSwap old new s
  | .zcu => zcuMatch old new s
  | .cgu => cguSwap new s
  | .xsu => xsuSwap old new s
  | .tbu => requestConfigWrite s
  | .bli => s

/-- A block whose swap work the ZCU's recomputation waits for (R120). -/
def Block.precedesCeilings : Block → Bool
  | .dau | .zcu => true
  | .cmu | .cgu | .xsu | .tbu | .bli => false

/-- The swap work of a list of blocks in order; the ZCU recomputes every ceiling once, when both its
own matching and the DAU's swap work are done (R120). `half` says that one of the two is. -/
def swapAll (old new : Tables) : Bool → List Block → State → State
  | _, [], s => s
  | half, b :: rest, s =>
    let s1 := swapWork old new b s
    swapAll old new (half || b.precedesCeilings) rest
      (if half && b.precedesCeilings then recomputeAll new s1 else s1)

/-- The blocks in the order in which they do their swap work; the Table Unit is not among them where
its request was made at the swap (R196). -/
def Order.swapPlan (o : Order) : List Block :=
  (completeOrder o.swapOrder swapBlocks).filter fun b => !(o.requestFirst && b == .tbu)

/-- Every block's swap work, the tables already active (R44). -/
def swapWorks (old new : Tables) (s : State) : State := swapAll old new false s.order.swapPlan s

/-- A swap while the FLC is STOPPED, which starts the FLC (R3, R46). -/
def swapNow (s : State) : State :=
  startCycling (swapWorks s.tbu.active s.tbu.staged (activate s))

/-! ## The REPORT -/

/-- The outcome of a slot in the slot results. -/
def Flc.outcomeOf (f : Flc) (k : Fin 48) : Option SlotOutcome :=
  (f.results.find? fun r => r.slot = k).bind (·.outcome)

/-- The value of a REPORT entry: that of a GOOD sample, accepted or refused (R159). -/
def reportValue : Option SlotOutcome → Option Int
  | some (.good (.sample v _ _ _)) => some v
  | _ => none

/-- A slot's entry of the REPORT, where it has a standing (R159). -/
def reportEntry (s : State) (k : Fin 48) : Option ReportEntry :=
  (s.bli.standings.find? fun x => x.slot = k).map fun x =>
    let o := s.flc.outcomeOf k
    ⟨k, o, x.acceptance, reportValue o, x.standing⟩

/-- The REPORT of the cycle that closes (R159). -/
def buildReport (s : State) : Report := ⟨s.flc.cycle, (List.finRange 48).filterMap (reportEntry s)⟩

/-- The BLI's cycle-close work: the REPORT replaces one not yet sent, and the standings are emptied
(R159, R160). -/
def bliClose (s : State) : State :=
  s.settlePlacement { s.bli with report := some (buildReport s), standings := [] }

/-! ## Cycle close -/

/-- One block's cycle-close work on the tables of cycle n, in steps of at most one post each, when the
part's state before the close work is `s0`. -/
def closeWorkSteps (t : Tables) (s0 : State) (b : Block) : List (State → State) :=
  match b with
  | .dau => dauCloseSteps t s0.cmu.sensors s0.dau
  | .zcu => zcuCloseSteps t
  | .cmu => cmuCloseSteps s0.order.reportFirst t s0.cmu
  | .bli => [bliClose]
  | .xsu | .tbu | .cgu => []

/-- The cycle-close work of every block, in the order the schedule gives (R23). -/
def closeSteps (t : Tables) (s0 : State) : List (State → State) :=
  (completeOrder s0.order.closeOrder closeBlocks).flatMap (closeWorkSteps t s0)

/-- The swap is due at the close of the running cycle (R44). -/
def State.swapDue (s : State) : Bool :=
  s.tbu.commit == .pendingSwap && s.tbu.swapCycle == some s.flc.cycle

/-- The FLC at cycle close (R23, R24). FL_TXD recessive in CLOSED: DESIGN CHOICE (assumption log 23). -/
def Flc.closed (f : Flc) : Flc :=
  { f with state := .closed, slot := none, phase := none, driverEnable := false, txd := .recessive }

/-- Cycle close (n) (R23). The XSU's work is done first of all: it makes no post, no other block reads
it, and every report that could reach it must find it done (R186, R191). Where the Table Unit swaps,
the schedule says between which two steps of the other blocks' work; the steps after the swap still
work on the tables of cycle n, and then every block does its swap work (R45, R66, R84, R119, R164). -/
def cycleClose (s : State) : State :=
  let t := s.tbu.active
  let s0 := xsuClose t (s.setFlc s.flc.closed)
  let steps := closeSteps t s0
  if s.swapDue then
    let n := s.order.swapAt.getD steps.length
    swapWorks t s.tbu.staged
      (runSteps (steps.drop n) (activate (runSteps (steps.take n) s0)))
  else runSteps steps s0

end Sys2Proof.Machine
end

