-- ==== Sys2Proof/Machine/Fieldline.lean ====
section
/-! DEFINITION. The Fieldline Controller's commands (R2 to R24): cycle timer, mark, header, slots,
calls, answers and slot ends, and the thresholds that a slot end reaches (R65, R91, R100, R110, R114,
R141). A command whose event cannot fall in the present state leaves the state as it is
(assumption log 2). -/

namespace Sys2Proof.Machine

open Sys2Proof Host

/-! ## Timer, mark and header -/

/-- CYCLE_TIMER_EXPIRY: in CLOSED the cycle number rises by 1, wrapping, and the next cycle's mark
begins (R4, R24). -/
def execCycleTimerExpiry (s : State) : Outcome State Fault Refusal :=
  if s.flc.state = .closed then
    .next (finish (s.setFlc (s.flc.beginMark s.tbu.active (s.flc.cycle + 1#16))))
  else .next s

/-- The slot results list at the start of a header: slots 0 to N − 1, all PENDING (R1, R7). -/
def pendingResults (n : Nat) : List SlotResult :=
  ((List.finRange 48).filter fun k => k.val < n).map fun k => ⟨k, none⟩

/-- The FLC at the end of a mark (R6, R7). -/
def Flc.beginHeader (f : Flc) : Flc :=
  { f with
    state := .header
    results := pendingResults (num f.slotCount)
    txd := .characters (headerGroup f.cycle (num f.slotCount)) }

/-- MARK_END: the header begins (R6, R7). -/
def execMarkEnd (s : State) : Outcome State Fault Refusal :=
  if s.flc.state = .mark then .next (finish (s.setFlc s.flc.beginHeader)) else .next s

/-! ## Slot start (R10 to R12) -/

/-- The FLC at the start of a slot that makes a call, or none (R8, R10, R13). FL_TXD recessive in a
SILENT slot: DESIGN CHOICE (assumption log 23). -/
def Flc.openSlot (k : Fin 48) (node : Nat) (call : Option Call) (f : Flc) : Flc :=
  { f with
    state := .slot
    slot := some k
    phase := some (match call with | some _ => .calling | none => .silent)
    call := call
    answer := []
    provisional := none
    settled := none
    noise := false
    driverEnable := call.isSome
    txd := match call with
      | some c => .characters (callGroup node c k)
      | none => .recessive }

/-- What a slot calls: POLL for a sensor, the Command Gate's answer for an actuator, nothing for an
UNUSED slot (R10 to R12). -/
def slotCall (k : Fin 48) (s : State) : State × Option Call :=
  let r := s.tbu.active.slots.get k
  if r.isActuator then callDecision k s
  else (s, if r.isSensor then some .poll else none)

/-- A slot begins (R8, R10 to R12). -/
def slotStart (k : Fin 48) (s : State) : State :=
  let x := slotCall k s
  x.1.setFlc (x.1.flc.openSlot k (num (s.tbu.active.slots.get k).node) x.2)

/-- HEADER_END: slot 0 begins (R7). -/
def execHeaderEnd (s : State) : Outcome State Fault Refusal :=
  if s.flc.state = .header then .next (finish (slotStart 0 s)) else .next s

/-! ## Call and answer (R13 to R17) -/

/-- The slot's outcome is settled and the rest of the slot is not examined. -/
def Flc.settle (o : SlotOutcome) (f : Flc) : Flc :=
  { f with settled := some o, phase := some .ignoring }

/-- The line is released at the end of a call (R13): FL_DE is deasserted, and FL_TXD is put recessive:
DESIGN CHOICE (assumption log 23). -/
def Flc.release (f : Flc) : Flc := { f with driverEnable := false, txd := .recessive }

/-- COLLIDED: a call character was read back wrong (R13). -/
def execCollided (s : State) : Outcome State Fault Refusal :=
  if s.flc.phase = some .calling then
    .next (finish (s.setFlc (s.flc.settle .collided).release))
  else .next s

/-- CALL_COMPLETE: the answer window opens (R13). -/
def execCallComplete (s : State) : Outcome State Fault Refusal :=
  if s.flc.phase = some .calling then
    .next (finish (s.setFlc { s.flc.release with phase := some .window }))
  else .next s

/-- ANSWER_WINDOW_EXPIRY: the outcome is MISSING (R14). -/
def execAnswerWindowExpiry (s : State) : Outcome State Fault Refusal :=
  if s.flc.phase = some .window then .next (finish (s.setFlc (s.flc.settle .missing)))
  else .next s

/-- ANSWER_START: the first activity inside the window begins the answer (R14). -/
def execAnswerStart (s : State) : Outcome State Fault Refusal :=
  if s.flc.phase = some .window then
    .next (finish (s.setFlc { s.flc with phase := some .receiving }))
  else .next s

/-- The classification of six answer characters, by the first check of R16 that applies. -/
def classifyAnswer (slot : SlotRec) (call : Call) (cs : List Byte) : Provisional :=
  match cs with
  | [node, code, hi, lo, flags, check] =>
    if !groupChecks [node, code, hi, lo, flags, check] then .garbled
    else if slot.node != some node.toNat then .wrongNode
    else
      match answerContents call slot.sensorQuantity code hi lo flags with
      | some a => .good a
      | none => .garbled
  | _ => .garbled

/-- The sixth character completes the answer, which enters GUARD (R15, R16). -/
def Flc.complete (t : Tables) (cs : List Byte) (f : Flc) : Flc :=
  match f.slot, f.call with
  | some k, some call =>
    { f with
      answer := cs
      phase := some .guard
      provisional := some (classifyAnswer (t.slots.get k) call cs) }
  | _, _ => f

/-- A framed answer character joins the buffer (R15). -/
def Flc.takeCharacter (t : Tables) (c : Byte) (f : Flc) : Flc :=
  let cs := f.answer ++ [c]
  if cs.length = Config.groupLength then f.complete t cs else { f with answer := cs }

/-- ANSWER_CHARACTER: an unframed character breaks the answer (R15). It does not join the answer
buffer, and the characters held before it stay there: DESIGN CHOICE (assumption log 18). -/
def execAnswerCharacter (framed : Bool) (c : Byte) (s : State) : Outcome State Fault Refusal :=
  if s.flc.phase = some .receiving then
    .next (finish (s.setFlc
      (if framed then s.flc.takeCharacter s.tbu.active c else s.flc.settle .garbled)))
  else .next s

/-- ANSWER_BREAK: a gap of more than 4 bit-times with one to five characters held (R15), which stay
in the buffer: DESIGN CHOICE (assumption log 18). -/
def execAnswerBreak (s : State) : Outcome State Fault Refusal :=
  if s.flc.phase = some .receiving ∧ s.flc.answer ≠ [] then
    .next (finish (s.setFlc (s.flc.settle .garbled)))
  else .next s

/-- OVERLONG: activity in the guard time; the six characters are discarded (R17). The provisional
outcome goes with them, before the slot's end clears it (R20): DESIGN CHOICE (assumption log 18). -/
def execOverlong (s : State) : Outcome State Fault Refusal :=
  if s.flc.phase = some .guard then
    .next (finish (s.setFlc { s.flc.settle .overlong with answer := [], provisional := none }))
  else .next s

/-- FIELD_NOISE: the first activity heard in a SILENT slot posts the notice (R19). -/
def execFieldNoise (s : State) : Outcome State Fault Refusal :=
  match s.flc.slot with
  | some k =>
    if s.flc.phase = some .silent ∧ s.flc.noise = false then
      .next (finish (post (.fieldNoise k) (s.setFlc { s.flc with noise := true })))
    else .next s
  | none => .next s

/-! ## Slot end (R17, R18, R20 to R22) -/

/-- A provisional outcome as the slot's outcome (R17). -/
def Provisional.outcome : Provisional → SlotOutcome
  | .good a => .good a
  | .garbled => .garbled
  | .wrongNode => .wrongNode

/-- The outcome that stands at the end of the slot in progress (R18); none where no slot can end. -/
def Flc.finalOutcome (f : Flc) : Option SlotOutcome :=
  match f.phase with
  | some .silent => some .skipped
  | some .guard => f.provisional.map Provisional.outcome
  | some .ignoring => f.settled
  | some .calling | some .window | some .receiving | none => none

/-- The slot that can end now, with its outcome. -/
def Flc.ending (f : Flc) : Option (Fin 48 × SlotOutcome) :=
  if f.state = .slot then
    match f.slot, f.finalOutcome with
    | some k, some o => some (k, o)
    | _, _ => none
  else none

/-- The outcome written into the slot results, and the slot's items cleared (R20). -/
def Flc.record (k : Fin 48) (o : SlotOutcome) (f : Flc) : Flc :=
  { f with
    results := f.results.map fun r => if r.slot = k then { r with outcome := some o } else r
    call := none
    answer := []
    provisional := none
    settled := none
    noise := false }

/-- The result handed to the block that owns the slot (R10, R21, R22). -/
def handOver (k : Fin 48) (o : SlotOutcome) (s : State) : State :=
  let r := s.tbu.active.slots.get k
  match r.sensorQuantity with
  | some q => sensorResult k q o s
  | none => if r.isActuator then actuatorResult k o s else s

/-- A slot's result recorded and handed over (R20). -/
def recordAndHandOver (k : Fin 48) (o : SlotOutcome) (s : State) : State :=
  handOver k o (s.setFlc (s.flc.record k o))

/-- The slot after slot k of the running cycle; none after slot N − 1. -/
def Flc.nextSlot (f : Flc) (k : Fin 48) : Option (Fin 48) :=
  if k.val + 1 < num f.slotCount then finOf 48 (k.val + 1) else none

/-- What follows a hand-over: the next slot, or cycle close (R20). -/
def afterSlot (k : Fin 48) (s : State) : State :=
  match s.flc.nextSlot k with
  | some k' => slotStart k' s
  | none => cycleClose s

/-- A slot's end (R20). -/
def slotEnd (k : Fin 48) (o : SlotOutcome) (s : State) : State :=
  finish (afterSlot k (recordAndHandOver k o s))

/-- SLOT_END (R20). -/
def execSlotEnd (s : State) : Outcome State Fault Refusal :=
  match s.flc.ending with
  | some (k, o) => .next (slotEnd k o s)
  | none => .next s

/-! ## Thresholds that a slot end reaches (assumption log 3) -/

/-- The slot end, where a test on the slot and its outcome holds; else nothing happens. -/
def slotEndWhen (reached : Fin 48 → SlotOutcome → State → Bool) (s : State) : State :=
  match s.flc.ending with
  | some (k, o) => if reached k o s then slotEnd k o s else s
  | none => s

/-- The slot's actuator becomes LOST by its outcome (R141). -/
def reachesLost (k : Fin 48) (o : SlotOutcome) (s : State) : Bool :=
  (s.tbu.active.slots.get k).isActuator &&
    (s.cgu.actuators.get k).any fun r => losesActuator (num s.tbu.active.bus.missLimit) r o

/-- The slot end is the cycle's last, and a test holds of the part when its close begins. -/
def atClose (test : State → Bool) (k : Fin 48) (o : SlotOutcome) (s : State) : Bool :=
  (s.flc.nextSlot k).isNone && test (recordAndHandOver k o s)

/-- The sensor of a slot becomes STALE at this close (R65). -/
def reachesStale (slot : Fin 48) (s : State) : Bool :=
  (staleSlots s.tbu.active s.cmu).contains slot

/-- The date watch reaches 93,600 s at this close (R91). -/
def reachesWatchLimit (s : State) : Bool :=
  !s.dau.dateStale
    && Config.dateWatchLimit ≤ s.dau.dateWatch + num s.tbu.active.bus.cycleInterval

/-- The checkpoint counter reaches the checkpoint interval at this close (R100). -/
def reachesCheckpoint (s : State) : Bool :=
  num s.tbu.active.bus.checkpoint
    ≤ s.dau.checkpointCounter + num s.tbu.active.bus.cycleInterval

/-- A zone's record after this close's vote combination and countdown. -/
def zoneAfterClose (z : Fin 16) (s : State) : ZoneDyn :=
  (s.zcu.zones.get z).afterClose s.tbu.active s.zcu z

/-- The zone becomes VACANT at this close (R110, R111). -/
def reachesVacant (z : Fin 16) (s : State) : Bool :=
  (s.zcu.zones.get z).presence != .vacant && (zoneAfterClose z s).presence == .vacant

/-- The zone's hold becomes absent at this close (R114). -/
def reachesHoldEnd (z : Fin 16) (s : State) : Bool :=
  (s.zcu.zones.get z).hold.isSome && (zoneAfterClose z s).hold.isNone

/-- ACTUATOR_LOST (R141). -/
def execActuatorLost (s : State) : Outcome State Fault Refusal := .next (slotEndWhen reachesLost s)

/-- SENSOR_STALE (R65). -/
def execSensorStale (slot : Fin 48) (s : State) : Outcome State Fault Refusal :=
  .next (slotEndWhen (atClose (reachesStale slot)) s)

/-- DATE_WATCH_EXPIRY (R91). -/
def execDateWatchExpiry (s : State) : Outcome State Fault Refusal :=
  .next (slotEndWhen (atClose reachesWatchLimit) s)

/-- CHECKPOINT (R100). -/
def execCheckpoint (s : State) : Outcome State Fault Refusal :=
  .next (slotEndWhen (atClose reachesCheckpoint) s)

/-- VACANCY_HOLD_REACHED (R110, R111). -/
def execVacancyHoldReached (zone : Fin 16) (s : State) : Outcome State Fault Refusal :=
  .next (slotEndWhen (atClose (reachesVacant zone)) s)

/-- HOLD_EXPIRY (R114). -/
def execHoldExpiry (zone : Fin 16) (s : State) : Outcome State Fault Refusal :=
  .next (slotEndWhen (atClose (reachesHoldEnd zone)) s)

end Sys2Proof.Machine
end

