-- ==== Sys2Proof/Machine/Operands.lean ====
section
/-! DEFINITION. The operand forms of the requests (R205): the fields of a body after the request
code, the body lengths that R171 step 3 checks, and the fields a denial records (R172). -/

namespace Sys2Proof.Machine

open Sys2Proof

/-- The one-byte field at an offset of a request's fields. -/
def operand8 (fields : List Byte) (i : Nat) : Nat := (fields.getD i 0#8).toNat

/-- The number that `k` bytes from an offset spell, high byte first. -/
def operandOf (fields : List Byte) (i k : Nat) : Nat := ofBytes ((fields.drop i).take k)

/-- The two-byte field at an offset. -/
def operand16 (fields : List Byte) (i : Nat) : Nat := operandOf fields i 2

/-- The account a request names first. -/
def operandAccount (fields : List Byte) : Option (Fin 64) := finOf 64 (operand8 fields 0)

/-- The zone a request names first. -/
def operandZone (fields : List Byte) : Option (Fin 16) := finOf 16 (operand8 fields 0)

/-- The side codes LOW 0 and HIGH 1 (R205). -/
def Side.ofCode : Nat → Option Side
  | 0 => some .low
  | 1 => some .high
  | _ => none

/-- The body length of a request kind, its code byte included (R205); none for WRITE RECORD, whose
length the Table Unit checks (R171 step 3). -/
def ReqKind.bodyLength : ReqKind → Option Nat
  | .readRecord => some 5
  | .readState => some 4
  | .linkReadAccount | .releaseHold | .suspendAccount | .resumeAccount => some 2
  | .clearLatch | .holdOccupied | .grantExtension => some 4
  | .statsControl => some 8
  | .seedAccount => some 6
  | .writeRecord => none
  | .readFault | .statsClear | .clearFault | .discardStaged | .commit | .restart => some 1

/-- The fields have the length that R171 step 3 asks for. -/
def ReqKind.shapeOk (k : ReqKind) (fields : List Byte) : Bool :=
  match k.bodyLength with
  | some n => fields.length + 1 == n
  | none => true

/-- How many field bytes a denial of the kind records as its subject (R172). -/
def ReqKind.subjectBytes : ReqKind → Nat
  | .readRecord | .readState | .writeRecord => 2
  | .clearLatch => 3
  | .linkReadAccount | .holdOccupied | .releaseHold | .grantExtension | .suspendAccount
  | .resumeAccount | .seedAccount => 1
  | .readFault | .statsControl | .statsClear | .clearFault | .discardStaged | .commit
  | .restart => 0

/-- The subject a denial records: the fields as they arrived, or none (R172). -/
def ReqKind.subject (k : ReqKind) (fields : List Byte) : Option (List Byte) :=
  if k.subjectBytes = 0 ∨ fields.length < k.subjectBytes then none
  else some (fields.take k.subjectBytes)

/-- The level a request needs (R172); READ RECORD of the Requester Table needs COMMISSION (R173). -/
def ReqKind.needs (k : ReqKind) (fields : List Byte) : Level :=
  match k with
  | .readRecord =>
    if fields.head? = some (byte TableId.requester.code) then .commission else .observe
  | .readState | .linkReadAccount | .readFault => .observe
  | .clearLatch | .holdOccupied | .releaseHold | .grantExtension | .statsControl | .statsClear
  | .clearFault => .operate
  | .writeRecord | .discardStaged | .commit | .suspendAccount | .resumeAccount | .seedAccount
  | .restart => .commission

/-- A level is the needed level or a higher one (R170). -/
def Level.allows (have_ need : Level) : Bool := need.code ≤ have_.code

end Sys2Proof.Machine
end

