-- ==== Sys2Proof/Machine/Requests.lean ====
section
/-! DEFINITION. The Management Request Handler: access levels (R170), the access fault record (R176,
R177), the four steps of a request (R171), and the effect of each request on the block that owns the
state concerned (R172). COMMAND and TIME are judged here too (R126, R87). -/

namespace Sys2Proof.Machine

open Sys2Proof

/-! ## Access -/

/-- The used Requester Table entry of a source address (R170). -/
def Tables.requesterEntry (t : Tables) (source : Byte) : Option (Fin 8) :=
  t.requesters.find? fun _ r => r.isUsed && r.address == some source.toNat

/-- The level of a Requester Table entry. -/
def RequesterRec.grants (r : RequesterRec) : Level := (r.level.bind Level.ofCode).getD .observe

/-- The access level of a source address, by the first row of R170 that applies. -/
def State.level (s : State) (source : Byte) : Level :=
  if s.pins.commission then .commission
  else
    match s.tbu.active.requesterEntry source with
    | some i => (s.tbu.active.requesters.get i).grants
    | none => .observe

/-- The access fault record after a denied message (R177). -/
def recordDenial (source : Byte) (kind : DeniedKind) (subject : Option (List Byte)) :
    Option AccessFault → Option AccessFault
  | none => some ⟨source, kind, subject, false⟩
  | some f => some { f with further := true }

/-- A denied message: the record, then the post (R177). -/
def deny (source : Byte) (kind : DeniedKind) (subject : Option (List Byte)) (s : State) : State :=
  post .accessFault
    (s.setMrh { s.mrh with fault := recordDenial source kind subject s.mrh.fault })

/-! ## What a request's owning block gives back -/

/-- The state after a request, with status and contents of its REPLY. -/
abbrev Handled := State × Status × Contents

/-- A request answered with a status alone and no effect. -/
def refuse (status : Status) (s : State) : Handled := (s, status, .nothing)

/-! ## Tables (R36 to R40) -/

/-- Table, first index and count name a run of records of the table (R36, R37). -/
def runOk (id : TableId) (first count : Nat) : Bool :=
  1 ≤ count && count ≤ 8 && first + count ≤ id.size

/-- The records that fit in one body of 250 bytes (R205). -/
def fitRecords (id : TableId) (rs : List TableRecord) : List TableRecord :=
  rs.take ((Config.bodyMax - 5) / id.recordBytes)

/-- The records of a run. -/
def recordsOf (t : Tables) (id : TableId) (first count : Nat) : List TableRecord :=
  (List.range count).filterMap fun i => t.record id (first + i)

/-- The copy a code names: active 0, staged 1 (R205). -/
def Tbu.copy (b : Tbu) : Nat → Option Tables
  | 0 => some b.active
  | 1 => some b.staged
  | _ => none

/-- READ RECORD (R36). -/
def readRecord (fields : List Byte) (s : State) : Handled :=
  match TableId.ofCode (operand8 fields 0), s.tbu.copy (operand8 fields 3) with
  | some id, some t =>
    let first := operand8 fields 1
    let count := operand8 fields 2
    if runOk id first count then
      (s, .ok, .records id first (fitRecords id (recordsOf t id first count)))
    else refuse .range s
  | _, _ => refuse .range s

/-- The tables with a run of records replaced by those a body carries. -/
def writeRecords (t : Tables) (id : TableId) (first count : Nat) (bytes : List Byte) : Tables :=
  (List.range count).foldl
    (fun t i => t.writeRecord id (first + i)
      ((bytes.drop (i * id.recordBytes)).take id.recordBytes)) t

/-- The shape of a WRITE RECORD (R37). -/
def writeOk (id : TableId) (first count : Nat) (fields : List Byte) : Bool :=
  runOk id first count && (id != .zone || count ≤ 5)
    && fields.length == 3 + count * id.recordBytes

/-- WRITE RECORD (R37). -/
def writeRecord (fields : List Byte) (s : State) : Handled :=
  if s.tbu.commit = .pendingSwap then refuse .busy s
  else
    match TableId.ofCode (operand8 fields 0) with
    | some id =>
      let first := operand8 fields 1
      let count := operand8 fields 2
      if writeOk id first count fields then
        (s.setTbu { s.tbu with
          staged := writeRecords s.tbu.staged id first count (fields.drop 3) }, .ok, .nothing)
      else refuse .range s
    | none => refuse .range s

/-- DISCARD STAGED (R38). -/
def discardStaged (s : State) : Handled :=
  if s.tbu.commit = .pendingSwap then refuse .busy s
  else (s.setTbu { s.tbu with staged := s.tbu.active }, .ok, .nothing)

/-- The number of the next cycle close the FLC will give (R43). -/
def Flc.nextClose (f : Flc) : Half := if f.state = .closed then f.cycle + 1#16 else f.cycle

/-- COMMIT (R39, R40, R43, R46). -/
def commit (s : State) : Handled :=
  if s.tbu.commit ≠ .idle then refuse .busy s
  else
    match validate s.tbu.staged with
    | some (id, i, c) => (s, .invalid, .invalid id i c)
    | none =>
      if s.flc.state = .stopped then (swapNow s, .accepted, .nothing)
      else
        (s.setTbu { s.tbu with commit := .pendingSwap, swapCycle := some s.flc.nextClose },
          .accepted, .nothing)

/-! ## Reading state (R174, R175) -/

/-- The OUTDOOR subject (R175). -/
def readOutdoor (s : State) : Reading :=
  let candidate := s.tbu.active.outdoorSlot.bind fun k =>
    (s.cmu.sensors.get k).bind (·.bandCandidate)
  .outdoor s.cmu.band candidate (s.cmu.band.map s.tbu.active.centre)

/-- The ZONE subject (R118, R175). -/
def readZone (z : Fin 16) (s : State) : Reading :=
  .zone (s.zcu.zones.get z) (s.tbu.active.zoneRec z).vacancyHold
    ((s.tbu.active.presenceSlots z).map fun k => (k, s.zcu.vacantSeen.get k))

/-- The actuator record of a node, with its slot. -/
def Cgu.ofNode (c : Cgu) (node : Nat) : Option ActuatorRecord :=
  (c.actuators.find? fun _ r => r.any fun r => r.node == node).bind c.actuators.get

/-- The ACTUATOR subject (R149, R175). -/
def readActuator (node : Nat) (s : State) : Reading :=
  .actuator ((s.cgu.ofNode node).map fun r => (r, effectiveTarget s r))

/-- The pending-account set in ascending order (R202). -/
def Nvs.pendingList (n : Nvs) : List (Fin 64) := n.pendingAccounts.indices fun _ b => b

/-- The LINK subject (R175). -/
def readLink (s : State) : Reading :=
  .link s.bli.own s.bli.holding.length (keyedCount s.bli.board) (holdsKey s.bli.board .boardFull)
    s.bli.report.isSome

/-- A subject of READ STATE as it stands; none where kind, index or quantity is out of range
(R174, R175). A HISTOGRAM is named by the body's quantity byte, and its index byte is ignored: DEDUCED
(assumption log 24). -/
def readSubject (source : Byte) (kind index quantity : Nat) (s : State) : Option Reading :=
  match kind with
  | 0 => some (.cycle s.flc.state s.flc.cycle s.flc.slotCount s.flc.timer)
  | 1 => some (.commit s.tbu.commit s.tbu.swapCycle (s.tbu.staged == s.tbu.active))
  | 2 => (finOf 48 index).map fun k => .sensor ((s.cmu.sensors.get k).map fun r =>
      (r.quantity, (s.tbu.active.slots.get k).zoneIndex, r))
  | 3 =>
    match finOf 16 index, CondQ.ofCode quantity with
    | some z, some q =>
      some (.zoneCondition (s.tbu.active.zoneEnabled z) q (s.cmu.cond z q)
        (shadeForced s.tbu.active s.cmu z))
    | _, _ => none
  | 4 => some (readOutdoor s)
  | 5 => (finOf 16 index).map fun z => readZone z s
  | 6 => (finOf 64 index).map fun a => .account (s.dau.accounts.get a)
  | 7 => some (.ledger s.dau.ledger s.dau.dateWatch s.dau.dateStale s.dau.checkpointCounter
      s.dau.monitors)
  | 8 => if 1 ≤ index ∧ index ≤ 62 then some (readActuator index s) else none
  | 9 =>
    match finOf 16 index, CondQ.ofCode quantity with
    | some z, some q => some (.excursion (s.xsu.tracker z q))
    | _, _ => none
  | 10 => (CondQ.ofCode quantity).map fun q => .histogram (s.xsu.histograms.get q)
  | 11 => some (.stats s.xsu.enable s.xsu.zoneMask s.xsu.combine)
  | 12 => some (.store s.nvs.state s.nvs.pendingConfig s.nvs.pendingList s.nvs.start)
  | 13 => some (readLink s)
  | 14 => some (.access (s.level source) s.pins.commission
      (s.tbu.active.requesterEntry source))
  | _ => none

/-- READ STATE (R174). -/
def readState (source : Byte) (fields : List Byte) (s : State) : Handled :=
  match readSubject source (operand8 fields 0) (operand8 fields 1) (operand8 fields 2) s with
  | some r => (s, .ok, .reading s.flc.state s.flc.cycle r)
  | none => refuse .range s

/-! ## Accounts (R93 to R99) -/

/-- LINK READ ACCOUNT (R93). -/
def linkReadAccount (source : Byte) (fields : List Byte) (s : State) : Handled :=
  match operandAccount fields with
  | none => refuse .range s
  | some a =>
    let cfg := s.tbu.active.accounts.get a
    let r := s.dau.accounts.get a
    let s1 :=
      if cfg.isEnabled then
        s.setDau { s.dau with monitors := openMonitor s.dau.monitors source a r.revision }
      else s
    (s1, .ok, .account cfg r)

/-- The entry, OPEN or LAPSED, that a requester holds on an account (R94). -/
def monitorOn (ms : Tab Monitor 4) (source : Byte) (a : Fin 64) : Option (Fin 4) :=
  (monitorOf ms source).filter fun i => ((ms.get i).entry?.map (·.account)) == some a

/-- A grant refused, the requester's entry freed (R94). -/
def freeAndRefuse (i : Fin 4) (status : Status) (s : State) : Handled :=
  refuse status (s.setDau { s.dau with monitors := freeMonitor s.dau.monitors i })

/-- The checks of a grant on an account in range, in the order of R94. -/
def judgeGrant (source : Byte) (a : Fin 64) (amount : Nat) (s : State) : Handled :=
  let cfg := s.tbu.active.accounts.get a
  let r := s.dau.accounts.get a
  if !cfg.isEnabled then refuse .notEnabled s
  else if r.state = .suspended then refuse .suspended s
  else
    match monitorOn s.dau.monitors source a with
    | none => refuse .noLink s
    | some i =>
      if (s.dau.monitors.get i).isLapsed then freeAndRefuse i .linkLost s
      else if num cfg.allowance < r.extension + amount then freeAndRefuse i .range s
      else
        let s1 := grantAccount a i amount s
        let r1 := s1.dau.accounts.get a
        (s1, .ok, .grant r1.extension r1.revision r1.state)

/-- GRANT EXTENSION (R94, R95). -/
def grantExtension (source : Byte) (fields : List Byte) (s : State) : Handled :=
  match operandAccount fields with
  | none => refuse .range s
  | some a =>
    let amount := operand16 fields 1
    if amount = 0 then refuse .range s else judgeGrant source a amount s

/-- A request on an account that must be enabled. -/
def onAccount (fields : List Byte) (s : State) (effect : Fin 64 → Handled) : Handled :=
  match operandAccount fields with
  | none => refuse .range s
  | some a => if s.tbu.active.accountEnabled a then effect a else refuse .notEnabled s

/-- SUSPEND ACCOUNT (R97). -/
def suspendAccount (fields : List Byte) (s : State) : Handled :=
  onAccount fields s fun a => (suspend a s, .ok, .nothing)

/-- RESUME ACCOUNT (R98). -/
def resumeAccount (fields : List Byte) (s : State) : Handled :=
  onAccount fields s fun a => (resume a s, .ok, .nothing)

/-- SEED ACCOUNT (R99). -/
def seedAccount (fields : List Byte) (s : State) : Handled :=
  onAccount fields s fun a =>
    let value := operandOf fields 1 4 * Config.luxSecondsPerLuxHour
    if value < (s.dau.accounts.get a).usedToday then refuse .range s
    else (seed a value s, .ok, .nothing)

/-! ## Zones (R70, R112, R113) -/

/-- CLEAR LATCH (R70). -/
def clearLatchRequest (fields : List Byte) (s : State) : Handled :=
  match operandZone fields, CondQ.ofCode (operand8 fields 1), Side.ofCode (operand8 fields 2) with
  | some z, some q, some side =>
    if side = .low ∧ q.hasLow = false then refuse .range s
    else if !s.tbu.active.zoneEnabled z then refuse .notEnabled s
    else if (s.cmu.cond z q).side side = .alarm then refuse .stillActive s
    else (clearLatch z q side s, .ok, .nothing)
  | _, _, _ => refuse .range s

/-- The reply of a hold taken or released: the zone's record after it (R112). -/
def holdReply (z : Fin 16) (s : State) : Handled := (s, .ok, .zone (s.zcu.zones.get z))

/-- HOLD OCCUPIED (R112). -/
def holdOccupied (fields : List Byte) (s : State) : Handled :=
  match operandZone fields with
  | none => refuse .range s
  | some z =>
    let minutes := operand16 fields 1
    if minutes < 1 ∨ 720 < minutes then refuse .range s
    else if !s.tbu.active.zoneEnabled z then refuse .notEnabled s
    else holdReply z (setHold z (some (minutes * 60)) s)

/-- RELEASE HOLD (R113). -/
def releaseHold (fields : List Byte) (s : State) : Handled :=
  match operandZone fields with
  | none => refuse .range s
  | some z =>
    if !s.tbu.active.zoneEnabled z then refuse .notEnabled s
    else holdReply z (setHold z none s)

/-! ## Statistics (R189, R190) -/

/-- The settings a STATS CONTROL carries, in place of those that stand (R189). -/
def Xsu.configure (x : Xsu) (fields : List Byte) : Xsu :=
  { x with
    enable := operand8 fields 0 == 1
    zoneMask := halfOf (fields.getD 1 0#8) (fields.getD 2 0#8)
    combine := ⟨fields.getD 3 0#8, fields.getD 4 0#8, fields.getD 5 0#8, fields.getD 6 0#8⟩ }

/-- STATS CONTROL (R189). -/
def statsControl (fields : List Byte) (s : State) : Handled :=
  if 1 < operand8 fields 0 then refuse .range s
  else
    let x := s.xsu.configure fields
    (s.setXsu x, .ok, .stats x.enable x.zoneMask x.combine)

/-- STATS CLEAR (R190). -/
def statsClear (s : State) : Handled :=
  (s.setXsu { s.xsu with histograms := Xsu.reset.histograms }, .ok, .nothing)

/-! ## Requests of the MRH's own (R178 to R180) -/

/-- READ FAULT (R178). -/
def readFault (s : State) : Handled := (s, .ok, .fault s.mrh.fault)

/-- CLEAR FAULT (R179). -/
def clearFault (s : State) : Handled :=
  (s.setMrh { s.mrh with fault := none }, .ok, .fault s.mrh.fault)

/-- RESTART: restart pending, and taking closed in the same event (R168, R180). -/
def restart (s : State) : Handled :=
  ((s.setMrh { s.mrh with restartPending := true }).setBli { s.bli with takingOpen := false },
    .ok, .nothing)

/-! ## The four steps (R171) -/

/-- The effect of a request by the block that owns it (R172). -/
def requestEffect (k : ReqKind) (source : Byte) (fields : List Byte) (s : State) : Handled :=
  match k with
  | .readRecord => readRecord fields s
  | .readState => readState source fields s
  | .linkReadAccount => linkReadAccount source fields s
  | .readFault => readFault s
  | .clearLatch => clearLatchRequest fields s
  | .holdOccupied => holdOccupied fields s
  | .releaseHold => releaseHold fields s
  | .grantExtension => grantExtension source fields s
  | .statsControl => statsControl fields s
  | .statsClear => statsClear s
  | .clearFault => clearFault s
  | .writeRecord => writeRecord fields s
  | .discardStaged => discardStaged s
  | .commit => commit s
  | .suspendAccount => suspendAccount fields s
  | .resumeAccount => resumeAccount fields s
  | .seedAccount => seedAccount fields s
  | .restart => restart s

/-- Steps 2 to 4 of R171. -/
def handleRequest (k : ReqKind) (source : Byte) (fields : List Byte) (s : State) : Handled :=
  if !(s.level source).allows (k.needs fields) then
    refuse .denied (deny source (.request k) (k.subject fields) s)
  else if !k.shapeOk fields then refuse .range s
  else requestEffect k source fields s

/-! ## COMMAND and TIME (R126, R87, R176) -/

/-- A taken COMMAND: checks 1 and 2 of R126, then the Command Gate's own. -/
def takeCommand (source : Byte) (body : List Byte) (s : State) : State × CmdResult :=
  if s.flc.state = .stopped then (s, ⟨commandId body, .notRunning, .nothing⟩)
  else if !(s.level source).allows .operate then
    (deny source .command (commandNode body) s, ⟨commandId body, .denied, .nothing⟩)
  else commandEffect body s

/-- The date of a TIME body (R204); none where the body is not 4 bytes long or the date is out of
range (R87). -/
def timeDate : List Byte → Option Date
  | [y1, y0, d1, d0] =>
    let d : Date := ⟨(halfOf y1 y0).toNat, (halfOf d1 d0).toNat⟩
    if d.inRange then some d else none
  | _ => none

/-- A taken TIME (R87, R176). -/
def takeTime (source : Byte) (body : List Byte) (s : State) : State :=
  if !(s.level source).allows .operate then deny source .time none s
  else
    match timeDate body with
    | some d => takeDate d s
    | none => s

end Sys2Proof.Machine
end

