-- ==== Sys2Proof/Machine/Link.lean ====
section
/-! DEFINITION. The Building Link Interface's commands (R152 to R157, R165, R166, R168): reception,
the holding buffer, taking and dispatch, and the end of a transmission. Each message row of the table
is the arrival of a whole good message for the part (assumption log 1). -/

namespace Sys2Proof.Machine

open Sys2Proof Host

/-! ## Taking and dispatch (R155 to R157) -/

/-- The answer to a taken message placed in the reply slot, addressed to the message's source
(R156). -/
def placeAnswer (dest : Byte) (a : Answering) (s : State) : State :=
  s.settlePlacement { s.bli with replySlot := some ⟨dest, a⟩ }

/-- A request's state and REPLY put in place. -/
def placeReply (dest : Byte) (k : ReqKind) (h : Handled) : State :=
  placeAnswer dest (.reply ⟨byte k.code, h.2.1, h.2.2⟩) h.1

/-- A REPLY UNKNOWN_REQUEST (R157, R171 step 1). -/
def replyUnknown (dest code : Byte) (s : State) : State :=
  placeAnswer dest (.reply ⟨code, .unknownRequest, .nothing⟩) s

/-- A taken REQUEST (R171). -/
def takeRequest (source : Byte) (body : List Byte) (s : State) : State :=
  match body with
  | [] => replyUnknown source 0#8 s
  | code :: fields =>
    match ReqKind.ofCode code.toNat with
    | some k => placeReply source k (handleRequest k source fields s)
    | none => replyUnknown source code s

/-- A taken COMMAND with its RESULT in place (R156). -/
def answerCommand (source : Byte) (body : List Byte) (s : State) : State :=
  let x := takeCommand source body s
  placeAnswer source (.result x.2) x.1

/-- The block that answers a taken message does its whole work (R156, R157). -/
def dispatch (m : Message) (s : State) : State :=
  if m.kind = kindCommand then answerCommand m.source m.body s
  else if m.kind = kindTime then takeTime m.source m.body s
  else if m.kind = kindRequest then takeRequest m.source m.body s
  else replyUnknown m.source 0#8 s

/-- The arbiter's turn. -/
def arbitrate (s : State) : State := s.setBli s.bli.arbitrate

/-- The oldest message is taken: it leaves the buffer and is answered (R155); then the arbiter's
turn. -/
def takeHead (s : State) : State :=
  match s.bli.holding with
  | [] => s
  | m :: rest => arbitrate (dispatch m (s.setBli { s.bli with holding := rest }))

/-- The three conditions of taking (R155). -/
def Bli.canTake (b : Bli) : Bool := b.takingOpen && !b.holding.isEmpty && b.replySlot.isNone

/-- Messages are taken while the conditions hold, at most `fuel` of them (R155, R157). -/
def takeUpTo : Nat → State → State
  | 0, s => s
  | fuel + 1, s => if s.bli.canTake then takeUpTo fuel (takeHead s) else s

/-- Every message that can be taken in this event is taken; each taking shortens the buffer. -/
def takeAll (s : State) : State := takeUpTo s.bli.holding.length s

/-! ## Arrival (R153, R154) -/

/-- A good message offered to the holding buffer (R154). -/
def offer (m : Message) (s : State) : State :=
  if s.bli.holding.length < Config.holdingCapacity then
    s.setBli { s.bli with holding := s.bli.holding ++ [m] }
  else post (.linkError .overflow) s

/-- A good message for the part arrives (R154, R155). -/
def arrive (m : Message) (s : State) : State := takeAll (offer m s)

/-- The COMMISSION pin at the level the event brings (R170, assumption log 6). -/
def setCommission (level : Bool) (s : State) : State :=
  s.setPins { s.pins with commission := level }

/-- The arrival of a whole message; it is lost while the receiver is DISABLED (R151). -/
def messageArrives (o : Origin) (kind : Byte) (body : List Byte) (s : State) : State :=
  let s1 := setCommission o.commission s
  if s.bli.rx = .disabled then s1 else finish (arrive ⟨o.source, kind, body⟩ s1)

/-! ## Reception (R152, R153) -/

/-- A frame is broken: LINK_ERROR BAD_CHECK, and the hunt begins again (R152). -/
def breakFrame (s : State) : State :=
  post (.linkError .badCheck) (s.setBli { s.bli with rx := .hunting, frame := [] })

/-- A complete frame, judged by the first row of R153 that applies. -/
def frameComplete (cs : List Byte) (s : State) : State :=
  let covered := cs.take (cs.length - 2)
  let s1 := s.setBli { s.bli with rx := .hunting, frame := [] }
  if be16 (crc16 covered) ≠ cs.drop (cs.length - 2) then post (.linkError .badCheck) s1
  else if covered.getD 0 0#8 ≠ s.bli.own then s1
  else arrive ⟨covered.getD 1 0#8, covered.getD 2 0#8, covered.drop 4⟩ s1

/-- A framed character inside a frame; `frame` holds the characters after the start code (R152). -/
def takeFrameCharacter (c : Byte) (s : State) : State :=
  let cs := s.bli.frame ++ [c]
  let length := (cs.getD 3 0#8).toNat
  if cs.length = 4 ∧ Config.bodyMax < length then breakFrame s
  else if 4 ≤ cs.length ∧ cs.length = 6 + length then frameComplete cs s
  else s.setBli { s.bli with frame := cs }

/-- A character received, by the receive state (R152). -/
def receive (framed : Bool) (c : Byte) (s : State) : State :=
  match s.bli.rx with
  | .disabled => s
  | .hunting =>
    if framed ∧ c = Config.startCode then s.setBli { s.bli with rx := .inFrame, frame := [] } else s
  | .inFrame => if framed then takeFrameCharacter c s else breakFrame s

/-- BL_CHARACTER_RECEIVED (R152). -/
def execBlCharacterReceived (framed : Bool) (c : Byte) (commission : Bool) (s : State) :
    Outcome State Fault Refusal :=
  .next (finish (receive framed c (setCommission commission s)))

/-- FRAME_GAP_TIMEOUT: the gap inside a frame has run out (R152). -/
def execFrameGapTimeout (s : State) : Outcome State Fault Refusal :=
  if s.bli.rx = .inFrame then .next (finish (breakFrame s)) else .next s

/-! ## Transmission end (R165, R166, R168) -/

/-- The message is the REPLY OK to a RESTART (R168). -/
def OutMsg.endsRestart : OutMsg → Bool
  | .answer ⟨_, .reply r⟩ => r.code == byte ReqKind.restart.code && r.status == .ok
  | .answer ⟨_, .result _⟩ => false
  | .report _ => false
  | .notice _ => false

/-- The transmitter falls IDLE; at the end of a RESTART's REPLY the arbiter halts (R166, R168). -/
def endTransmission (m : OutMsg) (s : State) : State :=
  s.setBli { s.bli with
    tx := .idle, halted := s.bli.halted || (m.endsRestart && s.mrh.restartPending) }

/-- TRANSMISSION_END: the arbiter chooses again, and taking may resume (R155, R166). -/
def execTransmissionEnd (commission : Bool) (s : State) : Outcome State Fault Refusal :=
  match s.bli.tx with
  | .sending m =>
    .next (finish (takeAll (arbitrate (endTransmission m (setCommission commission s)))))
  | .idle => .next (setCommission commission s)

/-! ## The message rows -/

/-- A COMMAND body (R204). -/
def commandBody (id : Half) (node kind : Byte) (value : Half) : List Byte :=
  be16 id ++ [node, kind] ++ be16 value

/-- COMMAND_SET (R127). -/
def execCommandSet (o : Origin) (id : Half) (node : Byte) (value : Half) (s : State) :
    Outcome State Fault Refusal :=
  .next (messageArrives o kindCommand (commandBody id node 1#8 value) s)

/-- COMMAND_ACTION (R128). -/
def execCommandAction (o : Origin) (id : Half) (node : Byte) (code : Half) (s : State) :
    Outcome State Fault Refusal :=
  .next (messageArrives o kindCommand (commandBody id node 2#8 code) s)

/-- COMMAND_NEITHER_SET_NOR_ACTION (R126). -/
def execCommandNeitherSetNorAction (o : Origin) (body : List Byte) (s : State) :
    Outcome State Fault Refusal :=
  .next (messageArrives o kindCommand body s)

/-- TIME (R87). -/
def execTime (o : Origin) (body : List Byte) (s : State) : Outcome State Fault Refusal :=
  .next (messageArrives o kindTime body s)

/-- UNKNOWN_MESSAGE_KIND (R157). -/
def execUnknownMessageKind (o : Origin) (kind : Byte) (body : List Byte) (s : State) :
    Outcome State Fault Refusal :=
  .next (messageArrives o kind body s)

/-- UNKNOWN_REQUEST (R171). -/
def execUnknownRequest (o : Origin) (body : List Byte) (s : State) : Outcome State Fault Refusal :=
  .next (messageArrives o kindRequest body s)

/-- The arrival of a REQUEST of a kind (R171). -/
def requestArrives (k : ReqKind) (o : Origin) (fields : List Byte) (s : State) : State :=
  messageArrives o kindRequest (byte k.code :: fields) s

/-- READ_RECORD (R36). -/
def execReadRecord (o : Origin) (fields : List Byte) (s : State) : Outcome State Fault Refusal :=
  .next (requestArrives .readRecord o fields s)

/-- READ_STATE (R174). -/
def execReadState (o : Origin) (fields : List Byte) (s : State) : Outcome State Fault Refusal :=
  .next (requestArrives .readState o fields s)

/-- LINK_READ_ACCOUNT (R93). -/
def execLinkReadAccount (o : Origin) (fields : List Byte) (s : State) : Outcome State Fault Refusal :=
  .next (requestArrives .linkReadAccount o fields s)

/-- READ_FAULT (R178). -/
def execReadFault (o : Origin) (fields : List Byte) (s : State) : Outcome State Fault Refusal :=
  .next (requestArrives .readFault o fields s)

/-- CLEAR_LATCH (R70). -/
def execClearLatch (o : Origin) (fields : List Byte) (s : State) : Outcome State Fault Refusal :=
  .next (requestArrives .clearLatch o fields s)

/-- HOLD_OCCUPIED (R112). -/
def execHoldOccupied (o : Origin) (fields : List Byte) (s : State) : Outcome State Fault Refusal :=
  .next (requestArrives .holdOccupied o fields s)

/-- RELEASE_HOLD (R113). -/
def execReleaseHold (o : Origin) (fields : List Byte) (s : State) : Outcome State Fault Refusal :=
  .next (requestArrives .releaseHold o fields s)

/-- GRANT_EXTENSION (R94). -/
def execGrantExtension (o : Origin) (fields : List Byte) (s : State) : Outcome State Fault Refusal :=
  .next (requestArrives .grantExtension o fields s)

/-- STATS_CONTROL (R189). -/
def execStatsControl (o : Origin) (fields : List Byte) (s : State) : Outcome State Fault Refusal :=
  .next (requestArrives .statsControl o fields s)

/-- STATS_CLEAR (R190). -/
def execStatsClear (o : Origin) (fields : List Byte) (s : State) : Outcome State Fault Refusal :=
  .next (requestArrives .statsClear o fields s)

/-- CLEAR_FAULT (R179). -/
def execClearFault (o : Origin) (fields : List Byte) (s : State) : Outcome State Fault Refusal :=
  .next (requestArrives .clearFault o fields s)

/-- WRITE_RECORD (R37). -/
def execWriteRecord (o : Origin) (fields : List Byte) (s : State) : Outcome State Fault Refusal :=
  .next (requestArrives .writeRecord o fields s)

/-- DISCARD_STAGED (R38). -/
def execDiscardStaged (o : Origin) (fields : List Byte) (s : State) : Outcome State Fault Refusal :=
  .next (requestArrives .discardStaged o fields s)

/-- COMMIT (R40). -/
def execCommit (o : Origin) (fields : List Byte) (s : State) : Outcome State Fault Refusal :=
  .next (requestArrives .commit o fields s)

/-- SUSPEND_ACCOUNT (R97). -/
def execSuspendAccount (o : Origin) (fields : List Byte) (s : State) : Outcome State Fault Refusal :=
  .next (requestArrives .suspendAccount o fields s)

/-- RESUME_ACCOUNT (R98). -/
def execResumeAccount (o : Origin) (fields : List Byte) (s : State) : Outcome State Fault Refusal :=
  .next (requestArrives .resumeAccount o fields s)

/-- SEED_ACCOUNT (R99). -/
def execSeedAccount (o : Origin) (fields : List Byte) (s : State) : Outcome State Fault Refusal :=
  .next (requestArrives .seedAccount o fields s)

/-- RESTART (R180). -/
def execRestart (o : Origin) (fields : List Byte) (s : State) : Outcome State Fault Refusal :=
  .next (requestArrives .restart o fields s)

end Sys2Proof.Machine
end

