-- ==== Sys2Proof/Machine/StartUp.lean ====
section
/-! DEFINITION. Resets (R181, R198), start-up (R199 to R202) and the completion of store writes (R48,
R197). -/

namespace Sys2Proof.Machine

open Sys2Proof Host

/-! ## Resets -/

/-- The store after a reset that cuts the write in progress short: its item is torn (R198). -/
def State.tornStore (s : State) : Store :=
  match s.nvs.write with
  | some (.config _) => { s.store with image := .failing }
  | some (.record a _) => { s.store with records := s.store.records.set a .failing }
  | none => s.store

/-- A POWER or PIN reset, with the level of RESET_N after it (R198). -/
def resetBy (cause : ResetCause) (resetAsserted : Bool) (s : State) : State :=
  State.afterReset cause { s.pins with resetAsserted := resetAsserted } s.tornStore
    s.schedule.tail s.pending

/-- POWER_RESET: the supply rises (R198). -/
def execPowerReset (resetAsserted : Bool) (s : State) : Outcome State Fault Refusal :=
  .next (resetBy .power resetAsserted s)

/-- PIN_RESET: RESET_N is asserted (R198). -/
def execPinReset (s : State) : Outcome State Fault Refusal :=
  if s.pins.resetAsserted then .next s else .next (resetBy .pin true s)

/-- PIN_RESET_RELEASE: the reset ends, and start-up begins (R198). -/
def execPinResetRelease (s : State) : Outcome State Fault Refusal :=
  if s.pins.resetAsserted then
    .next (finish (s.setPins { s.pins with resetAsserted := false }))
  else .next s

/-- The reset of a RESTART is due (R181). -/
def State.restartDue (s : State) : Bool :=
  s.mrh.restartPending && s.bli.halted && s.nvs.write.isNone

/-- RESTART_RESET (R181; assumption log 7). -/
def execRestartReset (s : State) : Outcome State Fault Refusal :=
  if s.restartDue then
    .next (State.afterReset .restart s.pins s.store s.schedule.tail s.pending)
  else .next s

/-! ## Start-up -/

/-- Start-up is under way: no reset holds the part (R198, R199). -/
def State.startsUp (s : State) : Bool := s.nvs.start == .starting && !s.pins.resetAsserted

/-- Step 1 of the end of start-up: the start-up state, and START with the reset cause, which is not
held after it (R201, R202). -/
def announceStart (outcome : StartState) (s : State) : State :=
  postHeld (.start s.nvs.cause outcome)
    (s.setNvs { s.nvs with start := outcome, cause := none })

/-- The own address that ADDR3..ADDR0 select (R151). -/
def ownAddress (addr : BitVec 4) : Byte := byte (48 + addr.toNat)

/-- The BLI reads ADDR3..ADDR0 and opens taking (R151). -/
def openLink (addr : BitVec 4) (s : State) : State :=
  let s1 := s.setPins { s.pins with addr := addr }
  s1.setBli { s1.bli with own := ownAddress addr, rx := .hunting, takingOpen := true }

/-- Both copies of the tables set (R200, R201). -/
def loadTables (t : Tables) (s : State) : State :=
  s.setTbu { s.tbu with active := t, staged := t }

/-- Start-up ends in FALLBACK (R200). -/
def enterFallback (addr : BitVec 4) (s : State) : State :=
  openLink addr (announceStart .fallback (loadTables .blank s))

/-- CONFIGURATION_IMAGE_READ (R199). -/
def execConfigurationImageRead (addr : BitVec 4) (s : State) : Outcome State Fault Refusal :=
  if s.startsUp = true ∧ s.nvs.reading = .image then
    match validImage s.store.image with
    | some t =>
      let s1 := loadTables t s
      .next (finish (s1.setNvs { s1.nvs with reading := .record 0 }))
    | none => .next (finish (enterFallback addr s))
  else .next s

/-- The ceilings at the end of start-up, with no post (R121). -/
def ceilingsAtStart (t : Tables) (s : State) : State :=
  s.setZcu { s.zcu with
    zones := s.zcu.zones.mapIdx fun z r =>
      if t.zoneEnabled z then r.computed t s.dau z else r }

/-- The ZONE_CEILING posts at the end of start-up: each enabled zone not at TABLE (R121). -/
def ceilingPosts (t : Tables) (c : Zcu) : List Notice :=
  t.enabledZones.filterMap fun z =>
    let r := c.zones.get z
    if r.reason = some .table then none else some (.zoneCeiling z r.ceiling r.reason)

/-- Step 2 of the end of start-up: accounts, then ceilings (R103, R121, R201). That every
ACCOUNT_STATE is posted before the first ZONE_CEILING is the step's own listing, which fixes no order
within it: DESIGN CHOICE (assumption log 4). -/
def restoreAccounts (s : State) : State :=
  let t := s.tbu.active
  let d := restoredDau t s.store.records
  let s1 := ceilingsAtStart t (postAllHeld (restorePosts t d) (s.setDau d))
  postAllHeld (ceilingPosts t s1.zcu) s1

/-- Start-up ends in RUNNING, by the five steps of R201. -/
def enterRunning (addr : BitVec 4) (s : State) : State :=
  let s2 := restoreAccounts (announceStart .running s)
  let s3 := (s2.setCmu (cmuAtStart s2.tbu.active)).setCgu (cguAtStart s2.tbu.active)
  startCycling (openLink addr s3)

/-- ACCOUNT_RECORD_READ: the next record is read; after the last, start-up ends in RUNNING (R101,
R201). -/
def execAccountRecordRead (addr : BitVec 4) (s : State) : Outcome State Fault Refusal :=
  if s.startsUp then
    match s.nvs.reading with
    | .record k =>
      match finOf 64 (k.val + 1) with
      | some k' => .next (finish (s.setNvs { s.nvs with reading := .record k' }))
      | none => .next (finish (enterRunning addr s))
    | .image => .next s
  else .next s

/-! ## The completion of store writes (R48, R197) -/

/-- A write whose verify read agrees leaves the store IDLE, and the next write is chosen (R195,
R197). -/
def writeAgrees (s : State) : State :=
  serveStore (s.setNvs { s.nvs with state := .idle, write := none })

/-- A write whose verify read disagrees fails the store and drops all work (R197). -/
def writeFails (s : State) : State :=
  post .storeFault
    (s.setNvs { s.nvs with
      state := .failed
      pendingConfig := false
      pendingAccounts := Tab.fill 64 false
      write := none })

/-- The Table Unit's end of a commit (R48). -/
def endCommit (f : CommitField) (s : State) : State :=
  post (.commit f) (s.setTbu { s.tbu with commit := .idle })

/-- The configuration image in the store replaced. -/
def putImage (item : StoredItem Tables) (s : State) : State :=
  s.setStore { s.store with image := item }

/-- An account record in the store replaced. -/
def putRecord (a : Fin 64) (item : StoredItem AccountItem) (s : State) : State :=
  s.setStore { s.store with records := s.store.records.set a item }

/-- CONFIGURATION_WRITE_COMPLETE (R48, R197). -/
def execConfigurationWriteComplete (verify : VerifyRead Tables) (s : State) :
    Outcome State Fault Refusal :=
  match s.nvs.write with
  | some (.config image) =>
    match verify with
    | .agrees => .next (finish (writeAgrees (endCommit .done (putImage (imageItem image) s))))
    | .disagrees left => .next (finish (endCommit .storeFailed (writeFails (putImage left s))))
  | some (.record _ _) => .next s
  | none => .next s

/-- A failed record write while a configuration write is owed drops it: the Table Unit takes this
as a store that was FAILED at the swap (R48, R197). -/
def recordWriteFails (s : State) : State :=
  if s.nvs.pendingConfig then endCommit .notStored (writeFails s) else writeFails s

/-- ACCOUNT_RECORD_WRITE_COMPLETE (R48, R197). -/
def execAccountRecordWriteComplete (verify : VerifyRead AccountItem) (s : State) :
    Outcome State Fault Refusal :=
  match s.nvs.write with
  | some (.record a item) =>
    match verify with
    | .agrees => .next (finish (writeAgrees (putRecord a (recordItem item) s)))
    | .disagrees left => .next (finish (recordWriteFails (putRecord a left s)))
  | some (.config _) => .next s
  | none => .next s

end Sys2Proof.Machine
end

