-- ==== Sys2Proof/Machine/Dispatch.lean ====
section
/-! DEFINITION. One arm per command: the meaning of each row of spec/opcode_table.json. -/

namespace Sys2Proof.Machine

open Sys2Proof

/-- The meaning of a command: its effect on everything but the queue. -/
def exec (i : Instr) (s : State) : Host.Outcome State Fault Refusal :=
  match i with
  | .powerReset resetAsserted => Sys2Proof.Machine.execPowerReset resetAsserted s
  | .pinReset => Sys2Proof.Machine.execPinReset s
  | .pinResetRelease => Sys2Proof.Machine.execPinResetRelease s
  | .restartReset => Sys2Proof.Machine.execRestartReset s
  | .configurationImageRead addr => Sys2Proof.Machine.execConfigurationImageRead addr s
  | .accountRecordRead addr => Sys2Proof.Machine.execAccountRecordRead addr s
  | .cycleTimerExpiry => Sys2Proof.Machine.execCycleTimerExpiry s
  | .markEnd => Sys2Proof.Machine.execMarkEnd s
  | .headerEnd => Sys2Proof.Machine.execHeaderEnd s
  | .collided => Sys2Proof.Machine.execCollided s
  | .callComplete => Sys2Proof.Machine.execCallComplete s
  | .answerWindowExpiry => Sys2Proof.Machine.execAnswerWindowExpiry s
  | .answerStart => Sys2Proof.Machine.execAnswerStart s
  | .answerCharacter framed char => Sys2Proof.Machine.execAnswerCharacter framed char s
  | .answerBreak => Sys2Proof.Machine.execAnswerBreak s
  | .overlong => Sys2Proof.Machine.execOverlong s
  | .fieldNoise => Sys2Proof.Machine.execFieldNoise s
  | .slotEnd => Sys2Proof.Machine.execSlotEnd s
  | .actuatorLost => Sys2Proof.Machine.execActuatorLost s
  | .sensorStale slot => Sys2Proof.Machine.execSensorStale slot s
  | .dateWatchExpiry => Sys2Proof.Machine.execDateWatchExpiry s
  | .checkpoint => Sys2Proof.Machine.execCheckpoint s
  | .vacancyHoldReached zone => Sys2Proof.Machine.execVacancyHoldReached zone s
  | .holdExpiry zone => Sys2Proof.Machine.execHoldExpiry zone s
  | .configurationWriteComplete verify => Sys2Proof.Machine.execConfigurationWriteComplete verify s
  | .accountRecordWriteComplete verify => Sys2Proof.Machine.execAccountRecordWriteComplete verify s
  | .blCharacterReceived framed char commission => Sys2Proof.Machine.execBlCharacterReceived framed char commission s
  | .frameGapTimeout => Sys2Proof.Machine.execFrameGapTimeout s
  | .transmissionEnd commission => Sys2Proof.Machine.execTransmissionEnd commission s
  | .commandSet origin id node value => Sys2Proof.Machine.execCommandSet origin id node value s
  | .commandAction origin id node code => Sys2Proof.Machine.execCommandAction origin id node code s
  | .time origin body => Sys2Proof.Machine.execTime origin body s
  | .unknownMessageKind origin kind body => Sys2Proof.Machine.execUnknownMessageKind origin kind body s
  | .unknownRequest origin body => Sys2Proof.Machine.execUnknownRequest origin body s
  | .readRecord origin fields => Sys2Proof.Machine.execReadRecord origin fields s
  | .readState origin fields => Sys2Proof.Machine.execReadState origin fields s
  | .linkReadAccount origin fields => Sys2Proof.Machine.execLinkReadAccount origin fields s
  | .readFault origin fields => Sys2Proof.Machine.execReadFault origin fields s
  | .clearLatch origin fields => Sys2Proof.Machine.execClearLatch origin fields s
  | .holdOccupied origin fields => Sys2Proof.Machine.execHoldOccupied origin fields s
  | .releaseHold origin fields => Sys2Proof.Machine.execReleaseHold origin fields s
  | .grantExtension origin fields => Sys2Proof.Machine.execGrantExtension origin fields s
  | .statsControl origin fields => Sys2Proof.Machine.execStatsControl origin fields s
  | .statsClear origin fields => Sys2Proof.Machine.execStatsClear origin fields s
  | .clearFault origin fields => Sys2Proof.Machine.execClearFault origin fields s
  | .writeRecord origin fields => Sys2Proof.Machine.execWriteRecord origin fields s
  | .discardStaged origin fields => Sys2Proof.Machine.execDiscardStaged origin fields s
  | .commit origin fields => Sys2Proof.Machine.execCommit origin fields s
  | .suspendAccount origin fields => Sys2Proof.Machine.execSuspendAccount origin fields s
  | .resumeAccount origin fields => Sys2Proof.Machine.execResumeAccount origin fields s
  | .seedAccount origin fields => Sys2Proof.Machine.execSeedAccount origin fields s
  | .restart origin fields => Sys2Proof.Machine.execRestart origin fields s
  | .commandNeitherSetNorAction origin body => Sys2Proof.Machine.execCommandNeitherSetNorAction origin body s

end Sys2Proof.Machine
end

