-- ==== Sys2Proof/Machine/Step.lean ====
section
/-! DEFINITION. One step: the command at the front of the queue, or a second of the cycle timer. -/

namespace Sys2Proof.Machine

open Sys2Proof

/-- One second passes: a running cycle timer counts down to 0 (R4; assumption log 5). -/
def tick (s : State) : State := s.setFlc { s.flc with timer := s.flc.timer.map fun n => n - 1 }

/-- One step: the command at the front of the queue, run on the queue's rest; on an empty queue a
second passes. -/
def step (s : State) : Host.Outcome State Fault Refusal :=
  match s.pending with
  | [] => .next (tick s)
  | c :: rest => exec c { s with pending := rest }

/-- The state with the command that a word spells at the front of its queue; no word of this
part's table spells one. -/
def State.withFetchWord (s : State) (nbits w : Nat) : State :=
  match decodeTableWord nbits w with
  | some c => { s with pending := c :: s.pending }
  | none => s

end Sys2Proof.Machine
end

