-- ==== Sys2Proof/Safety.lean ====
section
/-! DEFINITION. The terms in which the statements speak: what a message finds when it can be taken at
once, how an answer stands, and the invariants of the part. The model stops on no command, so a safe
run is one on which these invariants hold. -/

namespace Sys2Proof.Machine

open Sys2Proof

/-! ## Messages and answers -/

/-- A message that arrives now is taken in the event of its arrival (R154, R155). -/
def State.TakesAtOnce (s : State) : Prop :=
  s.bli.rx ≠ .disabled ∧ s.bli.takingOpen = true ∧ s.bli.holding = [] ∧ s.bli.replySlot = none

/-- The access level that a message from an origin has (R170): the COMMISSION pin as the event
brings it, else the Requester Table. -/
def State.levelOf (s : State) (o : Origin) : Level :=
  if o.commission then .commission
  else
    match s.tbu.active.requesterEntry o.source with
    | some i => (s.tbu.active.requesters.get i).grants
    | none => .observe

/-- An answer to a destination waits in the reply slot, or the arbiter has already chosen it
(R155, R165). -/
def State.Answers (t : State) (dest : Byte) (a : Answering) : Prop :=
  t.bli.replySlot = some ⟨dest, a⟩ ∨ t.bli.tx = .sending (.answer ⟨dest, a⟩)

/-- A REPLY with a request code, a status and contents stands for a destination. -/
def State.Replies (t : State) (dest : Byte) (k : ReqKind) (status : Status) (c : Contents) : Prop :=
  t.Answers dest (.reply ⟨byte k.code, status, c⟩)

/-- A notice stands on the board, or the arbiter has already chosen it (R162, R165). -/
def State.Announces (t : State) (n : Notice) : Prop :=
  (∃ e ∈ t.bli.board, e.notice = n) ∨ (∃ e, e.notice = n ∧ t.bli.tx = .sending (.notice e))

/-- A REPORT stands in the report buffer, or the arbiter has already chosen it (R160, R165). -/
def State.Reports (t : State) (r : Report) : Prop :=
  t.bli.report = some r ∨ t.bli.tx = .sending (.report r)

/-- The pins with the COMMISSION level that an origin brings. -/
def State.pinsOf (s : State) (o : Origin) : Pins := { s.pins with commission := o.commission }

/-! ## Requests -/

/-- The command that is the arrival of a REQUEST of a kind (R172). -/
def ReqKind.toInstr : ReqKind → Origin → List Byte → Instr
  | .readRecord => .readRecord
  | .readState => .readState
  | .linkReadAccount => .linkReadAccount
  | .readFault => .readFault
  | .clearLatch => .clearLatch
  | .holdOccupied => .holdOccupied
  | .releaseHold => .releaseHold
  | .grantExtension => .grantExtension
  | .statsControl => .statsControl
  | .statsClear => .statsClear
  | .clearFault => .clearFault
  | .writeRecord => .writeRecord
  | .discardStaged => .discardStaged
  | .commit => .commit
  | .suspendAccount => .suspendAccount
  | .resumeAccount => .resumeAccount
  | .seedAccount => .seedAccount
  | .restart => .restart

/-- The record of a table that bytes spell (R205). -/
def TableId.recordOfBytes : TableId → List Byte → TableRecord
  | .bus, bs => .bus (.ofBytes bs)
  | .slotMap, bs => .slot (.ofBytes bs)
  | .zone, bs => .zone (.ofBytes bs)
  | .drift, bs => .drift (atU16 bs 0)
  | .account, bs => .account (.ofBytes bs)
  | .requester, bs => .requester (.ofBytes bs)

/-! ## Messages as commands -/

/-- The origin, the kind and the body of the message whose arrival a command is (R154); none for the
rows that bring no message. -/
def arrivalOf : Instr → Option (Origin × Byte × List Byte)
  | .commandSet o id node value => some (o, kindCommand, commandBody id node 1#8 value)
  | .commandAction o id node code => some (o, kindCommand, commandBody id node 2#8 code)
  | .commandNeitherSetNorAction o body => some (o, kindCommand, body)
  | .time o body => some (o, kindTime, body)
  | .unknownMessageKind o kind body => some (o, kind, body)
  | .unknownRequest o body => some (o, kindRequest, body)
  | .readRecord o fields => some (o, kindRequest, byte (ReqKind.code .readRecord) :: fields)
  | .readState o fields => some (o, kindRequest, byte (ReqKind.code .readState) :: fields)
  | .linkReadAccount o fields =>
    some (o, kindRequest, byte (ReqKind.code .linkReadAccount) :: fields)
  | .readFault o fields => some (o, kindRequest, byte (ReqKind.code .readFault) :: fields)
  | .clearLatch o fields => some (o, kindRequest, byte (ReqKind.code .clearLatch) :: fields)
  | .holdOccupied o fields => some (o, kindRequest, byte (ReqKind.code .holdOccupied) :: fields)
  | .releaseHold o fields => some (o, kindRequest, byte (ReqKind.code .releaseHold) :: fields)
  | .grantExtension o fields =>
    some (o, kindRequest, byte (ReqKind.code .grantExtension) :: fields)
  | .statsControl o fields => some (o, kindRequest, byte (ReqKind.code .statsControl) :: fields)
  | .statsClear o fields => some (o, kindRequest, byte (ReqKind.code .statsClear) :: fields)
  | .clearFault o fields => some (o, kindRequest, byte (ReqKind.code .clearFault) :: fields)
  | .writeRecord o fields => some (o, kindRequest, byte (ReqKind.code .writeRecord) :: fields)
  | .discardStaged o fields => some (o, kindRequest, byte (ReqKind.code .discardStaged) :: fields)
  | .commit o fields => some (o, kindRequest, byte (ReqKind.code .commit) :: fields)
  | .suspendAccount o fields =>
    some (o, kindRequest, byte (ReqKind.code .suspendAccount) :: fields)
  | .resumeAccount o fields => some (o, kindRequest, byte (ReqKind.code .resumeAccount) :: fields)
  | .seedAccount o fields => some (o, kindRequest, byte (ReqKind.code .seedAccount) :: fields)
  | .restart o fields => some (o, kindRequest, byte (ReqKind.code .restart) :: fields)
  | .powerReset _ | .pinReset | .pinResetRelease | .restartReset | .configurationImageRead _
  | .accountRecordRead _ | .cycleTimerExpiry | .markEnd | .headerEnd | .collided
  | .callComplete | .answerWindowExpiry | .answerStart | .answerCharacter _ _ | .answerBreak
  | .overlong | .fieldNoise | .slotEnd | .actuatorLost | .sensorStale _ | .dateWatchExpiry
  | .checkpoint | .vacancyHoldReached _ | .holdExpiry _ | .configurationWriteComplete _
  | .accountRecordWriteComplete _ | .blCharacterReceived _ _ _ | .frameGapTimeout
  | .transmissionEnd _ => none

/-! ## Slots -/

/-- Slot k of the running cycle can end now, with outcome `o` (R17, R18). -/
def Flc.Ends (f : Flc) (k : Fin 48) (o : SlotOutcome) : Prop :=
  f.state = .slot ∧ f.slot = some k ∧
    ((f.phase = some .silent ∧ o = .skipped)
      ∨ (f.phase = some .guard ∧ ∃ p, f.provisional = some p ∧ o = p.outcome)
      ∨ (f.phase = some .ignoring ∧ f.settled = some o))

/-- Slot k is the last of the running cycle (R20). -/
def Flc.Last (f : Flc) (k : Fin 48) : Prop := num f.slotCount ≤ k.val + 1

/-- FL_TXD carries the six characters of a call (R203): node, call code as kind × 8 plus tag, value
high and low, slot index, and a check that brings the sum to FFh. -/
def Flc.SendsCall (f : Flc) (node : Nat) (k : Fin 48) (c : Call) : Prop :=
  let code : Byte := match c with
    | .poll => 8#8
    | .set _ tag => 16#8 + tag.setWidth 8
    | .action _ tag => 24#8 + tag.setWidth 8
  let value : Half := match c with
    | .poll => 0#16
    | .set v _ => BitVec.ofInt 16 v
    | .action .restart _ => 1#16
    | .action .identify _ => 2#16
    | .action .selfTest _ => 3#16
  let hi := value.extractLsb' 8 8
  let lo := value.extractLsb' 0 8
  ∃ check, f.txd = .characters
      [BitVec.ofNat 8 node, code, hi, lo, BitVec.ofNat 8 k.val, check]
    ∧ BitVec.ofNat 8 node + code + hi + lo + BitVec.ofNat 8 k.val + check = 0xFF#8

/-! ## Cycle close -/

/-- The state that the close work of cycle n leaves, when the last slot's end left `s1` (R23): the
XSU's work and then the steps of the other blocks' work, the staged copy becoming active between the
two steps that the schedule names (R44). -/
def closeWorkDone (s1 : State) : State :=
  let tables := s1.tbu.active
  let s0 := xsuClose tables (s1.setFlc s1.flc.closed)
  let steps := closeSteps tables s0
  let n := s1.order.swapAt.getD steps.length
  runSteps (steps.drop n) (activate (runSteps (steps.take n) s0))

/-! ## Zone entries -/

/-- A slot that senses a quantity in a zone has a LIVE record for which a test holds. -/
def Cmu.LiveIn (c : Cmu) (t : Tables) (z : Fin 16) (q : CondQ) (p : SensorRecord → Prop) : Prop :=
  ∃ k r, (t.slots.get k).sensorQuantity = some q.quantity ∧ (t.slots.get k).zoneIndex = some z
    ∧ c.sensors.get k = some r ∧ r.health = .live ∧ p r

/-- The coverage and the side classes of the entry of a zone and quantity are those its records give
(R67, R68). That NONE comes first, also for RH of a CURVE zone while the band is UNKNOWN, is DEDUCED
(assumption log 13). -/
structure Cmu.EntryStands (c : Cmu) (t : Tables) (z : Fin 16) (q : CondQ) : Prop where
  coverage_none : (c.cond z q).coverage = .none ↔ ∀ k,
    ¬ ((t.slots.get k).sensorQuantity = some q.quantity ∧ (t.slots.get k).zoneIndex = some z)
  coverage_live : (c.cond z q).coverage = .live ↔ c.LiveIn t z q (fun _ => True)
    ∧ ¬ (q = .rh ∧ (t.zoneRec z).isCurve = true ∧ c.band = none)
  sides_need_live : (c.cond z q).coverage ≠ .live →
    (c.cond z q).low = .normal ∧ (c.cond z q).high = .normal
  high_alarm : (c.cond z q).coverage = .live →
    ((c.cond z q).high = .alarm ↔ c.LiveIn t z q fun r => r.cls = some .alarmHi)
  high_warn : (c.cond z q).coverage = .live →
    ((c.cond z q).high = .normal ↔
      ¬ c.LiveIn t z q fun r => r.cls = some .warnHi ∨ r.cls = some .alarmHi)
  low_alarm : (c.cond z q).coverage = .live → q.hasLow = true →
    ((c.cond z q).low = .alarm ↔ c.LiveIn t z q fun r => r.cls = some .alarmLo)
  low_warn : (c.cond z q).coverage = .live → q.hasLow = true →
    ((c.cond z q).low = .normal ↔
      ¬ c.LiveIn t z q fun r => r.cls = some .warnLo ∨ r.cls = some .alarmLo)
  no_low : q.hasLow = false → (c.cond z q).low = .normal

/-- The entry of a zone and quantity is the one its records give (R67 to R69), where it was `old`
before they moved. -/
structure Cmu.EntryFollows (c : Cmu) (t : Tables) (z : Fin 16) (q : CondQ) (old : ZoneCond) :
    Prop extends Cmu.EntryStands c t z q where
  high_latch : (c.cond z q).highLatch =
    (if (c.cond z q).high = .alarm then old.highLatch || old.high != .alarm
      else old.highLatch && !(old.high == .alarm && (t.zoneRec z).follows q))
  low_latch : (c.cond z q).lowLatch =
    (if (c.cond z q).low = .alarm then old.lowLatch || old.low != .alarm
      else old.lowLatch && !(old.low == .alarm && (t.zoneRec z).follows q))

/-! ## Ceilings -/

/-- A zone is under dose rest (R116). -/
def Dau.RestsZone (d : Dau) (t : Tables) (z : Fin 16) : Prop :=
  ∃ a, t.accountEnabled a = true ∧ (t.accounts.get a).zoneIndex = some z
    ∧ (t.accounts.get a).rests = true
    ∧ ((d.accounts.get a).state = .dailySpent ∨ (d.accounts.get a).state = .annualSpent)

/-- The ceiling and reason of a zone record are those of the first row of R115 that applies. -/
structure ZoneDyn.CeilingStands (r : ZoneDyn) (t : Tables) (d : Dau) (z : Fin 16) : Prop where
  rest_dose : d.RestsZone t z →
    r.ceiling = some (num (t.zoneRec z).restLevel) ∧ r.reason = some .restDose
  rest_vacant : ¬ d.RestsZone t z → (t.zoneRec z).restsOnVacancy = true → r.presence = .vacant →
    r.hold = none → r.ceiling = some (num (t.zoneRec z).restLevel) ∧ r.reason = some .restVacant
  table : ¬ d.RestsZone t z →
    ((t.zoneRec z).restsOnVacancy = false ∨ r.presence ≠ .vacant ∨ r.hold ≠ none) →
    r.ceiling = some (num (t.zoneRec z).luxCeiling) ∧ r.reason = some .table

/-! ## Link monitors -/

/-- An entry after the entry of rank `gone` became FREE: a higher rank falls by 1 (R80). -/
def MonitorEntry.closedUp (gone : Nat) (e : MonitorEntry) : MonitorEntry :=
  if gone < e.order then { e with order := e.order - 1 } else e

/-! ## Store and resets -/

/-- An item of the store is a valid record of an account, holding `r` (R101). -/
def RecordValid (a : Fin 64) (item : StoredItem AccountItem) (r : AccountItem) : Prop :=
  item = .held r (crc16 r.bytes) ∧ r.account = a.val ∧ r.usedToday ≤ r.usedYear
    ∧ ∀ d, r.date = some d → 2000 ≤ d.year ∧ d.year ≤ 2099 ∧ 1 ≤ d.day ∧ d.day ≤ 366

/-- Every volatile item has the value that a reset gives it (R1, R27, R51 to R53, R78 to R80, R107,
R108, R123, R150, R169, R183, R184, R194). -/
structure State.HasResetValues (t : State) (cause : ResetCause) : Prop where
  flc : t.flc.state = .stopped ∧ t.flc.cycle = 0#16 ∧ t.flc.timer = none ∧ t.flc.slotCount = none
    ∧ t.flc.slot = none ∧ t.flc.phase = none ∧ t.flc.call = none ∧ t.flc.answer = []
    ∧ t.flc.provisional = none ∧ t.flc.results = [] ∧ t.flc.driverEnable = false
    ∧ t.flc.txd = .recessive
  tbu : t.tbu.commit = .idle ∧ t.tbu.swapCycle = none
  sensors : ∀ k, t.cmu.sensors.get k = none
  conds : ∀ z q, t.cmu.cond z q = ⟨.normal, .normal, .none, false, false⟩
  cmu : t.cmu.band = none ∧ t.cmu.alert = false
  accounts : ∀ a, t.dau.accounts.get a = ⟨.idle, 0, 0, 0, none, 0, 0#16, false⟩
  dau : t.dau.ledger = none ∧ t.dau.dateWatch = 0 ∧ t.dau.dateStale = false
    ∧ t.dau.checkpointCounter = 0
  monitors : ∀ i, t.dau.monitors.get i = .free
  zones : ∀ z, t.zcu.zones.get z = ⟨.occupied, 0, none, none, none⟩
  flags : ∀ k, t.zcu.vacantSeen.get k = false
  actuators : ∀ k, t.cgu.actuators.get k = none
  bli : t.bli.rx = .disabled ∧ t.bli.frame = [] ∧ t.bli.holding = [] ∧ t.bli.takingOpen = false
    ∧ t.bli.replySlot = none ∧ t.bli.report = none ∧ t.bli.standings = [] ∧ t.bli.board = []
    ∧ t.bli.tx = .idle ∧ t.bli.halted = false
  mrh : t.mrh.fault = none ∧ t.mrh.restartPending = false
  trackers : ∀ z q, t.xsu.tracker z q = ⟨.closed, 0, none, none⟩
  xsu : t.xsu.enable = false ∧ t.xsu.zoneMask = 0xFFFF#16
    ∧ t.xsu.combine = ⟨0#8, 0#8, 0#8, 0#8⟩
  histograms : ∀ (q : CondQ) (b : Fin 8), (t.xsu.histograms.get q).get b = ⟨0, false⟩
  nvs : t.nvs.state = .idle ∧ t.nvs.pendingConfig = false ∧ t.nvs.write = none
    ∧ t.nvs.start = .starting ∧ t.nvs.cause = some cause
  pending : ∀ a, t.nvs.pendingAccounts.get a = false

/-! ## Swap work -/

/-- What the swap work of every block does (R75 to R77, R104, R105, R119, R120, R144, R146, R191), from a
state `u` in which no block has done any of it, to a state `t`. A record of `u` is kept for a slot
of the new map that carries its node and quantity, or node and kind, where no other record does. -/
structure SwapWorkDone (old new : Tables) (u t : State) : Prop where
  /-- R75: a slot with no matching record gets a fresh one. -/
  sensor_fresh : ∀ (k : Fin 48) (q : Quantity), (new.slots.get k).sensorQuantity = some q →
    (∀ j r, u.cmu.sensors.get j = some r →
      ¬ (some r.node = (new.slots.get k).node ∧ r.quantity = q)) →
    t.cmu.sensors.get k = some (SensorRecord.fresh (num (new.slots.get k).node) q)
  /-- R75: a matching record is kept, its missed count held to the new S; its class and candidate are
  absent in a changed zone, and for RH in a CURVE zone whose band is UNKNOWN after the swap. -/
  sensor_kept : ∀ (k j : Fin 48) (r : SensorRecord), u.cmu.sensors.get j = some r →
    (new.slots.get k).sensorQuantity = some r.quantity → (new.slots.get k).node = some r.node →
    (∀ i x, u.cmu.sensors.get i = some x → x.node = r.node → x.quantity = r.quantity → i = j) →
    let kept := { r with missed := min r.missed (num new.bus.staleLimit) }
    let unclassed := (old.slots.get j).zoneIndex ≠ (new.slots.get k).zoneIndex
      ∨ (r.quantity = .rh ∧ t.cmu.band = none
        ∧ ∃ z, (new.slots.get k).zoneIndex = some z ∧ (new.zoneRec z).isCurve = true)
    (unclassed → t.cmu.sensors.get k = some { kept with cls := none, candidate := none })
      ∧ (¬ unclassed → t.cmu.sensors.get k = some kept)
  /-- R75: a slot that is no SENSOR slot holds no record. -/
  sensor_gone : ∀ k, (new.slots.get k).sensorQuantity = none → t.cmu.sensors.get k = none
  /-- R77: the outdoor reference band is kept with the record of the OUTDOOR sensor. -/
  band_kept : ∀ (k j : Fin 48) (r : SensorRecord),
    (new.slots.get k).sensorQuantity = some .outdoor →
    (∀ i, (new.slots.get i).sensorQuantity = some .outdoor → i = k) →
    u.cmu.sensors.get j = some r → r.quantity = .outdoor →
    (new.slots.get k).node = some r.node → t.cmu.band = u.cmu.band
  /-- R77: without an OUTDOOR slot whose record is kept, the band is UNKNOWN. -/
  band_lost : (∀ (k j : Fin 48) (r : SensorRecord),
    (new.slots.get k).sensorQuantity = some .outdoor → u.cmu.sensors.get j = some r →
      ¬ (some r.node = (new.slots.get k).node ∧ r.quantity = .outdoor)) → t.cmu.band = none
  /-- R76: the entries of a zone that is not enabled are fresh. -/
  entry_fresh : ∀ z q, new.zoneEnabled z = false → t.cmu.cond z q = ZoneCond.fresh
  /-- R67, R68, R76: the entries of an enabled zone stand as the kept and fresh records give them. -/
  entry_stands : ∀ z q, new.zoneEnabled z = true → t.cmu.EntryStands new z q
  /-- R69, R76: a latch is set as its side becomes ALARM; where its side is not ALARM a FOLLOWING latch
  is cleared and a LATCHING one kept; a newly enabled zone starts from fresh entries. -/
  entry_latches : ∀ z q, new.zoneEnabled z = true →
    let was := if old.zoneEnabled z then u.cmu.cond z q else ZoneCond.fresh
    let now := t.cmu.cond z q
    now.lowLatch = (if now.low = .alarm then was.lowLatch || was.low != .alarm
        else was.lowLatch && !(new.zoneRec z).follows q)
      ∧ now.highLatch = (if now.high = .alarm then was.highLatch || was.high != .alarm
        else was.highLatch && !(new.zoneRec z).follows q)
  /-- R73, R76: ALERT takes its new level. -/
  alert : t.cmu.alert = true ↔ ∃ z q, new.zoneEnabled z = true
    ∧ ((t.cmu.cond z q).low = .alarm ∨ (t.cmu.cond z q).high = .alarm
      ∨ (t.cmu.cond z q).lowLatch = true ∨ (t.cmu.cond z q).highLatch = true)
  /-- R104: an account that the swap disables is IDLE with nothing counted. -/
  account_disabled : ∀ a, old.accountEnabled a = true → new.accountEnabled a = false →
    t.dau.accounts.get a
      = { AccountDyn.reset with revision := (u.dau.accounts.get a).revision + 1#16 }
  /-- R104: an account that the swap enables is OPEN with nothing counted. -/
  account_enabled : ∀ a, old.accountEnabled a = false → new.accountEnabled a = true →
    t.dau.accounts.get a = { AccountDyn.reset with
      state := .open_, revision := (u.dau.accounts.get a).revision + 1#16 }
  /-- R104: an account that stays enabled keeps its counts, its extension held to the new allowance,
  and is evaluated against the new limits unless SUSPENDED. -/
  account_kept : ∀ a, old.accountEnabled a = true → new.accountEnabled a = true →
    let r := u.dau.accounts.get a
    let x := min r.extension (num (new.accounts.get a).allowance)
    t.dau.accounts.get a = { r with
      extension := x
      revision := r.revision + 1#16
      state :=
        if r.state = .suspended then .suspended
        else if (new.accounts.get a).budgetLuxSeconds ≤ r.usedYear then .annualSpent
        else if (num (new.accounts.get a).allowance + x) * 3600 ≤ r.usedToday then .dailySpent
        else .open_ }
  /-- R104: an account enabled neither before nor after is not changed. -/
  account_unused : ∀ a, old.accountEnabled a = false → new.accountEnabled a = false →
    t.dau.accounts.get a = u.dau.accounts.get a
  /-- R105: every OPEN monitor becomes LAPSED, and the ledger stands. -/
  monitors_lapsed : (∀ i e, u.dau.monitors.get i = .open_ e → t.dau.monitors.get i = .lapsed e)
    ∧ (∀ i e, t.dau.monitors.get i ≠ .open_ e)
    ∧ t.dau.ledger = u.dau.ledger ∧ t.dau.dateWatch = u.dau.dateWatch
    ∧ t.dau.dateStale = u.dau.dateStale
    ∧ t.dau.checkpointCounter = u.dau.checkpointCounter
  /-- R119: a zone that the swap disables goes back to its reset record. -/
  zone_disabled : ∀ z, old.zoneEnabled z = true → new.zoneEnabled z = false →
    t.zcu.zones.get z = ZoneDyn.reset
  /-- R119: a zone that the swap enables starts OCCUPIED with no hold. -/
  zone_enabled : ∀ z, old.zoneEnabled z = false → new.zoneEnabled z = true →
    (t.zcu.zones.get z).presence = .occupied ∧ (t.zcu.zones.get z).count = 0
      ∧ (t.zcu.zones.get z).hold = none
  /-- R119: a zone that stays enabled keeps its hold, and its count where its presence nodes are the
  same, with the state that the count gives under the new vacancy hold. -/
  zone_kept : ∀ z, old.zoneEnabled z = true → new.zoneEnabled z = true →
    (t.zcu.zones.get z).hold = (u.zcu.zones.get z).hold
    ∧ ((∀ n, n ∈ presenceNodes old z ↔ n ∈ presenceNodes new z) →
        (t.zcu.zones.get z).count = (u.zcu.zones.get z).count
        ∧ (t.zcu.zones.get z).presence =
          (if (u.zcu.zones.get z).count = 0 then .occupied
            else if num (new.zoneRec z).vacancyHold ≤ (u.zcu.zones.get z).count then .vacant
            else .vacantPending))
    ∧ ((¬ ∀ n, n ∈ presenceNodes old z ↔ n ∈ presenceNodes new z) →
        (t.zcu.zones.get z).count = 0 ∧ (t.zcu.zones.get z).presence = .occupied)
  /-- R119: a zone enabled neither before nor after is not changed. -/
  zone_unused : ∀ z, old.zoneEnabled z = false → new.zoneEnabled z = false →
    t.zcu.zones.get z = u.zcu.zones.get z
  /-- R120: the ceiling of every enabled zone is computed under the new tables, from the account states
  that the Dose Account Unit's swap work leaves. -/
  ceiling_stands : ∀ z, new.zoneEnabled z = true →
    (t.zcu.zones.get z).CeilingStands new t.dau z
  /-- R119: the vacant-seen flags start at no. -/
  flags_clear : ∀ k, t.zcu.vacantSeen.get k = false
  /-- R144: an ACTUATOR slot with no matching record gets a fresh one. -/
  actuator_fresh : ∀ (k : Fin 48) (kind : ActKind) (z : Fin 16),
    (new.slots.get k).actuatorKind = some kind → (new.slots.get k).zoneIndex = some z →
    (∀ j r, u.cgu.actuators.get j = some r →
      ¬ (some r.node = (new.slots.get k).node ∧ r.kind = kind)) →
    t.cgu.actuators.get k
      = some (ActuatorRecord.fresh (num (new.slots.get k).node) kind z k)
  /-- R144, R146: a matching record is kept under its new slot and zone, held to the new M: one that is
  SUSPECT at M becomes LOST (R141). -/
  actuator_kept : ∀ (k j : Fin 48) (r : ActuatorRecord) (z : Fin 16),
    u.cgu.actuators.get j = some r →
    (new.slots.get k).actuatorKind = some r.kind → (new.slots.get k).node = some r.node →
    (new.slots.get k).zoneIndex = some z →
    (∀ i x, u.cgu.actuators.get i = some x → x.node = r.node → x.kind = r.kind → i = j) →
    let limit := num new.bus.missLimit
    t.cgu.actuators.get k = some
      (if r.link = .lost then { r with slot := k, zone := z, miss := limit }
        else if r.link = .suspect ∧ limit ≤ r.miss then
          { r with
            slot := k, zone := z, miss := limit, link := .lost, inFlight := none, queue := [] }
        else { r with slot := k, zone := z, miss := min r.miss limit })
  /-- R144: a slot that is no ACTUATOR slot holds no record. -/
  actuator_gone : ∀ k, (new.slots.get k).actuatorKind = none → t.cgu.actuators.get k = none
  /-- R191: the trackers of a zone that the swap disables are fresh. -/
  tracker_fresh : ∀ z q, old.zoneEnabled z = true → new.zoneEnabled z = false →
    t.xsu.tracker z q = Tracker.fresh
  /-- R185, R191: the trackers of a zone enabled after the swap stand as they did, but for the report of
  an entry that the rebuild has changed; a newly enabled zone's entry was fresh. -/
  tracker_kept : ∀ z q, new.zoneEnabled z = true →
    let was := if old.zoneEnabled z then u.cmu.cond z q else ZoneCond.fresh
    let now := t.cmu.cond z q
    t.xsu.tracker z q =
      if was.low = now.low ∧ was.high = now.high ∧ was.coverage = now.coverage then
        u.xsu.tracker z q
      else (changeReport z q now u).xsu.tracker z q
  /-- R191: the trackers of a zone enabled neither before nor after are not changed. -/
  tracker_unused : ∀ z q, old.zoneEnabled z = false → new.zoneEnabled z = false →
    t.xsu.tracker z q = u.xsu.tracker z q
  /-- R191: settings stand. -/
  settings_kept : t.xsu.enable = u.xsu.enable ∧ t.xsu.zoneMask = u.xsu.zoneMask
    ∧ t.xsu.combine = u.xsu.combine

/-! ## Invariants -/

/-- The notice board (R161): no two entries with one key, at most 63 keyed entries and 64 in all,
merge counts 1 to 255. -/
def Bli.BoardWf (b : Bli) : Prop :=
  (b.board.map fun e => e.notice.key).Nodup ∧ keyedCount b.board ≤ 63 ∧ b.board.length ≤ 64
    ∧ ∀ e ∈ b.board, 1 ≤ e.merge ∧ e.merge ≤ 255

/-- No account has accrued more today than this year (R83). -/
def Dau.YearCoversToday (d : Dau) : Prop :=
  ∀ a : Fin 64, (d.accounts.get a).usedToday ≤ (d.accounts.get a).usedYear

/-- The link monitor table (R80, R92): a requester holds at most one entry; an OPEN entry's revision
is its account's; the opening orders of the entries that are not FREE are distinct, from 1 to their
number. -/
structure Dau.MonitorsSound (d : Dau) : Prop where
  one_each : ∀ (i j : Fin 4) (e f : MonitorEntry), (d.monitors.get i).entry? = some e →
    (d.monitors.get j).entry? = some f → e.requester = f.requester → i = j
  current : ∀ (i : Fin 4) (e : MonitorEntry), d.monitors.get i = .open_ e →
    e.revision = (d.accounts.get e.account).revision
  ranked : ∀ (i : Fin 4) (e : MonitorEntry), (d.monitors.get i).entry? = some e →
    1 ≤ e.order ∧ e.order ≤ heldMonitors d.monitors
  ranks_distinct : ∀ (i j : Fin 4) (e f : MonitorEntry), (d.monitors.get i).entry? = some e →
    (d.monitors.get j).entry? = some f → e.order = f.order → i = j

/-- FL_DE is asserted exactly in MARK, in HEADER and while a call is sent (R3, R6, R7, R13, R24). -/
def Flc.drives (f : Flc) : Bool :=
  f.state == .mark || f.state == .header || f.phase == some .calling

/-- The items of the FLC agree with its state (R1, R2, R4, R8). -/
structure Flc.Coherent (f : Flc) : Prop where
  phase_in_slot : f.phase.isSome = true ↔ f.state = .slot
  slot_in_slot : f.slot.isSome = true ↔ f.state = .slot
  timer_runs : f.timer.isSome = true ↔ f.state ≠ .stopped
  count_present : f.slotCount.isSome = true ↔ f.state ≠ .stopped
  answer_fits : f.answer.length ≤ 6
  answer_not_begun : f.phase = some .calling ∨ f.phase = some .window → f.answer = []
  answer_open : f.phase = some .receiving → f.answer.length < 6
  line_driven : f.driverEnable = f.drives

/-- While the part starts up, every block but the tables, the store controller's reading and the
reset cause is as the reset left it (R198, R199). -/
structure State.StartsClean (s : State) : Prop where
  flc : s.nvs.start = .starting → s.flc = .reset
  cmu : s.nvs.start = .starting → s.cmu = .reset
  dau : s.nvs.start = .starting → s.dau = .reset
  zcu : s.nvs.start = .starting → s.zcu = .reset
  cgu : s.nvs.start = .starting → s.cgu = .reset
  bli : s.nvs.start = .starting → s.bli = .reset
  mrh : s.nvs.start = .starting → s.mrh = .reset
  xsu : s.nvs.start = .starting → s.xsu = .reset
  no_write : s.nvs.start = .starting → s.nvs.write = none ∧ s.nvs.pendingConfig = false
  no_commit : s.nvs.start = .starting → s.tbu.commit = .idle

/-- ALERT is asserted exactly when some enabled zone has an ALARM side or a set latch (R73). -/
def State.AlertFollows (s : State) : Prop := s.cmu.alert = alertLevel s.tbu.active s.cmu

/-- Once start-up has ended, the ceiling of an enabled zone is its lux ceiling or its rest level; a
zone that is not enabled has none (R107, R115). -/
def State.CeilingsFollow (s : State) : Prop :=
  s.nvs.start ≠ .starting → ∀ z : Fin 16,
    if s.tbu.active.zoneEnabled z then
      (s.zcu.zones.get z).ceiling = some (num (s.tbu.active.zoneRec z).luxCeiling)
        ∨ (s.zcu.zones.get z).ceiling = some (num (s.tbu.active.zoneRec z).restLevel)
    else (s.zcu.zones.get z).ceiling = none

/-- The tables in use are valid (R28, R40, R199): the active copy whenever the FLC cycles, or once
start-up has read the image; the staged copy while its swap is awaited. -/
structure State.TablesValid (s : State) : Prop where
  cycling : s.flc.state ≠ .stopped → validate s.tbu.active = none
  awaited : s.tbu.commit = .pendingSwap → validate s.tbu.staged = none
  loaded : s.nvs.start = .starting → s.nvs.reading ≠ .image → validate s.tbu.active = none

/-- Once start-up has ended, an enabled account is SUSPENDED or stands in the state that its counts
give; one that is not enabled is IDLE (R78, R85). -/
def State.AccountsFollow (s : State) : Prop :=
  s.nvs.start ≠ .starting → ∀ a : Fin 64,
    let r := s.dau.accounts.get a
    let cfg := s.tbu.active.accounts.get a
    if s.tbu.active.accountEnabled a then
      r.state = .suspended
        ∨ r.state = (if cfg.budgetLuxSeconds ≤ r.usedYear then .annualSpent
          else if (num cfg.allowance + r.extension) * 3600 ≤ r.usedToday then .dailySpent
          else .open_)
    else r.state = .idle

/-- Once start-up has ended, a sensor record stands for each SENSOR slot of the active Slot Map and no
other (R51), and an actuator record for each ACTUATOR slot of a zone and no other (R122). -/
def State.RecordsFollowSlots (s : State) : Prop :=
  s.nvs.start ≠ .starting → ∀ k : Fin 48,
    ((s.cmu.sensors.get k).isSome = true ↔ ((s.tbu.active.slots.get k).sensorQuantity).isSome = true)
    ∧ ((s.cgu.actuators.get k).isSome = true ↔ ((s.tbu.active.slots.get k).actuatorKind).isSome = true
        ∧ ((s.tbu.active.slots.get k).zoneIndex).isSome = true)

/-- A configuration write is in progress. -/
def Nvs.writesConfig (n : Nvs) : Bool :=
  match n.write with
  | some (.config _) => true
  | some (.record _ _) => false
  | none => false

/-- A record write is in progress. -/
def Nvs.writesRecord (n : Nvs) : Bool :=
  match n.write with
  | some (.record _ _) => true
  | some (.config _) => false
  | none => false

/-- The commit state and the store's work agree (R27, R39, R47, R194, R197): a swap cycle stands
exactly while PENDING_SWAP; STORING stands exactly while a configuration write is owed or in
progress, never both; the store state names the write in progress; a FAILED store owes nothing. -/
structure State.StoreCoherent (s : State) : Prop where
  swap_cycle : s.tbu.swapCycle.isSome = true ↔ s.tbu.commit = .pendingSwap
  storing : s.tbu.commit = .storing ↔ (s.nvs.pendingConfig || s.nvs.writesConfig) = true
  not_both : (s.nvs.pendingConfig && s.nvs.writesConfig) = false
  config_state : s.nvs.state = .writingConfig ↔ s.nvs.writesConfig = true
  record_state : s.nvs.state = .writingRecord ↔ s.nvs.writesRecord = true
  failed_config : s.nvs.state = .failed → s.nvs.pendingConfig = false
  failed_accounts : s.nvs.state = .failed → s.nvs.pendingAccounts = Tab.fill 64 false

end Sys2Proof.Machine
end

