-- ==== Sys2Proof/WellFormed.lean ====
section
/-! DEFINITION. Which commands are well formed: a message's body fits its frame (R204), and the rows
that stand for "any other" message hold no message of another row (R126, R157, R171). -/

namespace Sys2Proof

/-- The body of a frame is at most 250 bytes (R204). -/
def fitsBody (body : List Byte) : Bool := body.length ≤ Config.bodyMax

/-- A body of the COMMAND length whose kind byte is SET 1 or ACTION 2 (R204). -/
def isSetOrAction (body : List Byte) : Bool :=
  body.length == 6 && (body.getD 3 0#8 == 1#8 || body.getD 3 0#8 == 2#8)

/-- A body whose first byte is one of the 18 request codes (R171, R205). -/
def hasRequestCode (body : List Byte) : Bool :=
  match body with
  | [] => false
  | c :: _ => 1 ≤ c.toNat && c.toNat ≤ 18

/-- A kind byte that is COMMAND, TIME or REQUEST (R157, R204). -/
def isInboundKind (kind : Byte) : Bool := kind == 1#8 || kind == 2#8 || kind == 3#8

/-- A request's fields leave room for the request code in the body (R204, R205). -/
def fitsRequest (fields : List Byte) : Bool := fields.length + 1 ≤ Config.bodyMax

/-- Whether a command is well formed. -/
def Instr.wellFormed : Instr → Bool
  | .powerReset _ | .pinReset | .pinResetRelease | .restartReset => true
  | .configurationImageRead _ | .accountRecordRead _ => true
  | .cycleTimerExpiry | .markEnd | .headerEnd | .collided | .callComplete => true
  | .answerWindowExpiry | .answerStart | .answerCharacter _ _ | .answerBreak => true
  | .overlong | .fieldNoise | .slotEnd | .actuatorLost | .sensorStale _ => true
  | .dateWatchExpiry | .checkpoint | .vacancyHoldReached _ | .holdExpiry _ => true
  | .configurationWriteComplete _ | .accountRecordWriteComplete _ => true
  | .blCharacterReceived _ _ _ | .frameGapTimeout | .transmissionEnd _ => true
  | .commandSet _ _ _ _ | .commandAction _ _ _ _ => true
  | .time _ body => fitsBody body
  | .unknownMessageKind _ kind body => !isInboundKind kind && fitsBody body
  | .unknownRequest _ body => !hasRequestCode body && fitsBody body
  | .readRecord _ f | .readState _ f | .linkReadAccount _ f | .readFault _ f => fitsRequest f
  | .clearLatch _ f | .holdOccupied _ f | .releaseHold _ f | .grantExtension _ f => fitsRequest f
  | .statsControl _ f | .statsClear _ f | .clearFault _ f | .writeRecord _ f => fitsRequest f
  | .discardStaged _ f | .commit _ f | .suspendAccount _ f | .resumeAccount _ f => fitsRequest f
  | .seedAccount _ f | .restart _ f => fitsRequest f
  | .commandNeitherSetNorAction _ body => !isSetOrAction body && fitsBody body

end Sys2Proof
end

