-- ==== Sys2Proof/Certificates/Slice0/Obligations.lean ====
section
/-! DEFINITION. The statements for the provers, block by block. Each docstring names the rules that the
statement rests on. -/

section

open Sys2Proof Sys2Proof.Machine Host

/-! ## The machine -/

/-- A step runs the command at the front of the queue on the queue's rest (the block's form of
"a step runs the decoded instruction"). -/
def Obligations.StepRunsFrontCommand : Prop :=
  ∀ (c : Instr) (s : State), step { s with pending := c :: s.pending } = exec c s

/-- Every command answers a next state, and none changes the queue. DESIGN CHOICE (assumption log 22):
the part has no event that stops it, so no row faults; DEDUCED (assumption log 2): a row whose event
cannot fall in the present state leaves the state as it is. That every row completes is therefore the
model's reading, not a rule's words. -/
def Obligations.EveryCommandAnswersAndKeepsQueue : Prop :=
  ∀ (c : Instr) (s : State), ∃ t, exec c s = .next t ∧ t.pending = s.pending

/-! ## Invariants that every step keeps -/

/-- R161: no two board entries with one key, at most 63 keyed entries and 64 in all, merge counts 1 to
255. -/
def Obligations.StepKeepsBoardBounds : Prop :=
  ∀ s t : State, s.bli.BoardWf → step s = .next t → t.bli.BoardWf

/-- R83: used today is never greater than used year. R80, R92: a requester holds at most one link
monitor entry, an OPEN entry's revision is its account's, and the opening orders are 1 to the number
of entries held, each once. R78, R85: once start-up has ended, an enabled account that is not
SUSPENDED stands in the state that its counts give, and one that is not enabled is IDLE. -/
def Obligations.StepKeepsYearCoversToday : Prop :=
  ∀ s t : State, step s = .next t →
    (s.dau.YearCoversToday → t.dau.YearCoversToday)
    ∧ (s.dau.MonitorsSound → t.dau.MonitorsSound)
    ∧ (s.StartsClean → s.TablesValid → s.AccountsFollow → t.AccountsFollow)

/-- R1, R2, R8: phase and current slot stand exactly in SLOT, timer and slot count exactly outside
STOPPED, the answer buffer holds at most six characters, and FL_DE is asserted exactly in MARK,
HEADER and CALLING. -/
def Obligations.StepKeepsFieldlineCoherent : Prop :=
  ∀ s t : State, s.flc.Coherent → step s = .next t → t.flc.Coherent

/-- R198, R199: while STARTING no block takes a message or a cycle event, so every block stays as the
reset left it. -/
def Obligations.StepKeepsStartUpClean : Prop :=
  ∀ s t : State, s.StartsClean → step s = .next t → t.StartsClean

/-- R73: ALERT is asserted exactly when some enabled zone has a side class of ALARM or a latch set. -/
def Obligations.StepKeepsAlertTrue : Prop :=
  ∀ s t : State, s.StartsClean → s.AlertFollows → step s = .next t → t.AlertFollows

/-- R107, R115: once start-up has ended, the ceiling of every enabled zone is its lux ceiling or its
rest level, and a zone that is not enabled has none. -/
def Obligations.StepKeepsCeilingsFromTable : Prop :=
  ∀ s t : State, s.StartsClean → s.CeilingsFollow → step s = .next t → t.CeilingsFollow

/-- R39, R47, R48, R194, R197: STORING stands exactly while a configuration write is owed or in
progress, the swap cycle exactly while PENDING_SWAP, and a FAILED store owes nothing. -/
def Obligations.StepKeepsCommitAndStoreAgreeing : Prop :=
  ∀ s t : State, s.StoreCoherent → step s = .next t → t.StoreCoherent

/-- The state after the first POWER reset meets every invariant. -/
def Obligations.ResetMeetsEveryInvariant : Prop :=
  State.reset.bli.BoardWf ∧ State.reset.dau.YearCoversToday ∧ State.reset.flc.Coherent
    ∧ State.reset.StartsClean ∧ State.reset.AlertFollows ∧ State.reset.CeilingsFollow
    ∧ State.reset.StoreCoherent ∧ State.reset.dau.MonitorsSound ∧ State.reset.TablesValid
    ∧ State.reset.AccountsFollow ∧ State.reset.RecordsFollowSlots

/-! ## Fieldline cycle -/

/-- R4, R5, R24: on the timer's expiry in CLOSED the cycle number rises by 1, wrapping, the timer takes
C, the slot count is one more than the highest used slot, the results are emptied and the mark
begins. Nothing but the FLC changes, the arbiter's turn apart. -/
def Obligations.TimerExpiryBeginsNextCycle : Prop :=
  ∀ s : State, s.flc.state = .closed →
    ∃ n, exec .cycleTimerExpiry s = .next { s with
        flc := { s.flc with
          state := .mark
          cycle := s.flc.cycle + 1#16
          timer := some (num s.tbu.active.bus.cycleInterval)
          slotCount := some n
          slot := none
          phase := none
          results := []
          driverEnable := true
          txd := .mark }
        bli := s.bli.arbitrate
        schedule := s.schedule.tail }
      ∧ (∀ k, (s.tbu.active.slots.get k).isUsed = true → k.val < n)
      ∧ (0 < n → ∃ k, (s.tbu.active.slots.get k).isUsed = true ∧ k.val + 1 = n)

/-- R7, R203: at the end of the mark the header is sent, header code, cycle number high and low, N and
a check that brings the sum to FFh; the results list holds slots 0 to N − 1, all PENDING. -/
def Obligations.MarkEndSendsHeader : Prop :=
  ∀ (s : State) (n : Nat), s.flc.state = .mark → s.flc.slotCount = some n → n ≤ 48 →
    ∃ check results, exec .markEnd s = .next { s with
        flc := { s.flc with
          state := .header
          results := results
          txd := .characters [0x3C#8, s.flc.cycle.extractLsb' 8 8, s.flc.cycle.extractLsb' 0 8,
            BitVec.ofNat 8 n, check] }
        bli := s.bli.arbitrate
        schedule := s.schedule.tail }
      ∧ 0x3C#8 + s.flc.cycle.extractLsb' 8 8 + s.flc.cycle.extractLsb' 0 8 + BitVec.ofNat 8 n
          + check = 0xFF#8
      ∧ results.map (fun r => r.slot.val) = List.range n
      ∧ ∀ r ∈ results, r.outcome = none

/-- R7, R8, R10 to R12: at the end of the header slot 0 begins. An UNUSED slot is SILENT; a sensor slot
is called with POLL (call code 8, value 0) at its node; an actuator slot makes the call that the
Command Gate decides, in the characters of R203, or is SILENT where it decides none. -/
def Obligations.HeaderEndStartsSlotZero : Prop :=
  ∀ s : State, s.flc.state = .header →
    ∃ t, exec .headerEnd s = .next t
      ∧ t = { s with flc := t.flc, cgu := t.cgu, bli := t.bli, schedule := s.schedule.tail }
      ∧ t.flc.state = .slot ∧ t.flc.slot = some 0 ∧ t.flc.results = s.flc.results
      ∧ ((s.tbu.active.slots.get 0).isUsed = false →
          t.flc.phase = some .silent ∧ t.flc.call = none ∧ t.flc.driverEnable = false
            ∧ t.cgu = s.cgu ∧ t.bli = s.bli.arbitrate)
      ∧ ((s.tbu.active.slots.get 0).isSensor = true →
          t.flc.phase = some .calling ∧ t.flc.call = some .poll ∧ t.flc.driverEnable = true
            ∧ t.cgu = s.cgu ∧ t.bli = s.bli.arbitrate
            ∧ ∃ check, t.flc.txd = .characters
                [BitVec.ofNat 8 (num (s.tbu.active.slots.get 0).node), 8#8, 0#8, 0#8, 0#8, check]
              ∧ BitVec.ofNat 8 (num (s.tbu.active.slots.get 0).node) + 8#8 + check = 0xFF#8)
      ∧ ((s.tbu.active.slots.get 0).isActuator = true →
          t.flc.call = (callDecision 0 s).2
            ∧ (t.flc.call = none → t.flc.phase = some .silent ∧ t.flc.driverEnable = false)
            ∧ (t.flc.call ≠ none → t.flc.phase = some .calling ∧ t.flc.driverEnable = true)
            ∧ ∀ c, t.flc.call = some c →
                t.flc.SendsCall (num (s.tbu.active.slots.get 0).node) 0 c)

/-- R13, R14, R17: what the line does settles the slot. A call character read back wrong ends the call
with COLLIDED, a call read back whole opens the answer window, and either way FL_DE is deasserted; the
window's expiry gives MISSING and the first activity inside it begins the answer; activity in the
guard time makes the slot OVERLONG and discards the six characters, and the provisional outcome with
them: DESIGN CHOICE (assumption log 18). FL_TXD recessive once FL_DE is deasserted is a DESIGN CHOICE
too (assumption log 23). Nothing but the FLC changes, the arbiter's turn apart. -/
def Obligations.LineEventsSettleTheSlot : Prop :=
  ∀ s : State,
    (s.flc.phase = some .calling →
      exec .collided s = .next { s with
        flc := { s.flc with
          settled := some .collided, phase := some .ignoring, driverEnable := false,
          txd := .recessive }
        bli := s.bli.arbitrate
        schedule := s.schedule.tail }
      ∧ exec .callComplete s = .next { s with
        flc := { s.flc with phase := some .window, driverEnable := false, txd := .recessive }
        bli := s.bli.arbitrate
        schedule := s.schedule.tail })
    ∧ (s.flc.phase = some .window →
      exec .answerWindowExpiry s = .next { s with
        flc := { s.flc with settled := some .missing, phase := some .ignoring }
        bli := s.bli.arbitrate
        schedule := s.schedule.tail }
      ∧ exec .answerStart s = .next { s with
        flc := { s.flc with phase := some .receiving }
        bli := s.bli.arbitrate
        schedule := s.schedule.tail })
    ∧ (s.flc.phase = some .guard →
      exec .overlong s = .next { s with
        flc := { s.flc with
          settled := some .overlong, phase := some .ignoring, answer := [], provisional := none }
        bli := s.bli.arbitrate
        schedule := s.schedule.tail })

/-- R15: a framed character joins the buffer; an unframed one, or a gap once a character is held,
breaks the answer as GARBLED. That the buffer then stays as it was, the unframed character left out,
is the model's: DESIGN CHOICE (assumption log 18). -/
def Obligations.AnswerGathersOrBreaks : Prop :=
  ∀ (s : State) (c : Byte), s.flc.phase = some .receiving →
    (s.flc.answer.length < 5 →
      exec (.answerCharacter true c) s = .next { s with
        flc := { s.flc with answer := s.flc.answer ++ [c] }
        bli := s.bli.arbitrate
        schedule := s.schedule.tail })
    ∧ exec (.answerCharacter false c) s = .next { s with
        flc := { s.flc with settled := some .garbled, phase := some .ignoring }
        bli := s.bli.arbitrate
        schedule := s.schedule.tail }
    ∧ (s.flc.answer ≠ [] → exec .answerBreak s = .next { s with
        flc := { s.flc with settled := some .garbled, phase := some .ignoring }
        bli := s.bli.arbitrate
        schedule := s.schedule.tail })

/-- R16, R203: the sixth character is classified by the first check that applies: check sum, node,
answer kind valid for the call; a GOOD answer keeps its contents. -/
def Obligations.SixthCharacterIsClassified : Prop :=
  ∀ (s : State) (k : Fin 48) (call : Call) (node code hi lo flags check : Byte),
    s.flc.phase = some .receiving → s.flc.slot = some k → s.flc.call = some call →
    s.flc.answer = [node, code, hi, lo, flags] →
    ∃ p, exec (.answerCharacter true check) s = .next { s with
        flc := { s.flc with
          answer := [node, code, hi, lo, flags, check], phase := some .guard,
          provisional := some p }
        bli := s.bli.arbitrate
        schedule := s.schedule.tail }
      ∧ (node + code + hi + lo + flags + check ≠ 0xFF#8 → p = .garbled)
      ∧ (node + code + hi + lo + flags + check = 0xFF#8 →
          ((s.tbu.active.slots.get k).node ≠ some node.toNat → p = .wrongNode)
          ∧ ((s.tbu.active.slots.get k).node = some node.toNat →
            (∀ q, (s.tbu.active.slots.get k).sensorQuantity = some q → call = .poll →
              (code.toNat / 8 = 4 → p = .good (.sample
                (if q = .temp ∨ q = .outdoor then (hi ++ lo).toInt else (hi ++ lo).toNat)
                (flags.getLsbD 0) (flags.getLsbD 1) (flags.getLsbD 2)))
              ∧ (code.toNat / 8 ≠ 4 → p = .garbled))
            ∧ ((s.tbu.active.slots.get k).sensorQuantity = none →
              (code.toNat / 8 = 7 → p = .good .notReady)
              ∧ (call = .poll → code.toNat / 8 = 5 →
                  p = .good (.status (hi ++ lo).toNat (flags.getLsbD 0)))
              ∧ (call ≠ .poll → code.toNat / 8 = 6 →
                  p = .good (.echo (code.extractLsb' 0 3) (hi ++ lo).toNat (flags.getLsbD 0)))
              ∧ (code.toNat / 8 ≠ 7 → (call = .poll → code.toNat / 8 ≠ 5) →
                  (call ≠ .poll → code.toNat / 8 ≠ 6) → p = .garbled))))

/-- R19: the first activity in a SILENT slot posts FIELD_NOISE with the slot as subject; more activity
in the same slot posts nothing. -/
def Obligations.FieldNoisePostsOncePerSlot : Prop :=
  ∀ (s : State) (k : Fin 48), s.flc.phase = some .silent → s.flc.slot = some k →
    (s.flc.noise = false → ∃ t, exec .fieldNoise s = .next t
      ∧ t = { s with
          flc := { s.flc with noise := true }, bli := t.bli, schedule := s.schedule.tail }
      ∧ (s.order.eager = false → t.bli = { s.bli with
          board := boardPost s.tbu.active.bus.mask (.fieldNoise k) s.bli.board }.arbitrate))
    ∧ (s.flc.noise = true → exec .fieldNoise s = .next s)

/-- R20: at a slot's end its outcome is written into its entry of the slot results, and the next slot
begins or, after slot N − 1, the cycle closes. R8, R10 to R12, R203: the next slot, after the
hand-over, is SILENT if UNUSED, polls a sensor, and makes the call that the Command Gate decides for an
actuator, with FL_DE asserted and the call's characters on FL_TXD, or is SILENT where it decides none.
That FL_TXD is recessive in a SILENT slot is the model's: DESIGN CHOICE (assumption log 23). R158 to
R160: at the close the REPORT of the cycle stands, with one entry for each slot that has a standing, in ascending slot order, each with the
slot's outcome, its acceptance and standing, and the value of a GOOD sample; the standings are
emptied. -/
def Obligations.SlotEndRecordsAndGoesOn : Prop :=
  ∀ (s : State) (k : Fin 48) (o : SlotOutcome), s.flc.Ends k o →
    ∃ t, exec .slotEnd s = .next t
      ∧ t.flc.results =
          s.flc.results.map (fun r => if r.slot = k then { r with outcome := some o } else r)
      ∧ t.flc.cycle = s.flc.cycle ∧ t.flc.timer = s.flc.timer
      ∧ t.flc.slotCount = s.flc.slotCount
      ∧ (∀ k' : Fin 48, k'.val = k.val + 1 → ¬ s.flc.Last k →
          let s1 := recordAndHandOver k o s
          let slot := s.tbu.active.slots.get k'
          t.flc.state = .slot ∧ t.flc.slot = some k' ∧ t.flc.answer = []
          ∧ t.flc.provisional = none
          ∧ (slot.isUsed = false → t.flc.call = none ∧ t.cgu = s1.cgu)
          ∧ (slot.isSensor = true → t.flc.call = some .poll ∧ t.cgu = s1.cgu)
          ∧ (slot.isActuator = true →
            t.flc.call = (callDecision k' s1).2 ∧ t.cgu = (callDecision k' s1).1.cgu)
          ∧ (t.flc.call = none → t.flc.phase = some .silent ∧ t.flc.driverEnable = false
              ∧ t.flc.txd = .recessive)
          ∧ ∀ c, t.flc.call = some c → t.flc.phase = some .calling ∧ t.flc.driverEnable = true
              ∧ t.flc.SendsCall (num slot.node) k' c)
      ∧ (s.flc.Last k → t.flc.state = .closed ∧ t.flc.slot = none ∧ t.flc.phase = none
          ∧ t.flc.driverEnable = false)
      ∧ t.pins = s.pins ∧ t.mrh = s.mrh ∧ t.store = s.store
      ∧ (s.flc.Last k →
          let standings := (recordAndHandOver k o s).bli.standings
          t.bli.standings = []
          ∧ ∃ report : Report, t.Reports report ∧ report.cycle = s.flc.cycle
            ∧ (report.entries.map fun e => e.slot.val).Pairwise (· < ·)
            ∧ (∀ x ∈ standings, ∃ e ∈ report.entries, e.slot = x.slot)
            ∧ ∀ e ∈ report.entries,
              (∃ x ∈ standings, x.slot = e.slot ∧ e.acceptance = x.acceptance
                ∧ e.standing = x.standing)
              ∧ (∀ x ∈ t.flc.results, x.slot = e.slot →
                  (∀ y ∈ t.flc.results, y.slot = e.slot → y = x) → e.outcome = x.outcome)
              ∧ e.value = (match e.outcome with
                | some (.good (.sample v _ _ _)) => some v
                | _ => none))

/-! ## Samples and conditions -/

/-- R54, R55, R58: a sensor slot that ends without an accepted sample, inside the cycle, leaves the
Condition Monitor, the accounts, the zones and the trackers as they were, and gives the BLI a
standing: its acceptance is REFUSED with the first reason of FAULT, WARMING and RANGE, or absent where
the outcome is not GOOD; its standing is the record's class, the band, or OCCUPIED. -/
def Obligations.NoAcceptedSampleLeavesRecords : Prop :=
  ∀ (s : State) (k : Fin 48) (o : SlotOutcome) (q : Quantity), s.flc.Ends k o → ¬ s.flc.Last k →
    k.val < 47 → (s.tbu.active.slots.get k).sensorQuantity = some q →
    (∀ v calDue, o = .good (.sample v false false calDue) → q.accepts v = false) →
    ∃ t, exec .slotEnd s = .next t
      ∧ t.cmu = s.cmu ∧ t.dau = s.dau ∧ t.zcu = s.zcu ∧ t.xsu = s.xsu ∧ t.tbu = s.tbu
      ∧ t.nvs = s.nvs
      ∧ ∃ a x, a ≠ some .accepted ∧ t.bli.standings = s.bli.standings ++ [⟨k, a, x⟩]
        ∧ (∀ v fault warming calDue, o = .good (.sample v fault warming calDue) →
          a = some (.refused (if fault = true then .fault else if warming = true then .warming
            else .range)))
        ∧ ((∀ answer, o ≠ .good answer) → a = none)
        ∧ (∀ c : CondQ, q = c.quantity → x = .cls ((s.cmu.sensors.get k).bind (·.cls)))
        ∧ (q = .outdoor → x = .band s.cmu.band) ∧ (q = .presence → x = .presence false)

/-- R55, R56: an accepted sample makes its record LIVE with missed 0, the sample's value and CAL_DUE
flag, and got this cycle yes. Every other sensor record is as before. R57, R59 to R62: the class of a
condition sample, against the limits of the slot's zone, moves the record's class and candidate by
two-sample agreement, and a sample without a class leaves them; R67 to R69: the zone's entry then
follows its records. R81: a LUX sample is a candidate for its account's cycle peak. R109: a VACANT
PRESENCE sample sets the slot's flag alone; an OCCUPIED one makes its zone OCCUPIED with count 0, and
lights it if that is a change. R63: an OUTDOOR sample moves the outdoor reference band by two-sample
agreement, as the whole part of (T + 300) / 20, held to 0 to 34. R58: the BLI is given a standing,
ACCEPTED, with the record's class, the band, or the sample's VACANT or OCCUPIED, as they then stand. -/
def Obligations.AcceptedSampleUpdatesRecord : Prop :=
  ∀ (s : State) (k : Fin 48) (v : Int) (calDue : Bool) (q : Quantity) (r : SensorRecord),
    s.flc.Ends k (.good (.sample v false false calDue)) → ¬ s.flc.Last k → k.val < 47 →
    (s.tbu.active.slots.get k).sensorQuantity = some q → q.accepts v = true →
    s.cmu.sensors.get k = some r →
    let tables := s.tbu.active
    let slot := tables.slots.get k
    ∃ t r', exec .slotEnd s = .next t
      ∧ t.cmu.sensors.get k = some r'
      ∧ r'.health = .live ∧ r'.missed = 0 ∧ r'.value = some v ∧ r'.calDue = calDue
      ∧ r'.got = true ∧ r'.node = r.node ∧ r'.quantity = r.quantity
      ∧ (∀ j, j ≠ k → t.cmu.sensors.get j = s.cmu.sensors.get j)
      ∧ (∀ (c : CondQ) (z : Fin 16), q = c.quantity → slot.zoneIndex = some z →
          let cls := sampleClass tables s.cmu.band (tables.zoneRec z) c v
          (cls = none → r'.cls = r.cls ∧ r'.candidate = r.candidate)
          ∧ (∀ x, cls = some x → (r'.cls, r'.candidate) = agree r.cls r.candidate x)
          ∧ t.cmu.band = s.cmu.band
          ∧ (tables.zoneEnabled z = true → t.cmu.EntryFollows tables z c (s.cmu.cond z c)))
      ∧ (∀ (a : Fin 64) (z : Fin 16), slot.accountIndex = some a → slot.zoneIndex = some z →
          (s.dau.accounts.get a).state ≠ .idle →
          (t.dau.accounts.get a).peak = some (match (s.dau.accounts.get a).peak with
            | some p => max p v.toNat
            | none => v.toNat))
      ∧ (∀ z : Fin 16, q = .presence → slot.zoneIndex = some z →
          let old := s.zcu.zones.get z
          let new := t.zcu.zones.get z
          (v = 0 → t.zcu.zones = s.zcu.zones ∧ t.zcu.vacantSeen.get k = true
            ∧ ∀ j, j ≠ k → t.zcu.vacantSeen.get j = s.zcu.vacantSeen.get j)
          ∧ (v = 1 → t.zcu.vacantSeen = s.zcu.vacantSeen
            ∧ new.presence = .occupied ∧ new.count = 0 ∧ new.hold = old.hold
            ∧ (∀ y, y ≠ z → t.zcu.zones.get y = s.zcu.zones.get y)
            ∧ (old.presence = .occupied → old.count = 0 → new = old)
            ∧ (old.presence ≠ .occupied ∨ old.count ≠ 0 → tables.zoneEnabled z = true →
              (doseRest tables s.dau z = false →
                new.ceiling = some (num (tables.zoneRec z).luxCeiling) ∧ new.reason = some .table)
              ∧ (doseRest tables s.dau z = true →
                new.ceiling = some (num (tables.zoneRec z).restLevel)
                  ∧ new.reason = some .restDose))))
      ∧ (∀ b : Fin 35, q = .outdoor → (b.val : Int) = max 0 (min 34 ((v + 300) / 20)) →
          (t.cmu.band, r'.bandCandidate) = agree s.cmu.band r.bandCandidate b)
      ∧ ∃ x, t.bli.standings = s.bli.standings ++ [⟨k, some .accepted, x⟩]
        ∧ (∀ c : CondQ, q = c.quantity → x = .cls r'.cls)
        ∧ (q = .outdoor → x = .band t.cmu.band)
        ∧ (q = .presence → x = .presence (decide (v = 0)))

/-- R59, R60, R61: the class of a sample, against the limits of the zone's record as they stand, with
the limits in strict order; no class for RH in a CURVE zone while the outdoor reference band is
UNKNOWN. -/
def Obligations.SampleClassFollowsLimits : Prop :=
  ∀ (t : Tables) (band : Option (Fin 35)) (z : ZoneRec) (v : Int),
    (∀ a w x b : Int, a < w → w < x → x < b →
      (classifyFour v a w x b = .alarmLo ↔ v ≤ a)
      ∧ (classifyFour v a w x b = .warnLo ↔ a < v ∧ v < w)
      ∧ (classifyFour v a w x b = .normal ↔ w ≤ v ∧ v ≤ x)
      ∧ (classifyFour v a w x b = .warnHi ↔ x < v ∧ v < b)
      ∧ (classifyFour v a w x b = .alarmHi ↔ b ≤ v))
    ∧ (∀ al wl wh ah : Int, z.tempAlarmLo = some al → z.tempWarnLo = some wl →
        z.tempWarnHi = some wh → z.tempAlarmHi = some ah →
        sampleClass t band z .temp v = some (classifyFour v al wl wh ah))
    ∧ (∀ al wl wh ah : Nat, z.rhMode = some 0 → z.rhAlarmLo = some al → z.rhWarnLo = some wl →
        z.rhWarnHi = some wh → z.rhAlarmHi = some ah →
        sampleClass t band z .rh v = some (classifyFour v al wl wh ah))
    ∧ (∀ (b : Fin 35) (c w a : Nat), z.rhMode = some 1 → t.drift.get b = some c →
        z.rhWarnHalf = some w → z.rhAlarmHalf = some a →
        sampleClass t (some b) z .rh v
          = some (classifyFour v ((c : Int) - a) ((c : Int) - w) ((c : Int) + w) ((c : Int) + a)))
    ∧ (z.rhMode = some 1 → sampleClass t none z .rh v = none)
    ∧ (∀ w a : Nat, z.luxWarnHi = some w → z.luxAlarmHi = some a → w < a →
        (sampleClass t band z .lux v = some .normal ↔ v ≤ w)
        ∧ (sampleClass t band z .lux v = some .warnHi ↔ w < v ∧ v < a)
        ∧ (sampleClass t band z .lux v = some .alarmHi ↔ a ≤ v))
    ∧ (∀ w a : Nat, z.uvWarnHi = some w → z.uvAlarmHi = some a → w < a →
        (sampleClass t band z .uv v = some .normal ↔ v ≤ w)
        ∧ (sampleClass t band z .uv v = some .warnHi ↔ w < v ∧ v < a)
        ∧ (sampleClass t band z .uv v = some .alarmHi ↔ a ≤ v))

/-- R62, R63: a standing, a class or an outdoor reference band, moves only when two samples agree,
with none of the old standing or of a third between them; the first sample sets an absent standing. -/
def Obligations.TwoSamplesMoveAStanding : Prop :=
  ∀ (α : Type) [DecidableEq α] (x y z : α) (c : Option α),
    agree none c x = (some x, none)
    ∧ agree (some x) c x = (some x, none)
    ∧ (x ≠ y → agree (some x) none y = (some x, some y))
    ∧ (x ≠ y → y ≠ z → agree (some x) (some z) y = (some x, some y))
    ∧ (x ≠ y → agree (some x) (some y) y = (some y, none))

/-- R185: a report that a LIVE zone has left NORMAL opens a CLOSED tracker with the worse side as its
peak, and any other report leaves it; a BLIND or NONE report discards an OPEN one; a NORMAL report
closes it; any other keeps it OPEN, its peak ALARM once a side is ALARM. R187, R188: an excursion that
closes is selected by the enable and its zone's bit of the mask; selected, it is counted once in the
bin of its duration (a count into a full bin is lost and sets the saturated flag) and posted where
its bin is in the combine mask; otherwise nothing is counted or posted. R186: at a cycle close that
swaps nothing an OPEN tracker of an enabled zone is one cycle longer, up to 65535, before a report of
that close reaches it. -/
def Obligations.TrackerFollowsReports : Prop :=
  (∀ (s : State) (z : Fin 16) (q : CondQ) (e : ZoneCond),
    let x := s.xsu.tracker z q
    let t := changeReport z q e s
    let y := t.xsu.tracker z q
    let bin := binOf x.duration
    (x.state = .closed → e.coverage = .live → (e.low ≠ .normal ∨ e.high ≠ .normal) →
      y = ⟨.open_, 0, some (if e.low = .alarm ∨ e.high = .alarm then .alarm else .warn), none⟩
        ∧ t.xsu.histograms = s.xsu.histograms)
    ∧ (x.state = .closed →
        (e.coverage ≠ .live ∨ (e.low = .normal ∧ e.high = .normal)) → t = s)
    ∧ (x.state = .open_ → e.coverage ≠ .live →
      y = { x with state := .closed, ending := some .discarded }
        ∧ t.xsu.histograms = s.xsu.histograms ∧ t.bli = s.bli)
    ∧ (x.state = .open_ → e.coverage = .live → (e.low ≠ .normal ∨ e.high ≠ .normal) →
      y = { x with peak := if e.low = .alarm ∨ e.high = .alarm then some .alarm else x.peak }
        ∧ t.xsu.histograms = s.xsu.histograms ∧ t.bli = s.bli)
    ∧ (x.state = .open_ → e.coverage = .live → e.low = .normal → e.high = .normal →
      (s.xsu.enable = true → s.xsu.zoneMask.getLsbD z.val = true →
        y = { x with state := .closed, ending := some .counted }
        ∧ (let before := (s.xsu.histograms.get q).get bin
          (t.xsu.histograms.get q).get bin
            = if before.count < 2 ^ 32 - 1 then { before with count := before.count + 1 }
              else { before with saturated := true })
        ∧ (∀ (q' : CondQ) (b : Fin 8), (q', b) ≠ (q, bin) →
          (t.xsu.histograms.get q').get b = (s.xsu.histograms.get q').get b)
        ∧ ((s.xsu.combine.get q).getLsbD bin.val = false → t.bli = s.bli)
        ∧ ((s.xsu.combine.get q).getLsbD bin.val = true →
          (Notice.excursion q z bin x.peak).enabledBy s.tbu.active.bus.mask = true →
          keyedCount s.bli.board < 63 → t.Announces (.excursion q z bin x.peak)))
      ∧ ((s.xsu.enable = false ∨ s.xsu.zoneMask.getLsbD z.val = false) →
        y = { x with state := .closed, ending := some .notSelected }
        ∧ t.xsu.histograms = s.xsu.histograms ∧ t.bli = s.bli))
    ∧ (∀ z' q', (z', q') ≠ (z, q) → t.xsu.tracker z' q' = s.xsu.tracker z' q'))
  ∧ (∀ n : Nat,
    (binOf n = 0 ↔ n ≤ 1) ∧ (binOf n = 1 ↔ 2 ≤ n ∧ n ≤ 3) ∧ (binOf n = 2 ↔ 4 ≤ n ∧ n ≤ 7)
    ∧ (binOf n = 3 ↔ 8 ≤ n ∧ n ≤ 15) ∧ (binOf n = 4 ↔ 16 ≤ n ∧ n ≤ 31)
    ∧ (binOf n = 5 ↔ 32 ≤ n ∧ n ≤ 63) ∧ (binOf n = 6 ↔ 64 ≤ n ∧ n ≤ 127)
    ∧ (binOf n = 7 ↔ 128 ≤ n))
  ∧ ∀ (s : State) (k : Fin 48) (o : SlotOutcome), s.flc.Ends k o → s.flc.Last k →
    s.swapDue = false →
    ∃ t, exec .slotEnd s = .next t ∧ ∀ (z : Fin 16) (q : CondQ),
      let s1 := recordAndHandOver k o s
      let x := s1.xsu.tracker z q
      let longer : Tracker :=
        if x.state = .open_ then { x with duration := min (x.duration + 1) 65535 } else x
      let raised : State := { s1 with xsu := s1.xsu.setTracker z q longer }
      (s.tbu.active.zoneEnabled z = true → t.xsu.tracker z q
        = if t.cmu.cond z q = s1.cmu.cond z q then longer
          else (changeReport z q (t.cmu.cond z q) raised).xsu.tracker z q)
      ∧ (s.tbu.active.zoneEnabled z = false → t.xsu.tracker z q = x)

/-- R65: a record that reaches S cycles without an accepted sample becomes STALE at the cycle close,
keeping its class and candidate, and every entry of an enabled zone then follows its records (R67 to
R69; a close at which no swap is due). That the row SENSOR_STALE takes the whole slot end is the
model's choice: DESIGN CHOICE (assumption log 3). That coverage is NONE without a slot also for RH of a
CURVE zone while the band is UNKNOWN is DEDUCED (assumption log 13). -/
def Obligations.SilentSensorGoesStale : Prop :=
  ∀ (s : State) (k slot : Fin 48) (o : SlotOutcome) (r : SensorRecord),
    s.flc.Ends k o → s.flc.Last k → s.swapDue = false →
    (s.tbu.active.slots.get slot).isSensor = true →
    (recordAndHandOver k o s).cmu.sensors.get slot = some r →
    r.got = false → r.health ≠ .stale → num s.tbu.active.bus.staleLimit ≤ r.missed + 1 →
    ∃ t, exec (.sensorStale slot) s = .next t
      ∧ t.flc.state = .closed
      ∧ t.cmu.sensors.get slot = some { r with
          health := .stale, missed := num s.tbu.active.bus.staleLimit, got := false }
      ∧ ∀ (z : Fin 16) (q : CondQ), s.tbu.active.zoneEnabled z = true →
          t.cmu.EntryFollows s.tbu.active z q ((recordAndHandOver k o s).cmu.cond z q)

/-! ## Dose accounts at a cycle close -/

/-- R82, R83: at a cycle close each enabled account that is not SUSPENDED adds cycle value × C to both
counts, saturating; the cycle value is its cycle peak, else its zone's table lux ceiling when every
LUX slot that names it is dark, else its last value (a close at which no swap is due). -/
def Obligations.CycleCloseAccruesDose : Prop :=
  ∀ (s : State) (k : Fin 48) (o : SlotOutcome) (a : Fin 64) (value : Nat),
    s.flc.Ends k o → s.flc.Last k → s.swapDue = false → s.tbu.active.accountEnabled a = true →
    let s1 := recordAndHandOver k o s
    let r := s1.dau.accounts.get a
    let dark := ∀ j, (s.tbu.active.slots.get j).accountIndex = some a →
      ∀ x, s1.cmu.sensors.get j = some x → x.health ≠ .live
    r.state ≠ .suspended →
    (r.peak = some value
      ∨ (r.peak = none ∧ dark
          ∧ ∃ z, (s.tbu.active.accounts.get a).zoneIndex = some z
            ∧ value = num (s.tbu.active.zoneRec z).luxCeiling)
      ∨ (r.peak = none ∧ ¬ dark ∧ value = r.last)) →
    ∃ t, exec .slotEnd s = .next t
      ∧ (t.dau.accounts.get a).usedToday
          = min (r.usedToday + value * num s.tbu.active.bus.cycleInterval) (2 ^ 48 - 1)
      ∧ (t.dau.accounts.get a).usedYear
          = min (r.usedYear + value * num s.tbu.active.bus.cycleInterval) (2 ^ 48 - 1)
      ∧ (t.dau.accounts.get a).peak = none
      ∧ (t.dau.accounts.get a).revision = r.revision
      ∧ (t.dau.accounts.get a).extension = r.extension

/-- R91, R100, R105: the close that brings the date watch to 93,600 s sets date stale, and the step
that does so posts CLOCK STALE; the close that brings the checkpoint counter to its interval sets the
counter to 0 and marks every enabled account, so that unless the store is FAILED each is pending or
being written. A swap at the close changes neither. That the rows DATE_WATCH_EXPIRY and CHECKPOINT
take the whole slot end is the model's choice: DESIGN CHOICE (assumption log 3). -/
def Obligations.WatchAndCheckpointFallAtClose : Prop :=
  ∀ (s : State) (k : Fin 48) (o : SlotOutcome), s.flc.Ends k o → s.flc.Last k →
    (s.dau.dateStale = false →
      93600 ≤ s.dau.dateWatch + num s.tbu.active.bus.cycleInterval →
      (∃ t, exec .dateWatchExpiry s = .next t ∧ t.flc.state = .closed
        ∧ t.dau.dateStale = true ∧ t.dau.dateWatch = 93600 ∧ t.dau.ledger = s.dau.ledger)
      ∧ ∀ u : State, u.dau.dateStale = false → u.dau.dateWatch = s.dau.dateWatch →
        watchClose s.tbu.active u
          = post (.clock .stale) { u with
              dau := { u.dau with dateWatch := 93600, dateStale := true } })
    ∧ (num s.tbu.active.bus.checkpoint
        ≤ s.dau.checkpointCounter + num s.tbu.active.bus.cycleInterval →
      ∃ t, exec .checkpoint s = .next t ∧ t.flc.state = .closed
        ∧ t.dau.checkpointCounter = 0 ∧ t.dau.ledger = s.dau.ledger
        ∧ (s.nvs.state ≠ .failed → ∀ a, s.tbu.active.accountEnabled a = true →
            t.nvs.pendingAccounts.get a = true ∨ ∃ c, t.nvs.write = some (.record a c)))

/-! ## Presence and holds at a cycle close -/

/-- R110, R111, R114: the close at which a zone's votes bring its count to the vacancy hold makes it
VACANT; the close that counts a hold down to 0 makes it absent (a close at which no swap is due). That
the rows VACANCY_HOLD_REACHED and HOLD_EXPIRY take the whole slot end is the model's choice: DESIGN
CHOICE (assumption log 3). -/
def Obligations.VacancyAndHoldEndAtClose : Prop :=
  ∀ (s : State) (k : Fin 48) (o : SlotOutcome) (z : Fin 16),
    s.flc.Ends k o → s.flc.Last k → s.swapDue = false → s.tbu.active.zoneEnabled z = true →
    let s1 := recordAndHandOver k o s
    let r := s1.zcu.zones.get z
    (r.presence ≠ .vacant → s.tbu.active.presenceSlots z ≠ [] →
      (∀ j ∈ s.tbu.active.presenceSlots z, s1.zcu.vacantSeen.get j = true) →
      num (s.tbu.active.zoneRec z).vacancyHold ≤ min (r.count + 1) 255 →
      ∃ t, exec (.vacancyHoldReached z) s = .next t ∧ t.flc.state = .closed
        ∧ (t.zcu.zones.get z).presence = .vacant
        ∧ (t.zcu.zones.get z).count = min (r.count + 1) 255
        ∧ ∀ j, t.zcu.vacantSeen.get j = false)
    ∧ (∀ h, r.hold = some h → h ≤ num s.tbu.active.bus.cycleInterval →
      ∃ t, exec (.holdExpiry z) s = .next t ∧ t.flc.state = .closed
        ∧ (t.zcu.zones.get z).hold = none)

/-! ## Swap -/

/-- R44, R47: at the close of the swap cycle the active copy takes the staged copy, which is kept; the
commit state becomes STORING, or IDLE where the store is FAILED. R75 to R77, R104, R105, R119, R120,
R144, R146, R191: every block then does its own swap work, on the state that the close work of cycle n
has left (R45: missed counts and holds moved with the tables of cycle n; actuators, monitors, ledger
date and the settings of the statistics as the last hand-over left them): sensor records, band, zone
entries (R67 to R69) and ALERT, accounts, monitors, presence records, ceilings (R115), actuators and
trackers (R185). That coverage is NONE without a slot also for RH of a CURVE zone while the band is
UNKNOWN is DEDUCED (assumption log 13). -/
def Obligations.SwapMakesStagedActive : Prop :=
  ∀ (s : State) (k : Fin 48) (o : SlotOutcome), s.flc.Ends k o → s.flc.Last k →
    s.tbu.commit = .pendingSwap → s.tbu.swapCycle = some s.flc.cycle →
    let s1 := recordAndHandOver k o s
    let u := closeWorkDone s1
    ∃ t, exec .slotEnd s = .next t
      ∧ t.tbu.active = s.tbu.staged ∧ t.tbu.staged = s.tbu.staged ∧ t.tbu.swapCycle = none
      ∧ t.tbu.commit = (if s.nvs.state = .failed then .idle else .storing)
      ∧ t.flc.state = .closed ∧ t.mrh = s.mrh ∧ t.store = s.store
      ∧ u.cgu = s1.cgu ∧ u.dau.monitors = s1.dau.monitors ∧ u.cmu.band = s1.cmu.band
      ∧ u.dau.ledger = s1.dau.ledger ∧ u.xsu.enable = s1.xsu.enable
      ∧ u.xsu.zoneMask = s1.xsu.zoneMask ∧ u.xsu.combine = s1.xsu.combine
      ∧ (∀ a, (u.dau.accounts.get a).revision = (s1.dau.accounts.get a).revision
          ∧ (u.dau.accounts.get a).extension = (s1.dau.accounts.get a).extension)
      ∧ (∀ j, (s.tbu.active.slots.get j).isSensor = true → u.cmu.sensors.get j
          = (s1.cmu.sensors.get j).map (·.afterClose (num s.tbu.active.bus.staleLimit)))
      ∧ (∀ z, s.tbu.active.zoneEnabled z = true → (u.zcu.zones.get z).hold
          = (s1.zcu.zones.get z).hold.bind fun h =>
              if h ≤ num s.tbu.active.bus.cycleInterval then none
              else some (h - num s.tbu.active.bus.cycleInterval))
      ∧ SwapWorkDone s.tbu.active s.tbu.staged u t

/-! ## Command Gate -/

/-- R124, R125, R131, R132: no SET that the Command Gate calls passes the zone's limits: a luminaire's
value is never above the ceiling, a slewed setpoint never moves by more than its step limit from the
delivered value, and the shade of a shade-forced zone is sent 100. -/
def Obligations.GateHoldsLimitsAtEveryCall : Prop :=
  ∀ (s : State) (k : Fin 48) (r : ActuatorRecord) (v : Int) (tag : BitVec 3),
    s.cgu.actuators.get k = some r → (callDecision k s).2 = some (.set v tag) →
    (r.kind = .luminaire → ∃ c, (s.zcu.zones.get r.zone).ceiling = some c ∧ v ≤ c)
    ∧ (r.kind.slewed = true → ∃ d, r.delivered = some d
        ∧ (v - d).natAbs ≤ stepLimit (s.tbu.active.zoneRec r.zone) r.kind)
    ∧ (r.kind = .shade → shadeForced s.tbu.active s.cmu r.zone = true → v = 100)

/-- R131, R133: the call decision of a record whose settle check finds nothing settled, by the first
step that applies; a command placed in flight draws the record's next tag, which then rises by 1,
wrapping from 7 to 0. R125: a fresh SET of a slewed kind carries the delivered value moved toward the
effective target by at most the zone's step limit, of another kind the effective target itself. R132:
an in-flight SET is sent again while its value passes the test of its kind; else it is cleared, and a
fresh SET is made or the decision goes on from step 3. -/
def Obligations.CallDecisionFollowsItsSteps : Prop :=
  ∀ (s : State) (k : Fin 48) (r : ActuatorRecord), s.cgu.actuators.get k = some r →
    settledSet s r = none →
    let decided := fun (r' : ActuatorRecord) (call : Option Call) =>
      (callDecision k s).2 = call ∧ (callDecision k s).1.cgu.actuators.get k = some r'
        ∧ ∀ j, j ≠ k → (callDecision k s).1.cgu.actuators.get j = s.cgu.actuators.get j
    let keepAlive := if num s.tbu.active.bus.keepAlive ≤ r.sinceCall then some Call.poll else none
    let zone := s.tbu.active.zoneRec r.zone
    let limit : Int := num (if r.kind = .humidifier then zone.rhStep else zone.tempStep)
    let stepped := fun d e : Int =>
      if r.kind = .humidifier ∨ r.kind = .climate then
        (if e < d - limit then d - limit else if d + limit < e then d + limit else e)
      else e
    let sends := fun d e : Int => decided
      { r with
        inFlight := some ⟨r.nextTag, .set (stepped d e) r.latestSet⟩, nextTag := r.nextTag + 1#3 }
      (some (.set (stepped d e) r.nextTag))
    let calls := fun (a : QueuedAction) (rest : List QueuedAction) => decided
      { r with
        queue := rest, inFlight := some ⟨r.nextTag, .action a.code a.id⟩,
        nextTag := r.nextTag + 1#3 }
      (some (.action a.code r.nextTag))
    (r.link = .lost → decided r keepAlive)
    ∧ (r.link ≠ .lost →
      (∀ tag code id, r.inFlight = some ⟨tag, .action code id⟩ →
        decided r (some (.action code tag)))
      ∧ (∀ tag v id, r.inFlight = some ⟨tag, .set v id⟩ → admissible s r v = true →
        decided r (some (.set v tag)))
      ∧ (∀ tag v id, r.inFlight = some ⟨tag, .set v id⟩ → admissible s r v = false →
        (∀ d e, r.delivered = some d → effectiveTarget s r = some e → d ≠ e → sends d e)
        ∧ ((∀ d e, r.delivered = some d → effectiveTarget s r = some e → d = e) →
          (∀ a rest, r.queue = a :: rest → calls a rest)
          ∧ (r.queue = [] → r.delivered = none →
              decided { r with inFlight := none } (some .poll))
          ∧ (r.queue = [] → r.delivered ≠ none → decided { r with inFlight := none } keepAlive)))
      ∧ (r.inFlight = none →
        (∀ a rest, r.queue = a :: rest → calls a rest)
        ∧ (r.queue = [] → r.delivered = none → decided r (some .poll))
        ∧ (∀ d e, r.queue = [] → r.delivered = some d → effectiveTarget s r = some e → d ≠ e →
          sends d e)
        ∧ (∀ d, r.queue = [] → r.delivered = some d →
          (effectiveTarget s r = none ∨ effectiveTarget s r = some d) → decided r keepAlive)))
    ∧ ∀ v : Int,
      (r.kind = .luminaire → (admissible s r v = true ↔
        ∃ c, (s.zcu.zones.get r.zone).ceiling = some c ∧ v ≤ c))
      ∧ (r.kind = .shade → (admissible s r v = true ↔ effectiveTarget s r = some v))
      ∧ (r.kind = .humidifier ∨ r.kind = .climate → (admissible s r v = true ↔
        ∃ d e, r.delivered = some d ∧ effectiveTarget s r = some e
          ∧ min d e ≤ v ∧ v ≤ max d e ∧ d - limit ≤ v ∧ v ≤ d + limit))

/-- R134 to R137, R139, R140, at a slot end at which no swap is due. An ECHO with the in-flight tag
completes the in-flight SET: the delivered value is the applied value, the record is ONLINE with no
miss, and an applied value other than the one sent ends the request, with FAILED posted for an owed
id; an ECHO with another tag is a miss, and the SET stays in flight. An ECHO completes an in-flight
ACTION in the same way, for any applied value, and its outcome DONE is posted. A usable STATUS sets the
delivered value alone. Where the settle check that follows finds the owed SET settled, its id is no
longer owed, and DONE is posted with it (R130). Nothing else of the record changes. -/
def Obligations.EchoEndsTheInFlightSet : Prop :=
  ∀ (s : State) (k : Fin 48) (r : ActuatorRecord),
    s.swapDue = false → (s.tbu.active.slots.get k).isActuator = true →
    s.cgu.actuators.get k = some r →
    let settled := fun r1 : ActuatorRecord =>
      { r1 with latestSet := if settledSet s r1 = none then r.latestSet else none }
    let announces := fun (t : State) (node : Nat) (id : Half) (x : CommandOutcome) (room : Nat) =>
      ¬ s.flc.Last k → k.val < 47 →
      (Notice.commandOutcome node id x).enabledBy s.tbu.active.bus.mask = true →
      keyedCount s.bli.board < room →
      (∀ j y, s.cgu.actuators.get j = some y → y.node = node → j = k) →
      t.Announces (.commandOutcome node id x)
    (∀ (tag sent : BitVec 3) (v w : Int) (fault : Bool) (id : Option Half),
      s.flc.Ends k (.good (.echo tag v fault)) →
      r.inFlight = some ⟨sent, .set w id⟩ → r.kind.accepts v = true →
      let r1 : ActuatorRecord := { r with
        delivered := some v, inFlight := none, link := .online, miss := 0, sinceCall := 0 }
      ∃ t r', exec .slotEnd s = .next t ∧ t.cgu.actuators.get k = some r'
        ∧ (tag = sent → v = w → r' = settled r1
            ∧ ∀ x, settledSet s r1 = some x → announces t r.node x .done 61)
        ∧ (tag = sent → v ≠ w → r' = { r1 with target := none, latestSet := none }
            ∧ ∀ x, r.latestSet = some x → announces t r.node x .failed 63)
        ∧ (tag ≠ sent → r.link ≠ .lost → r.miss + 1 < num s.tbu.active.bus.missLimit →
            r' = { r with miss := r.miss + 1, link := .suspect, sinceCall := 0 }))
    ∧ (∀ (tag : BitVec 3) (v : Int) (fault : Bool) (code : ActionCode) (id : Half),
      s.flc.Ends k (.good (.echo tag v fault)) →
      r.inFlight = some ⟨tag, .action code id⟩ → r.kind.accepts v = true →
      let r1 : ActuatorRecord := { r with
        delivered := some v, inFlight := none, link := .online, miss := 0, sinceCall := 0 }
      ∃ t, exec .slotEnd s = .next t ∧ t.cgu.actuators.get k = some (settled r1)
        ∧ (settledSet s r1 = none → announces t r.node id .done 63)
        ∧ ∀ x, settledSet s r1 = some x → announces t r.node x .done 61)
    ∧ (∀ (v : Int) (fault : Bool), s.flc.Ends k (.good (.status v fault)) →
      r.kind.accepts v = true →
      let r1 : ActuatorRecord := { r with
        delivered := some v, link := .online, miss := 0, sinceCall := 0 }
      ∃ t, exec .slotEnd s = .next t ∧ t.cgu.actuators.get k = some (settled r1)
        ∧ ∀ x, settledSet s r1 = some x → announces t r.node x .done 61)

/-- R139 to R141: the miss that takes an actuator to M misses makes it LOST: its in-flight entry and
queue are emptied, and its target and owed SET are kept (a slot end at which no swap is due). That the
row ACTUATOR_LOST takes the whole slot end is the model's choice: DESIGN CHOICE (assumption log 3). -/
def Obligations.MissLimitLosesActuator : Prop :=
  ∀ (s : State) (k : Fin 48) (o : SlotOutcome) (r : ActuatorRecord),
    s.flc.Ends k o → s.swapDue = false → (s.tbu.active.slots.get k).isActuator = true →
    s.cgu.actuators.get k = some r → r.link ≠ .lost →
    (o = .missing ∨ o = .garbled ∨ o = .wrongNode ∨ o = .overlong) →
    num s.tbu.active.bus.missLimit ≤ r.miss + 1 →
    ∃ t, exec .actuatorLost s = .next t
      ∧ t.cgu.actuators.get k = some { r with
          link := .lost, miss := num s.tbu.active.bus.missLimit, inFlight := none, queue := [],
          sinceCall := 0 }
      ∧ t.cmu.sensors.get k = s.cmu.sensors.get k ∧ t.mrh = s.mrh ∧ t.store = s.store

/-- R126, R176, R177: while the FLC is STOPPED every COMMAND is answered NOT_RUNNING with no effect;
while it cycles, a COMMAND below OPERATE is answered DENIED and recorded, with its node field as the
subject where the body holds one, and one that is neither SET nor ACTION, or not of the COMMAND
length, is answered RANGE with no effect; then by the first that applies, with no effect: UNKNOWN_NODE
where no used slot has the node, NOT_ACTUATOR where no actuator record stands in its slot (it is a
SENSOR slot, R122), RANGE for a SET value outside the kind's range, NO_REFERENCE for a SET to a
humidifier in a CURVE zone without a band; RANGE for an unknown ACTION code, ACTUATOR_LOST, and
QUEUE_FULL for an ACTION that finds 4 queued. That a code above 255 is no action code is read from
R203 and R204: DEDUCED (assumption log 14). The RESULT carries the command id, or 0 where the body is
too short to hold one. -/
def Obligations.CommandsAreJudgedFirst : Prop :=
  ∀ (s : State) (o : Origin), s.TakesAtOnce →
    let notRunning := fun (c : Instr) (id : Half) => s.flc.state = .stopped →
      ∃ t, exec c s = .next t
        ∧ t = { s with pins := s.pinsOf o, bli := t.bli, schedule := t.schedule }
        ∧ t.Answers o.source (.result ⟨id, .notRunning, .nothing⟩)
    let denied := fun (c : Instr) (id : Half) (node : Option (List Byte)) =>
      s.flc.state ≠ .stopped → (s.levelOf o).allows .operate = false →
      ∃ t, exec c s = .next t
        ∧ t = { s with pins := s.pinsOf o, mrh := t.mrh, bli := t.bli, schedule := t.schedule }
        ∧ t.mrh = { s.mrh with fault := match s.mrh.fault with
            | none => some ⟨o.source, .command, node, false⟩
            | some f => some { f with further := true } }
        ∧ t.Answers o.source (.result ⟨id, .denied, .nothing⟩)
    let refused := fun (c : Instr) (id : Half) (status : Status) =>
      ∃ t, exec c s = .next t
        ∧ t = { s with pins := s.pinsOf o, bli := t.bli, schedule := t.schedule }
        ∧ t.Answers o.source (.result ⟨id, status, .nothing⟩)
    (∀ (id value : Half) (node : Byte),
      notRunning (.commandSet o id node value) id
      ∧ notRunning (.commandAction o id node value) id
      ∧ denied (.commandSet o id node value) id (some [node])
      ∧ denied (.commandAction o id node value) id (some [node])
      ∧ (s.flc.state ≠ .stopped → (s.levelOf o).allows .operate = true →
        ((∀ k, (s.tbu.active.slots.get k).isUsed = true →
            (s.tbu.active.slots.get k).node ≠ some node.toNat) →
          refused (.commandSet o id node value) id .unknownNode
          ∧ refused (.commandAction o id node value) id .unknownNode)
        ∧ ∀ k, s.tbu.active.slotOfNode node.toNat = some k →
          (s.cgu.actuators.get k = none →
            refused (.commandSet o id node value) id .notActuator
            ∧ refused (.commandAction o id node value) id .notActuator)
          ∧ ∀ r : ActuatorRecord, s.cgu.actuators.get k = some r →
            let v : Int := if r.kind = .climate then value.toInt else value.toNat
            let low : Int := if r.kind = .climate then 50 else 0
            let high : Int := match r.kind with
              | .luminaire => 2000 | .humidifier => 1000 | .climate => 350 | .shade => 100
            ((v < low ∨ high < v) → refused (.commandSet o id node value) id .range)
            ∧ (low ≤ v → v ≤ high → r.kind = .humidifier →
              (s.tbu.active.zoneRec r.zone).isCurve = true → s.cmu.band = none →
              refused (.commandSet o id node value) id .noReference)
            ∧ ((value.toNat = 0 ∨ 3 < value.toNat) →
              refused (.commandAction o id node value) id .range)
            ∧ (1 ≤ value.toNat → value.toNat ≤ 3 → r.link = .lost →
              refused (.commandAction o id node value) id .actuatorLost)
            ∧ (1 ≤ value.toNat → value.toNat ≤ 3 → r.link ≠ .lost → 4 ≤ r.queue.length →
              refused (.commandAction o id node value) id .queueFull)))
    ∧ ∀ body, (Instr.commandNeitherSetNorAction o body).wellFormed = true →
      let c := Instr.commandNeitherSetNorAction o body
      let id := match body with
        | hi :: lo :: _ => hi ++ lo
        | _ => 0#16
      notRunning c id
      ∧ denied c id (match body with
        | _ :: _ :: node :: _ => some [node]
        | _ => none)
      ∧ (s.flc.state ≠ .stopped → (s.levelOf o).allows .operate = true →
        ∃ t, exec c s = .next t
          ∧ t = { s with pins := s.pinsOf o, bli := t.bli, schedule := t.schedule }
          ∧ t.Answers o.source (.result ⟨id, .range, .nothing⟩))

/-- R126, R127: a SET that passes every check sets the requested target and becomes the latest SET,
unless the settle check (R130) finds it settled at once; an owed SET before it is SUPERSEDED, and one
settled at once is DONE. It is answered TAKEN with the effective target of the record as it then
stands, clamped where that is not the value, deferred where the link is UNKNOWN or LOST. No other
actuator record changes. -/
def Obligations.SetIsTakenWithItsTarget : Prop :=
  ∀ (s : State) (o : Origin) (id value : Half) (node : Byte) (k : Fin 48) (r : ActuatorRecord),
    s.TakesAtOnce → s.flc.state ≠ .stopped → (s.levelOf o).allows .operate = true →
    s.tbu.active.slotOfNode node.toNat = some k → s.cgu.actuators.get k = some r →
    let v : Int := if r.kind = .climate then value.toInt else value.toNat
    r.kind.accepts v = true →
    ¬ (r.kind = .humidifier ∧ (s.tbu.active.zoneRec r.zone).isCurve = true ∧ s.cmu.band = none) →
    let r1 : ActuatorRecord := { r with target := some v, latestSet := some id }
    let effective := effectiveTarget s r1
    let posts := fun (t : State) (c : Half) (outcome : CommandOutcome) =>
      (Notice.commandOutcome r.node c outcome).enabledBy s.tbu.active.bus.mask = true →
      keyedCount s.bli.board < 63 → t.Announces (.commandOutcome r.node c outcome)
    ∃ t, exec (.commandSet o id node value) s = .next t
      ∧ t = { s with pins := s.pinsOf o, cgu := t.cgu, bli := t.bli, schedule := t.schedule }
      ∧ t.cgu.actuators.get k
          = some { r1 with latestSet := if settledSet s r1 = none then some id else none }
      ∧ (∀ j, j ≠ k → t.cgu.actuators.get j = s.cgu.actuators.get j)
      ∧ t.Answers o.source (.result ⟨id, .taken, .set effective (decide (effective ≠ some v))
          (decide (r.link = .unknown ∨ r.link = .lost))⟩)
      ∧ (∀ old, r.latestSet = some old → settledSet s r1 = none → posts t old .superseded)
      ∧ (settledSet s r1 = some id → posts t id .done)

/-- R126, R128: an ACTION that passes every check joins the tail of its actuator's queue and is
answered TAKEN with the queue count; an unknown action code is answered RANGE. That a code above 255
is no action code is read from R203 and R204: DEDUCED (assumption log 14). -/
def Obligations.ActionJoinsItsQueue : Prop :=
  ∀ (s : State) (o : Origin) (id code : Half) (node : Byte) (k : Fin 48) (r : ActuatorRecord),
    s.TakesAtOnce → s.flc.state ≠ .stopped → (s.levelOf o).allows .operate = true →
    s.tbu.active.slotOfNode node.toNat = some k → s.cgu.actuators.get k = some r →
    (∀ a : ActionCode, code.toNat = a.code → r.link ≠ .lost → r.queue.length < 4 →
      ∃ t, exec (.commandAction o id node code) s = .next t
        ∧ t = { s with pins := s.pinsOf o, cgu := t.cgu, bli := t.bli, schedule := t.schedule }
        ∧ t.cgu.actuators.get k = some { r with queue := r.queue ++ [⟨id, a⟩] }
        ∧ (∀ j, j ≠ k → t.cgu.actuators.get j = s.cgu.actuators.get j)
        ∧ t.Answers o.source (.result ⟨id, .taken, .action (r.queue.length + 1)⟩))
    ∧ ((code.toNat = 0 ∨ 3 < code.toNat) →
      ∃ t, exec (.commandAction o id node code) s = .next t
        ∧ t = { s with pins := s.pinsOf o, bli := t.bli, schedule := t.schedule }
        ∧ t.Answers o.source (.result ⟨id, .range, .nothing⟩))

/-! ## Building link -/

/-- R162, R163: the board takes a post by the first row that applies (the arbiter acting at the end of
the event). -/
def Obligations.PostFollowsFirstRow : Prop :=
  ∀ (s : State) (n : Notice), s.order.eager = false →
    let mask := s.tbu.active.bus.mask
    let b := s.bli.board
    let b' := (post n s).bli.board
    (n.enabledBy mask = false → b' = b)
    ∧ (n.enabledBy mask = true → (∃ e ∈ b, e.notice.key = n.key) →
        b' = b.map fun e => if e.notice.key = n.key then ⟨n, min (e.merge + 1) 255⟩ else e)
    ∧ (n.enabledBy mask = true → (∀ e ∈ b, e.notice.key ≠ n.key) → n ≠ .boardFull →
        keyedCount b < 63 → b' = b ++ [⟨n, 1⟩])
    ∧ (n.enabledBy mask = true → (∀ e ∈ b, e.notice.key ≠ n.key) → n ≠ .boardFull →
        63 ≤ keyedCount b →
        b' = if mask.getLsbD 15 = false then b
          else if b.any fun e => e.notice == .boardFull then
            b.map fun e => if e.notice = .boardFull then ⟨.boardFull, min (e.merge + 1) 255⟩ else e
          else b ++ [⟨.boardFull, 1⟩])

/-- R165, R166, R168: at a transmission's end the arbiter sends the reply, else the REPORT, else the
oldest notice; after a RESTART's REPLY it halts and sends nothing. R155: where the reply that goes out
leaves the slot empty, the oldest message held is taken in the same event, as if it arrived then; a
message that is answered fills the slot, and the rest stay held. -/
def Obligations.TransmissionEndChoosesNext : Prop :=
  ∀ (s : State) (m : OutMsg) (level : Bool), s.bli.tx = .sending m → s.bli.halted = false →
    (s.bli.holding = [] →
      ∃ t, exec (.transmissionEnd level) s = .next t
        ∧ t = { s with
            pins := { s.pins with commission := level }, bli := t.bli, schedule := s.schedule.tail }
        ∧ ((m.endsRestart && s.mrh.restartPending) = true →
            t.bli = { s.bli with tx := .idle, halted := true })
        ∧ ((m.endsRestart && s.mrh.restartPending) = false →
            (∀ r, s.bli.replySlot = some r →
              t.bli = { s.bli with replySlot := none, tx := .sending (.answer r) })
            ∧ (∀ r, s.bli.replySlot = none → s.bli.report = some r →
              t.bli = { s.bli with report := none, tx := .sending (.report r) })
            ∧ (∀ e rest, s.bli.replySlot = none → s.bli.report = none → s.bli.board = e :: rest →
              t.bli = { s.bli with board := rest, tx := .sending (.notice e) })
            ∧ (s.bli.replySlot = none → s.bli.report = none → s.bli.board = [] →
              t.bli = { s.bli with tx := .idle })))
    ∧ ∀ r : ReplyMsg, s.bli.replySlot = some r → s.bli.takingOpen = true →
      s.bli.rx ≠ .disabled → (m.endsRestart && s.mrh.restartPending) = false →
      (∀ x rest, s.bli.holding = x :: rest → x.kind ≠ kindTime →
        ∃ t a, exec (.transmissionEnd level) s = .next t
          ∧ t.bli.holding = rest ∧ t.bli.replySlot = some ⟨x.source, a⟩
          ∧ t.bli.tx = .sending (.answer r))
      ∧ (∀ i source kind body, arrivalOf i = some (⟨source, level⟩, kind, body) →
        s.bli.holding = [⟨source, kind, body⟩] →
        exec (.transmissionEnd level) s = exec i { s with
          bli := { s.bli with tx := .sending (.answer r), replySlot := none, holding := [] } })

/-- R152: a start code begins a frame, other characters are hunted through; a framed character joins
the frame; a framing fault, a length above 250 or a gap breaks the frame: LINK_ERROR BAD_CHECK is
posted, the characters are discarded, and the hunt begins again. R153: a whole frame whose CRC does not
agree is discarded with the same post, and one for another destination with none. -/
def Obligations.ReceiverFollowsCharacters : Prop :=
  ∀ (s : State) (c : Byte) (framed level : Bool),
    let pins : Pins := { s.pins with commission := level }
    let broken := fun t : State =>
      t.bli.rx = .hunting ∧ t.bli.frame = [] ∧ t.bli.holding = s.bli.holding
        ∧ ((Notice.linkError .badCheck).enabledBy s.tbu.active.bus.mask = true →
          keyedCount s.bli.board < 63 → t.Announces (.linkError .badCheck))
    (s.bli.rx = .hunting →
      exec (.blCharacterReceived framed c level) s = .next { s with
        pins := pins
        bli := { s.bli with
          rx := if framed = true ∧ c = 0xA5#8 then .inFrame else .hunting
          frame := if framed = true ∧ c = 0xA5#8 then [] else s.bli.frame }.arbitrate
        schedule := s.schedule.tail })
    ∧ (s.bli.rx = .inFrame → framed = true →
        (s.bli.frame.length < 3
          ∨ (s.bli.frame.length = 3 ∧ c.toNat ≤ 250)
          ∨ (3 < s.bli.frame.length
            ∧ s.bli.frame.length + 1 ≠ 6 + (s.bli.frame.getD 3 0#8).toNat)) →
      exec (.blCharacterReceived framed c level) s = .next { s with
        pins := pins
        bli := { s.bli with frame := s.bli.frame ++ [c] }.arbitrate
        schedule := s.schedule.tail })
    ∧ (s.bli.rx = .inFrame → (framed = false ∨ (s.bli.frame.length = 3 ∧ 250 < c.toNat)) →
      ∃ t, exec (.blCharacterReceived framed c level) s = .next t
        ∧ t = { s with pins := pins, bli := t.bli, schedule := s.schedule.tail } ∧ broken t)
    ∧ (s.bli.rx = .inFrame →
      ∃ t, exec .frameGapTimeout s = .next t
        ∧ t = { s with bli := t.bli, schedule := s.schedule.tail } ∧ broken t)
    ∧ (s.bli.rx = .inFrame → framed = true → 3 < s.bli.frame.length →
        s.bli.frame.length + 1 = 6 + (s.bli.frame.getD 3 0#8).toNat →
      let covered := s.bli.frame.take (s.bli.frame.length - 1)
      let crc := s.bli.frame.drop (s.bli.frame.length - 1) ++ [c]
      (be16 (crc16 covered) ≠ crc →
        ∃ t, exec (.blCharacterReceived framed c level) s = .next t
          ∧ t = { s with pins := pins, bli := t.bli, schedule := s.schedule.tail } ∧ broken t)
      ∧ (be16 (crc16 covered) = crc → covered.getD 0 0#8 ≠ s.bli.own →
        exec (.blCharacterReceived framed c level) s = .next { s with
          pins := pins
          bli := { s.bli with rx := .hunting, frame := [] }.arbitrate
          schedule := s.schedule.tail }))

/-- R152, R153, R204: the characters of a good frame for the part, of any kind of message, received one
by one from HUNTING, bring about exactly what the row of that message does (the arbiter having nothing
to send meanwhile, and no open order scheduled). This ties the message rows to the character row
(DESIGN CHOICE, assumption log 1). -/
def Obligations.FrameDeliversItsMessage : Prop :=
  ∀ (s : State) (i : Instr) (o : Origin) (kind : Byte) (body : List Byte),
    arrivalOf i = some (o, kind, body) → i.wellFormed = true →
    s.bli.rx = .hunting → s.bli.frame = [] → s.bli.arbitrate = s.bli →
    s.schedule = [] → s.pins.commission = o.commission →
    (frameOf s.bli.own o.source kind body).foldl
        (fun x c => match x with
          | .next u => exec (.blCharacterReceived true c o.commission) u
          | other => other)
        (Outcome.next s)
      = exec i s

/-- R154, R157, R171: a message of any row that finds four messages held is discarded for LINK_ERROR
OVERFLOW and no block sees it; a message of an unknown kind, and a REQUEST with an empty body or an
unknown code, are answered UNKNOWN_REQUEST, and nothing else changes. -/
def Obligations.LinkDiscardsOrAnswersByItself : Prop :=
  ∀ (s : State) (o : Origin) (kind : Byte) (body : List Byte),
    (∀ i : Instr, arrivalOf i = some (o, kind, body) →
        s.bli.rx ≠ .disabled → s.bli.holding.length = 4 → s.bli.replySlot ≠ none →
        s.order.eager = false →
      let b : Bli := { s.bli with
        board := boardPost s.tbu.active.bus.mask (.linkError .overflow) s.bli.board }
      exec i s = .next { s with
        pins := s.pinsOf o, bli := b.arbitrate, schedule := s.schedule.tail })
    ∧ (s.TakesAtOnce → (Instr.unknownMessageKind o kind body).wellFormed = true →
      ∃ t, exec (.unknownMessageKind o kind body) s = .next t
        ∧ t = { s with pins := s.pinsOf o, bli := t.bli, schedule := t.schedule }
        ∧ t.Answers o.source (.reply ⟨0#8, .unknownRequest, .nothing⟩))
    ∧ (s.TakesAtOnce → (Instr.unknownRequest o body).wellFormed = true →
      ∃ t, exec (.unknownRequest o body) s = .next t
        ∧ t = { s with pins := s.pinsOf o, bli := t.bli, schedule := t.schedule }
        ∧ t.Answers o.source (.reply ⟨body.headD 0#8, .unknownRequest, .nothing⟩))

/-! ## Requests -/

/-- R171 steps 2 and 3, R172, R173, R177, R205: each request kind needs its level, is checked for its
body length (code byte included), and is recorded, where denied, with so many bytes of its fields. A
request below the level it needs is answered DENIED and recorded, and has no effect on any block; one
of the wrong length is answered RANGE with no effect. -/
def Obligations.RequestsAreJudgedFirst : Prop :=
  (∀ (k : ReqKind) (fields : List Byte),
    k.needs fields = (match k with
      | .readRecord => if fields.head? = some 5#8 then .commission else .observe
      | .readState | .linkReadAccount | .readFault => .observe
      | .clearLatch | .holdOccupied | .releaseHold | .grantExtension | .statsControl
      | .statsClear | .clearFault => .operate
      | .writeRecord | .discardStaged | .commit | .suspendAccount | .resumeAccount
      | .seedAccount | .restart => .commission)
    ∧ (k.shapeOk fields = true ↔ (match k with
      | .readRecord => fields.length + 1 = 5
      | .readState | .clearLatch | .holdOccupied | .grantExtension => fields.length + 1 = 4
      | .linkReadAccount | .releaseHold | .suspendAccount | .resumeAccount => fields.length + 1 = 2
      | .statsControl => fields.length + 1 = 8
      | .seedAccount => fields.length + 1 = 6
      | .writeRecord => True
      | .readFault | .statsClear | .clearFault | .discardStaged | .commit | .restart =>
        fields.length + 1 = 1))
    ∧ k.subject fields = (match k, fields with
      | .readRecord, a :: b :: _ | .readState, a :: b :: _ | .writeRecord, a :: b :: _ =>
        some [a, b]
      | .clearLatch, a :: b :: c :: _ => some [a, b, c]
      | .linkReadAccount, a :: _ | .holdOccupied, a :: _ | .releaseHold, a :: _
      | .grantExtension, a :: _ | .suspendAccount, a :: _ | .resumeAccount, a :: _
      | .seedAccount, a :: _ => some [a]
      | _, _ => none))
  ∧ ∀ (s : State) (k : ReqKind) (o : Origin) (fields : List Byte), s.TakesAtOnce →
    ((s.levelOf o).allows (k.needs fields) = false →
      ∃ t, exec (k.toInstr o fields) s = .next t
        ∧ t = { s with pins := s.pinsOf o, mrh := t.mrh, bli := t.bli, schedule := t.schedule }
        ∧ t.mrh = { s.mrh with fault := match s.mrh.fault with
            | none => some ⟨o.source, .request k, k.subject fields, false⟩
            | some f => some { f with further := true } }
        ∧ t.Replies o.source k .denied .nothing)
    ∧ ((s.levelOf o).allows (k.needs fields) = true → k.shapeOk fields = false →
      ∃ t, exec (k.toInstr o fields) s = .next t
        ∧ t = { s with pins := s.pinsOf o, bli := t.bli, schedule := t.schedule }
        ∧ t.Replies o.source k .range .nothing)

/-- R36: READ RECORD answers OK with the records of the named copy in ascending index, as many as fit
in one body, and RANGE for a table, copy or run that does not exist; it changes nothing. -/
def Obligations.ReadRecordReturnsTheRun : Prop :=
  ∀ (s : State) (o : Origin) (table first count copy : Byte), s.TakesAtOnce →
    (s.levelOf o).allows (ReqKind.needs .readRecord [table, first, count, copy]) = true →
    ∃ t, exec (.readRecord o [table, first, count, copy]) s = .next t
      ∧ t = { s with pins := s.pinsOf o, bli := t.bli, schedule := t.schedule }
      ∧ (∀ id, TableId.ofCode table.toNat = some id → 1 ≤ count.toNat → count.toNat ≤ 8 →
          first.toNat + count.toNat ≤ id.size → copy.toNat ≤ 1 →
          ∃ recs, t.Replies o.source .readRecord .ok (.records id first.toNat recs)
            ∧ recs.length = min count.toNat (245 / id.recordBytes)
            ∧ ∀ i, i < recs.length → recs[i]?
              = (if copy.toNat = 0 then s.tbu.active else s.tbu.staged).record id (first.toNat + i))
      ∧ ((TableId.ofCode table.toNat = none ∨ count.toNat = 0 ∨ 8 < count.toNat
            ∨ 1 < copy.toNat
            ∨ ∃ id, TableId.ofCode table.toNat = some id ∧ id.size < first.toNat + count.toNat) →
          t.Replies o.source .readRecord .range .nothing)

/-- R37: WRITE RECORD is answered BUSY in PENDING_SWAP; otherwise a run of whole records replaces the
staged records at its indices, as written, and no other record of either copy changes. -/
def Obligations.WriteRecordReplacesStagedRun : Prop :=
  ∀ (s : State) (o : Origin) (table first count : Byte) (bytes : List Byte), s.TakesAtOnce →
    (s.levelOf o).allows .commission = true →
    (s.tbu.commit = .pendingSwap →
      ∃ t, exec (.writeRecord o (table :: first :: count :: bytes)) s = .next t
        ∧ t = { s with pins := s.pinsOf o, bli := t.bli, schedule := t.schedule }
        ∧ t.Replies o.source .writeRecord .busy .nothing)
    ∧ (∀ id, s.tbu.commit ≠ .pendingSwap → TableId.ofCode table.toNat = some id →
        1 ≤ count.toNat → count.toNat ≤ 8 → (id = .zone → count.toNat ≤ 5) →
        first.toNat + count.toNat ≤ id.size → bytes.length = count.toNat * id.recordBytes →
      ∃ t, exec (.writeRecord o (table :: first :: count :: bytes)) s = .next t
        ∧ t = { s with
            pins := s.pinsOf o, tbu := t.tbu, bli := t.bli, schedule := t.schedule }
        ∧ t.tbu.active = s.tbu.active ∧ t.tbu.commit = s.tbu.commit
        ∧ t.tbu.swapCycle = s.tbu.swapCycle
        ∧ t.Replies o.source .writeRecord .ok .nothing
        ∧ (∀ i, i < count.toNat → t.tbu.staged.record id (first.toNat + i)
            = some (id.recordOfBytes ((bytes.drop (i * id.recordBytes)).take id.recordBytes)))
        ∧ (∀ id' j, ¬ (id' = id ∧ first.toNat ≤ j ∧ j < first.toNat + count.toNat) →
            t.tbu.staged.record id' j = s.tbu.staged.record id' j))

/-- R38: DISCARD STAGED makes the staged copy a copy of the active copy in IDLE and STORING, and is
answered BUSY, the staged copy kept, in PENDING_SWAP. -/
def Obligations.DiscardStagedCopiesActive : Prop :=
  ∀ (s : State) (o : Origin), s.TakesAtOnce → (s.levelOf o).allows .commission = true →
    ∃ t, exec (.discardStaged o []) s = .next t
      ∧ (s.tbu.commit = .idle ∨ s.tbu.commit = .storing →
          t = { s with
            pins := s.pinsOf o, tbu := { s.tbu with staged := s.tbu.active }, bli := t.bli,
            schedule := t.schedule }
          ∧ t.Replies o.source .discardStaged .ok .nothing)
      ∧ (s.tbu.commit = .pendingSwap →
          t = { s with pins := s.pinsOf o, bli := t.bli, schedule := t.schedule }
          ∧ t.Replies o.source .discardStaged .busy .nothing)
      ∧ (s.tbu.staged = s.tbu.active → t.tbu = s.tbu)

/-- R39, R40, R43, R46: COMMIT is BUSY outside IDLE; an invalid staged copy is answered INVALID with
the first failure and changes nothing; a valid one is ACCEPTED, to be swapped at the next cycle
close, or at once while the FLC is STOPPED, which then begins cycle 0. -/
def Obligations.CommitJudgesStagedCopy : Prop :=
  ∀ (s : State) (o : Origin), s.TakesAtOnce → (s.levelOf o).allows .commission = true →
    ∃ t, exec (.commit o []) s = .next t
      ∧ (s.tbu.commit ≠ .idle →
          t = { s with pins := s.pinsOf o, bli := t.bli, schedule := t.schedule }
          ∧ t.Replies o.source .commit .busy .nothing)
      ∧ (∀ id i c, s.tbu.commit = .idle → validate s.tbu.staged = some (id, i, c) →
          t = { s with pins := s.pinsOf o, bli := t.bli, schedule := t.schedule }
          ∧ t.Replies o.source .commit .invalid (.invalid id i c))
      ∧ (s.tbu.commit = .idle → validate s.tbu.staged = none → s.flc.state ≠ .stopped →
          t = { s with
            pins := s.pinsOf o
            tbu := { s.tbu with
              commit := .pendingSwap
              swapCycle := some
                (if s.flc.state = .closed then s.flc.cycle + 1#16 else s.flc.cycle) }
            bli := t.bli
            schedule := t.schedule }
          ∧ t.Replies o.source .commit .accepted .nothing)
      ∧ (s.tbu.commit = .idle → validate s.tbu.staged = none → s.flc.state = .stopped →
          t.tbu.active = s.tbu.staged ∧ t.tbu.staged = s.tbu.staged
          ∧ t.tbu.commit = (if s.nvs.state = .failed then .idle else .storing)
          ∧ t.flc.state = .mark ∧ t.flc.cycle = 0#16
          ∧ t.flc.timer = some (num s.tbu.staged.bus.cycleInterval)
          ∧ t.Replies o.source .commit .accepted .nothing)

/-- R28, R41, R42: tables that pass every check have a used slot, no two used slots with one node
address, a cycle interval of 1 to 30 s, and no rest level above its lux ceiling in an enabled zone.
R40, R199: the active copy of a part that cycles has passed every check, and every step keeps it so,
with a staged copy whose swap is awaited. R51, R122: the sensor and actuator records stand exactly at
the SENSOR and ACTUATOR slots of the active Slot Map, and every step keeps them so. -/
def Obligations.ValidTablesAreSound : Prop :=
  (∀ t : Tables, validate t = none →
    (∃ k, (t.slots.get k).isUsed = true)
    ∧ (∀ j k, (t.slots.get j).isUsed = true → (t.slots.get k).isUsed = true →
        (t.slots.get j).node = (t.slots.get k).node → j = k)
    ∧ (∃ c, t.bus.cycleInterval = some c ∧ 1 ≤ c ∧ c ≤ 30)
    ∧ (∀ z, t.zoneEnabled z = true →
        num (t.zoneRec z).restLevel ≤ num (t.zoneRec z).luxCeiling))
  ∧ ∀ s t : State, s.StartsClean → step s = .next t →
    (s.TablesValid → t.TablesValid) ∧ (s.RecordsFollowSlots → t.RecordsFollowSlots)

/-- R174, R175: READ STATE changes no state of any block; it is answered OK with the FLC's state and
cycle number and the subject as it stands, here its CYCLE, ACCOUNT and EXCURSION subjects, and RANGE
for a subject kind above 14. -/
def Obligations.ReadStateShowsAndChangesNothing : Prop :=
  ∀ (s : State) (o : Origin) (kind index quantity : Byte), s.TakesAtOnce →
    ∃ t, exec (.readState o [kind, index, quantity]) s = .next t
      ∧ t = { s with pins := s.pinsOf o, bli := t.bli, schedule := t.schedule }
      ∧ (14 < kind.toNat → t.Replies o.source .readState .range .nothing)
      ∧ (kind.toNat = 0 → t.Replies o.source .readState .ok (.reading s.flc.state s.flc.cycle
          (.cycle s.flc.state s.flc.cycle s.flc.slotCount s.flc.timer)))
      ∧ (∀ a : Fin 64, kind.toNat = 6 → index.toNat = a.val →
          t.Replies o.source .readState .ok (.reading s.flc.state s.flc.cycle
            (.account (s.dau.accounts.get a))))
      ∧ (∀ (z : Fin 16) (q : CondQ), kind.toNat = 9 → index.toNat = z.val →
          quantity.toNat = q.code →
          t.Replies o.source .readState .ok (.reading s.flc.state s.flc.cycle
            (.excursion (s.xsu.tracker z q))))
      ∧ (kind.toNat = 6 → 63 < index.toNat → t.Replies o.source .readState .range .nothing)

/-- R178: READ FAULT needs OBSERVE, is answered OK with the access fault record, changes it not, and is
never denied. -/
def Obligations.ReadFaultShowsRecord : Prop :=
  ∀ (s : State) (o : Origin), s.TakesAtOnce →
    ∃ t, exec (.readFault o []) s = .next t
      ∧ t = { s with pins := s.pinsOf o, bli := t.bli, schedule := t.schedule }
      ∧ t.Replies o.source .readFault .ok (.fault s.mrh.fault)

/-- R70: CLEAR LATCH clears the named latch of an enabled zone whose side is not ALARM, and is
answered RANGE, NOT_ENABLED or STILL_ACTIVE with no effect otherwise. -/
def Obligations.ClearLatchClearsOneLatch : Prop :=
  ∀ (s : State) (o : Origin) (z : Fin 16) (q : CondQ) (side : Side), s.TakesAtOnce →
    (s.levelOf o).allows .operate = true →
    let fields : List Byte :=
      [BitVec.ofNat 8 z.val, BitVec.ofNat 8 q.code, if side = .low then 0#8 else 1#8]
    ∃ t, exec (.clearLatch o fields) s = .next t
      ∧ ((side = .low ∧ (q = .lux ∨ q = .uv)) →
          t = { s with pins := s.pinsOf o, bli := t.bli, schedule := t.schedule }
          ∧ t.Replies o.source .clearLatch .range .nothing)
      ∧ (¬ (side = .low ∧ (q = .lux ∨ q = .uv)) → s.tbu.active.zoneEnabled z = false →
          t = { s with pins := s.pinsOf o, bli := t.bli, schedule := t.schedule }
          ∧ t.Replies o.source .clearLatch .notEnabled .nothing)
      ∧ (¬ (side = .low ∧ (q = .lux ∨ q = .uv)) → s.tbu.active.zoneEnabled z = true →
          (s.cmu.cond z q).side side = .alarm →
          t = { s with pins := s.pinsOf o, bli := t.bli, schedule := t.schedule }
          ∧ t.Replies o.source .clearLatch .stillActive .nothing)
      ∧ (¬ (side = .low ∧ (q = .lux ∨ q = .uv)) → s.tbu.active.zoneEnabled z = true →
          (s.cmu.cond z q).side side ≠ .alarm →
          t = { s with
            pins := s.pinsOf o, cmu := t.cmu, xsu := s.xsu, bli := t.bli, schedule := t.schedule }
          ∧ t.cmu.cond z q = (if side = .low then { s.cmu.cond z q with lowLatch := false }
              else { s.cmu.cond z q with highLatch := false })
          ∧ (∀ z' q', (z', q') ≠ (z, q) → t.cmu.cond z' q' = s.cmu.cond z' q')
          ∧ t.cmu.sensors = s.cmu.sensors ∧ t.cmu.band = s.cmu.band
          ∧ t.Replies o.source .clearLatch .ok .nothing)

/-- R111 to R113, R115: a HOLD OCCUPIED is answered RANGE for a zone above 15 or minutes outside 1 to 720,
NOT_ENABLED for a zone that is not enabled, each with no effect; taken, its hold stands for
minutes × 60 s. A RELEASE HOLD is answered RANGE and NOT_ENABLED in the same way; taken, the hold is
absent. Either way the zone's presence and count, its vacant-seen flags and every other zone stand,
its ceiling and reason are computed anew, and the reply carries the zone's record. -/
def Obligations.HoldsAreTakenAndReleased : Prop :=
  ∀ (s : State) (o : Origin), s.TakesAtOnce → (s.levelOf o).allows .operate = true →
    let refused := fun (c : Instr) (k : ReqKind) (status : Status) => ∃ t, exec c s = .next t
      ∧ t = { s with pins := s.pinsOf o, bli := t.bli, schedule := t.schedule }
      ∧ t.Replies o.source k status .nothing
    let held := fun (c : Instr) (k : ReqKind) (z : Fin 16) (hold : Option Nat) =>
      ∃ t ceiling reason, exec c s = .next t
        ∧ t = { s with
            pins := s.pinsOf o, zcu := t.zcu, bli := t.bli, schedule := t.schedule }
        ∧ t.zcu.zones.get z = { s.zcu.zones.get z with
            hold := hold, ceiling := ceiling, reason := reason }
        ∧ (t.zcu.zones.get z).CeilingStands s.tbu.active s.dau z
        ∧ (∀ y, y ≠ z → t.zcu.zones.get y = s.zcu.zones.get y)
        ∧ t.zcu.vacantSeen = s.zcu.vacantSeen
        ∧ t.Replies o.source k .ok (.zone (t.zcu.zones.get z))
    (∀ (b : Byte) (minutes : Half),
      (15 < b.toNat ∨ minutes.toNat < 1 ∨ 720 < minutes.toNat) →
        refused (.holdOccupied o (b :: be16 minutes)) .holdOccupied .range)
    ∧ (∀ b : Byte, 15 < b.toNat → refused (.releaseHold o [b]) .releaseHold .range)
    ∧ ∀ z : Fin 16,
      (s.tbu.active.zoneEnabled z = false →
        (∀ minutes : Half, 1 ≤ minutes.toNat → minutes.toNat ≤ 720 →
          refused (.holdOccupied o (BitVec.ofNat 8 z.val :: be16 minutes)) .holdOccupied
            .notEnabled)
        ∧ refused (.releaseHold o [BitVec.ofNat 8 z.val]) .releaseHold .notEnabled)
      ∧ (s.tbu.active.zoneEnabled z = true →
        (∀ minutes : Half, 1 ≤ minutes.toNat → minutes.toNat ≤ 720 →
          held (.holdOccupied o (BitVec.ofNat 8 z.val :: be16 minutes)) .holdOccupied z
            (some (minutes.toNat * 60)))
        ∧ held (.releaseHold o [BitVec.ofNat 8 z.val]) .releaseHold z none)

/-- R93: LINK READ ACCOUNT of an account above 63 is answered RANGE with no effect; else it shows the
account, and, where the account is enabled, opens the requester's monitor on it at the revision shown;
no account changes. R93 steps 1 to 4, R80, of a sound table (StepKeepsYearCoversToday): the requester's
own entry becomes FREE; the entry taken is the FREE one of lowest index, else the LAPSED one of lowest
opening order, else the OPEN one of lowest; it gets the highest opening order, which is the number of
entries held; every other entry is kept, its rank one lower where the entry that became FREE, if any,
was older. -/
def Obligations.LinkReadOpensMonitor : Prop :=
  ∀ (s : State) (o : Origin), s.TakesAtOnce →
    (∀ b : Byte, 63 < b.toNat → ∃ t, exec (.linkReadAccount o [b]) s = .next t
      ∧ t = { s with pins := s.pinsOf o, bli := t.bli, schedule := t.schedule }
      ∧ t.Replies o.source .linkReadAccount .range .nothing)
    ∧ ∀ a : Fin 64, ∃ t, exec (.linkReadAccount o [BitVec.ofNat 8 a.val]) s = .next t
      ∧ t = { s with
          pins := s.pinsOf o, dau := { s.dau with monitors := t.dau.monitors }, bli := t.bli,
          schedule := t.schedule }
      ∧ t.Replies o.source .linkReadAccount .ok
          (.account (s.tbu.active.accounts.get a) (s.dau.accounts.get a))
      ∧ (s.tbu.active.accountEnabled a = false → t.dau.monitors = s.dau.monitors)
      ∧ (s.tbu.active.accountEnabled a = true → ∃ i order,
          t.dau.monitors.get i
            = .open_ ⟨o.source, a, (s.dau.accounts.get a).revision, order⟩
          ∧ (s.dau.MonitorsSound →
            let before := s.dau.monitors
            let after := t.dau.monitors
            let own := fun j => ∃ e, (before.get j).entry? = some e ∧ e.requester = o.source
            let open_ := fun j => before.get j = .free ∨ own j
            let freedBelow := fun f : MonitorEntry => ∃ j e, (before.get j).entry? = some e
              ∧ (own j ∨ j = i) ∧ e.order < f.order
            order = heldMonitors after
            ∧ (∀ j f, j ≠ i → (after.get j).entry? = some f → f.order < order)
            ∧ ((∃ j, open_ j) → open_ i ∧ ∀ j, j < i → ¬ open_ j)
            ∧ ((∀ j, ¬ open_ j) → (∃ j e, before.get j = .lapsed e) →
              ∃ e, before.get i = .lapsed e
                ∧ ∀ j f, before.get j = .lapsed f → e.order ≤ f.order)
            ∧ ((∀ j, ¬ open_ j) → (∀ j e, before.get j ≠ .lapsed e) →
              ∃ e, before.get i = .open_ e
                ∧ ∀ j f, before.get j = .open_ f → e.order ≤ f.order)
            ∧ ∀ j, j ≠ i →
              (open_ j → after.get j = .free)
              ∧ (¬ own j → ∀ f,
                let g := { f with order := f.order - 1 }
                (before.get j = .open_ f →
                  (freedBelow f → after.get j = .open_ g)
                    ∧ (¬ freedBelow f → after.get j = .open_ f))
                ∧ (before.get j = .lapsed f →
                  (freedBelow f → after.get j = .lapsed g)
                    ∧ (¬ freedBelow f → after.get j = .lapsed f)))))

/-- R94, R95: a GRANT EXTENSION is answered by the first row that applies: RANGE for an amount of 0 or an
account above 63, NOT_ENABLED, SUSPENDED, NO_LINK where the requester holds no monitor on the account,
LINK_LOST where its monitor is LAPSED, RANGE where the extension would pass the allowance, each with
no effect but that the last two free the monitor, every other entry kept, the higher ranks one lower
(R80). A grant by a requester with an OPEN monitor on an enabled account raises the extension, frees
the monitor in the same way, raises the revision, which makes every other OPEN entry on the account
LAPSED with its requester, account and revision (R92), and evaluates the account (R85); where that
changes its state, its zone's ceiling and reason are computed anew (R86, R115), and nothing else of any
zone changes; the account is left pending or being written, unless the store is FAILED. -/
def Obligations.GrantNeedsItsOwnOpenMonitor : Prop :=
  ∀ (s : State) (o : Origin) (a : Fin 64) (amount : Half),
    s.TakesAtOnce → (s.levelOf o).allows .operate = true →
    let grant := Instr.grantExtension o (BitVec.ofNat 8 a.val :: be16 amount)
    let refused := fun (c : Instr) (status : Status) => ∃ t, exec c s = .next t
      ∧ t = { s with pins := s.pinsOf o, bli := t.bli, schedule := t.schedule }
      ∧ t.Replies o.source .grantExtension status .nothing
    let freed := fun (i : Fin 4) (status : Status) => ∃ t, exec grant s = .next t
      ∧ t = { s with
          pins := s.pinsOf o, dau := { s.dau with monitors := t.dau.monitors }, bli := t.bli,
          schedule := t.schedule }
      ∧ t.dau.monitors.get i = .free
      ∧ (∀ e, (s.dau.monitors.get i).entry? = some e → ∀ j, j ≠ i →
        t.dau.monitors.get j = match s.dau.monitors.get j with
          | .free => .free
          | .open_ f => .open_ (f.closedUp e.order)
          | .lapsed f => .lapsed (f.closedUp e.order))
      ∧ t.Replies o.source .grantExtension status .nothing
    (amount = 0#16 → refused grant .range)
    ∧ (∀ b : Byte, 63 < b.toNat → refused (.grantExtension o (b :: be16 amount)) .range)
    ∧ (amount ≠ 0#16 →
      (s.tbu.active.accountEnabled a = false → refused grant .notEnabled)
      ∧ (s.tbu.active.accountEnabled a = true → (s.dau.accounts.get a).state = .suspended →
        refused grant .suspended)
      ∧ (s.tbu.active.accountEnabled a = true → (s.dau.accounts.get a).state ≠ .suspended →
        ((∀ j e, (s.dau.monitors.get j).entry? = some e →
          ¬ (e.requester = o.source ∧ e.account = a)) → refused grant .noLink)
        ∧ ∀ (i : Fin 4) (e : MonitorEntry), e.requester = o.source → e.account = a →
          (∀ j e', (s.dau.monitors.get j).entry? = some e' → e'.requester = o.source → j = i) →
          (s.dau.monitors.get i = .lapsed e → freed i .linkLost)
          ∧ (s.dau.monitors.get i = .open_ e →
            num (s.tbu.active.accounts.get a).allowance
              < (s.dau.accounts.get a).extension + amount.toNat → freed i .range)
          ∧ (s.dau.monitors.get i = .open_ e →
            (s.dau.accounts.get a).extension + amount.toNat
              ≤ num (s.tbu.active.accounts.get a).allowance →
            let r := s.dau.accounts.get a
            let cfg := s.tbu.active.accounts.get a
            let extension := r.extension + amount.toNat
            let r' : AccountDyn := { r with
              extension := extension
              revision := r.revision + 1#16
              state := if cfg.budgetLuxSeconds ≤ r.usedYear then .annualSpent
                else if (num cfg.allowance + extension) * 3600 ≤ r.usedToday then .dailySpent
                else .open_ }
            ∃ t, exec grant s = .next t
              ∧ t = { s with
                  pins := s.pinsOf o, dau := t.dau, zcu := t.zcu, nvs := t.nvs, bli := t.bli,
                  schedule := t.schedule }
              ∧ t.dau = { s.dau with accounts := t.dau.accounts, monitors := t.dau.monitors }
              ∧ t.dau.accounts.get a = r'
              ∧ (∀ b, b ≠ a → t.dau.accounts.get b = s.dau.accounts.get b)
              ∧ t.dau.monitors.get i = .free
              ∧ (∀ j, j ≠ i → t.dau.monitors.get j = match s.dau.monitors.get j with
                | .free => .free
                | .open_ f =>
                  if f.account = a then .lapsed (f.closedUp e.order)
                  else .open_ (f.closedUp e.order)
                | .lapsed f => .lapsed (f.closedUp e.order))
              ∧ (r'.state = r.state → t.zcu = s.zcu)
              ∧ t.zcu.vacantSeen = s.zcu.vacantSeen
              ∧ (∀ z, cfg.zoneIndex ≠ some z → t.zcu.zones.get z = s.zcu.zones.get z)
              ∧ (∀ z, cfg.zoneIndex = some z →
                (∃ ceiling reason, t.zcu.zones.get z
                  = { s.zcu.zones.get z with ceiling := ceiling, reason := reason })
                ∧ (r'.state ≠ r.state → s.tbu.active.zoneEnabled z = true →
                  (t.zcu.zones.get z).CeilingStands s.tbu.active t.dau z))
              ∧ (s.nvs.state ≠ .failed → t.nvs.pendingAccounts.get a = true
                ∨ ∃ c, t.nvs.write = some (.record a c))
              ∧ t.Replies o.source .grantExtension .ok (.grant extension r'.revision r'.state))))

/-- R97 to R99: SUSPEND makes an enabled account SUSPENDED and raises its revision; RESUME evaluates a
SUSPENDED account from its counts; SEED sets used year to the value × 3600 and clears restore
failed. Other accounts and the ledger stand. -/
def Obligations.AccountsAreSuspendedResumedSeeded : Prop :=
  ∀ (s : State) (o : Origin) (a : Fin 64), s.TakesAtOnce →
    (s.levelOf o).allows .commission = true → s.tbu.active.accountEnabled a = true →
    let r := s.dau.accounts.get a
    (r.state ≠ .suspended →
      ∃ t, exec (.suspendAccount o [BitVec.ofNat 8 a.val]) s = .next t
        ∧ t.dau.accounts.get a = { r with state := .suspended, revision := r.revision + 1#16 }
        ∧ (∀ b, b ≠ a → t.dau.accounts.get b = s.dau.accounts.get b)
        ∧ t.dau.ledger = s.dau.ledger ∧ t.tbu = s.tbu ∧ t.flc = s.flc
        ∧ t.Replies o.source .suspendAccount .ok .nothing)
    ∧ (r.state = .suspended →
      ∃ t, exec (.resumeAccount o [BitVec.ofNat 8 a.val]) s = .next t
        ∧ t.dau.accounts.get a = { r with
            state :=
              if (s.tbu.active.accounts.get a).budgetLuxSeconds ≤ r.usedYear then .annualSpent
              else if (num (s.tbu.active.accounts.get a).allowance + r.extension) * 3600
                ≤ r.usedToday then .dailySpent
              else .open_
            revision := r.revision + 1#16 }
        ∧ (∀ b, b ≠ a → t.dau.accounts.get b = s.dau.accounts.get b)
        ∧ t.dau.ledger = s.dau.ledger ∧ t.tbu = s.tbu ∧ t.flc = s.flc
        ∧ t.Replies o.source .resumeAccount .ok .nothing)
    ∧ (∀ hi lo : Half, r.usedToday ≤ (hi ++ lo).toNat * 3600 →
      ∃ t, exec (.seedAccount o (BitVec.ofNat 8 a.val :: (be16 hi ++ be16 lo))) s = .next t
        ∧ (t.dau.accounts.get a).usedYear = (hi ++ lo).toNat * 3600
        ∧ (t.dau.accounts.get a).usedToday = r.usedToday
        ∧ (t.dau.accounts.get a).extension = r.extension
        ∧ (t.dau.accounts.get a).restoreFailed = false
        ∧ (t.dau.accounts.get a).revision = r.revision + 1#16
        ∧ (r.state = .suspended → (t.dau.accounts.get a).state = .suspended)
        ∧ (∀ b, b ≠ a → t.dau.accounts.get b = s.dau.accounts.get b)
        ∧ t.dau.ledger = s.dau.ledger ∧ t.tbu = s.tbu ∧ t.flc = s.flc
        ∧ t.Replies o.source .seedAccount .ok .nothing)

/-- R87 to R91: a TIME from OPERATE or above with a date in range: adopted while the ledger date is
absent; a later date is a rollover of every enabled account, annual too in a later year; an earlier
one is refused with CLOCK REGRESS and changes no account, date or watch. R87, R88, R100: unless the
store is FAILED, a date adopted or a rollover leaves every enabled account pending or being written.
R176, R177: a TIME below OPERATE is recorded as TIME with no subject and posts ACCESS_FAULT; R87,
R204: one of another length or with a date out of range is discarded. None is answered. -/
def Obligations.TimeMovesTheLedger : Prop :=
  ∀ (s : State) (o : Origin), s.TakesAtOnce →
    let marked := fun t : State => s.nvs.state ≠ .failed →
      ∀ a, s.tbu.active.accountEnabled a = true →
        t.nvs.pendingAccounts.get a = true ∨ ∃ c, t.nvs.write = some (.record a c)
    let posts := fun (t : State) (n : Notice) =>
      n.enabledBy s.tbu.active.bus.mask = true → keyedCount s.bli.board < 63 → t.Announces n
    (∀ body : List Byte, (s.levelOf o).allows .operate = false →
      ∃ t, exec (.time o body) s = .next t
        ∧ t = { s with pins := s.pinsOf o, mrh := t.mrh, bli := t.bli, schedule := s.schedule.tail }
        ∧ t.mrh = { s.mrh with fault := match s.mrh.fault with
            | none => some ⟨o.source, .time, none, false⟩
            | some f => some { f with further := true } }
        ∧ t.bli.replySlot = none ∧ posts t .accessFault)
    ∧ (∀ body : List Byte, (s.levelOf o).allows .operate = true →
      (body.length ≠ 4 ∨ ∃ year day : Half, body = be16 year ++ be16 day
        ∧ (year.toNat < 2000 ∨ 2099 < year.toNat ∨ day.toNat < 1 ∨ 366 < day.toNat)) →
      exec (.time o body) s = .next { s with
        pins := s.pinsOf o, bli := s.bli.arbitrate, schedule := s.schedule.tail })
    ∧ ∀ year day : Half, (s.levelOf o).allows .operate = true →
      2000 ≤ year.toNat → year.toNat ≤ 2099 → 1 ≤ day.toNat → day.toNat ≤ 366 →
      let d : Date := ⟨year.toNat, day.toNat⟩
      ∃ t, exec (.time o (be16 year ++ be16 day)) s = .next t
        ∧ t.bli.replySlot = none ∧ t.flc = s.flc ∧ t.tbu = s.tbu ∧ t.cmu = s.cmu ∧ t.cgu = s.cgu
        ∧ t.mrh = s.mrh
        ∧ ((s.dau.ledger = none ∨ s.dau.ledger = some d) →
            t.dau = { s.dau with ledger := some d, dateWatch := 0, dateStale := false })
        ∧ (s.dau.ledger = none → marked t)
        ∧ (∀ l, s.dau.ledger = some l → (l.year < d.year ∨ (l.year = d.year ∧ l.day < d.day)) →
            t.dau.ledger = some d ∧ t.dau.dateWatch = 0 ∧ t.dau.dateStale = false ∧ marked t
            ∧ ∀ a, (s.tbu.active.accountEnabled a = true →
                (t.dau.accounts.get a).usedToday = 0 ∧ (t.dau.accounts.get a).extension = 0
                ∧ (t.dau.accounts.get a).usedYear
                    = (if l.year < d.year then 0 else (s.dau.accounts.get a).usedYear)
                ∧ (t.dau.accounts.get a).revision = (s.dau.accounts.get a).revision + 1#16)
              ∧ (s.tbu.active.accountEnabled a = false →
                t.dau.accounts.get a = s.dau.accounts.get a))
        ∧ (∀ l, s.dau.ledger = some l → (d.year < l.year ∨ (l.year = d.year ∧ d.day < l.day)) →
            t.dau = s.dau ∧ t.nvs = s.nvs ∧ t.zcu = s.zcu ∧ posts t (.clock .regress))

/-- R189, R190: STATS CONTROL replaces the three settings together and answers with them, and an enable
code other than 0 and 1 is RANGE; STATS CLEAR sets every bin counter to 0 and every saturated flag to
clear. Neither changes anything else. -/
def Obligations.StatisticsAreSetAndCleared : Prop :=
  ∀ (s : State) (o : Origin) (enable m1 m0 ct cr cl cu : Byte), s.TakesAtOnce →
    (s.levelOf o).allows .operate = true →
    (enable.toNat ≤ 1 →
      ∃ t, exec (.statsControl o [enable, m1, m0, ct, cr, cl, cu]) s = .next t
        ∧ t = { s with
            pins := s.pinsOf o
            xsu := { s.xsu with
              enable := enable == 1#8, zoneMask := m1 ++ m0, combine := ⟨ct, cr, cl, cu⟩ }
            bli := t.bli
            schedule := t.schedule }
        ∧ t.Replies o.source .statsControl .ok
            (.stats (enable == 1#8) (m1 ++ m0) ⟨ct, cr, cl, cu⟩))
    ∧ (1 < enable.toNat →
      ∃ t, exec (.statsControl o [enable, m1, m0, ct, cr, cl, cu]) s = .next t
        ∧ t = { s with pins := s.pinsOf o, bli := t.bli, schedule := t.schedule }
        ∧ t.Replies o.source .statsControl .range .nothing)
    ∧ ∃ t h, exec (.statsClear o []) s = .next t
        ∧ t = { s with
            pins := s.pinsOf o, xsu := { s.xsu with histograms := h }, bli := t.bli,
            schedule := t.schedule }
        ∧ (∀ (q : CondQ) (b : Fin 8), (h.get q).get b = ⟨0, false⟩)
        ∧ t.Replies o.source .statsClear .ok .nothing

/-- R168, R179, R180: CLEAR FAULT is answered OK with the record as it stood, and empties it; RESTART
sets restart pending and closes taking in the event that answers it OK. -/
def Obligations.ClearFaultAndRestartActOnTheHandler : Prop :=
  ∀ (s : State) (o : Origin), s.TakesAtOnce →
    ((s.levelOf o).allows .operate = true →
      ∃ t, exec (.clearFault o []) s = .next t
        ∧ t = { s with
            pins := s.pinsOf o, mrh := { s.mrh with fault := none }, bli := t.bli,
            schedule := t.schedule }
        ∧ t.Replies o.source .clearFault .ok (.fault s.mrh.fault))
    ∧ ((s.levelOf o).allows .commission = true →
      ∃ t, exec (.restart o []) s = .next t
        ∧ t = { s with
            pins := s.pinsOf o, mrh := { s.mrh with restartPending := true }, bli := t.bli,
            schedule := t.schedule }
        ∧ t.bli.takingOpen = false
        ∧ t.Replies o.source .restart .ok .nothing)

/-! ## Resets, start-up and the store -/

/-- R181, R198: a reset puts every volatile item of every block at its reset value with the reset's
cause (R1, R27, R51 to R53, R78 to R80, R107, R108, R123, R150, R169, R183, R184, R194). A POWER or PIN reset tears the item being written and leaves the others; a RESTART falls when
its REPLY has been sent and no write is in progress, and leaves the store. The model's choices here:
the row RESTART_RESET takes that reset (assumption log 7), a torn item is held as failing its check
(log 8), POWER_RESET carries the level of RESET_N, and PIN_RESET acts only where it was not asserted
(log 21). -/
def Obligations.ResetsLeaveResetValues : Prop :=
  ∀ s : State,
    (∀ asserted, exec (.powerReset asserted) s = .next (State.afterReset .power
        { s.pins with resetAsserted := asserted } s.tornStore s.schedule.tail s.pending))
    ∧ (s.pins.resetAsserted = false → exec .pinReset s = .next (State.afterReset .pin
        { s.pins with resetAsserted := true } s.tornStore s.schedule.tail s.pending))
    ∧ (s.pins.resetAsserted = true → exec .pinResetRelease s = .next { s with
        pins := { s.pins with resetAsserted := false }, bli := s.bli.arbitrate,
        schedule := s.schedule.tail })
    ∧ (s.mrh.restartPending = true → s.bli.halted = true → s.nvs.write = none →
        exec .restartReset s
          = .next (State.afterReset .restart s.pins s.store s.schedule.tail s.pending))
    ∧ (∀ a c, s.nvs.write = some (.record a c) → s.tornStore.records.get a = .failing
        ∧ s.tornStore.image = s.store.image
        ∧ ∀ b, b ≠ a → s.tornStore.records.get b = s.store.records.get b)
    ∧ (∀ i, s.nvs.write = some (.config i) → s.tornStore.image = .failing
        ∧ s.tornStore.records = s.store.records)
    ∧ (s.nvs.write = none → s.tornStore = s.store)
    ∧ ∀ (cause : ResetCause) (pins : Pins) (store : Store),
        let t := State.afterReset cause pins store s.schedule.tail s.pending
        t.HasResetValues cause ∧ t.store = store ∧ t.pins = pins ∧ t.pending = s.pending

/-- R151, R199 to R202: an invalid image ends start-up in FALLBACK with the blank tables, the FLC
STOPPED and taking open; a valid one sets both copies and the records are read, the last ending
start-up in RUNNING with cycle 0 begun and taking open. START carries the reset cause, which is not
held after it, and is the oldest entry, so the first message sent (R164, R202). R101: the ledger date
is the latest of the valid records of enabled accounts. R102: a valid record is restored, rolled to the
ledger date, its extension held to the allowance, and stays SUSPENDED if it was. R103: an enabled
account without a valid record is charged its whole budget and is ANNUAL_SPENT with restore failed.
R85: every other enabled account stands as its counts give. An account not enabled is IDLE. -/
def Obligations.StartUpEndsRunningOrFallback : Prop :=
  ∀ (s : State) (addr : BitVec 4), s.nvs.start = .starting → s.pins.resetAsserted = false →
    s.StartsClean →
    (s.nvs.reading = .image → validImage s.store.image = none →
      ∃ t, exec (.configurationImageRead addr) s = .next t
        ∧ t.nvs.start = .fallback ∧ t.nvs.cause = none
        ∧ t.tbu.active = Tables.blank ∧ t.tbu.staged = Tables.blank
        ∧ t.flc = .reset ∧ t.bli.own = BitVec.ofNat 8 (48 + addr.toNat)
        ∧ t.bli.rx = .hunting ∧ t.bli.takingOpen = true
        ∧ t.Announces (.start s.nvs.cause .fallback) ∧ t.store = s.store
        ∧ t.bli.tx = .sending (.notice ⟨.start s.nvs.cause .fallback, 1⟩))
    ∧ (∀ tables, s.nvs.reading = .image → validImage s.store.image = some tables →
      ∃ t, exec (.configurationImageRead addr) s = .next t
        ∧ t = { s with
            tbu := { s.tbu with active := tables, staged := tables }
            nvs := { s.nvs with reading := .record 0 }
            schedule := s.schedule.tail })
    ∧ (∀ k : Fin 64, s.nvs.reading = .record k → k.val < 63 →
      ∃ t k', exec (.accountRecordRead addr) s = .next t
        ∧ k'.val = k.val + 1
        ∧ t = { s with
            nvs := { s.nvs with reading := .record k' }, schedule := s.schedule.tail })
    ∧ (s.nvs.reading = .record 63 →
      ∃ t, exec (.accountRecordRead addr) s = .next t
        ∧ t.nvs.start = .running ∧ t.nvs.cause = none
        ∧ t.flc.state = .mark ∧ t.flc.cycle = 0#16
        ∧ t.flc.timer = some (num s.tbu.active.bus.cycleInterval)
        ∧ t.dau.dateWatch = 0 ∧ t.dau.dateStale = false ∧ t.dau.checkpointCounter = 0
        ∧ (∀ i, t.dau.monitors.get i = .free)
        ∧ t.nvs.pendingAccounts = s.nvs.pendingAccounts ∧ t.nvs.write = s.nvs.write
        ∧ (∀ d, t.dau.ledger = some d → ∃ a r, s.tbu.active.accountEnabled a = true
            ∧ RecordValid a (s.store.records.get a) r ∧ r.date = some d)
        ∧ (∀ a, s.tbu.active.accountEnabled a = false →
            t.dau.accounts.get a = ⟨.idle, 0, 0, 0, none, 0, 0#16, false⟩)
        ∧ (∀ a, s.tbu.active.accountEnabled a = true →
          let cfg := s.tbu.active.accounts.get a
          let x := t.dau.accounts.get a
          let restored := fun (r : AccountItem) (today year extension : Nat) =>
            let e := min extension (num cfg.allowance)
            x = ⟨if r.suspended = true then .suspended
                else if cfg.budgetLuxSeconds ≤ year then .annualSpent
                else if (num cfg.allowance + e) * 3600 ≤ today then .dailySpent
                else .open_, today, year, e, none, 0, 0#16, false⟩
          (∀ r, RecordValid a (s.store.records.get a) r →
            (r.date = none → restored r r.usedToday r.usedYear r.extension)
            ∧ ∀ d, r.date = some d → ∃ l, t.dau.ledger = some l
              ∧ (d.year < l.year ∨ (d.year = l.year ∧ d.day ≤ l.day))
              ∧ (d = l → restored r r.usedToday r.usedYear r.extension)
              ∧ (d.year = l.year → d.day < l.day → restored r 0 r.usedYear 0)
              ∧ (d.year < l.year → restored r 0 0 0))
          ∧ ((∀ r, ¬ RecordValid a (s.store.records.get a) r) →
            x = ⟨.annualSpent, 0, cfg.budgetLuxSeconds, 0, none, 0, 0#16, true⟩))
        ∧ t.bli.own = BitVec.ofNat 8 (48 + addr.toNat) ∧ t.bli.rx = .hunting
        ∧ t.bli.takingOpen = true
        ∧ t.Announces (.start s.nvs.cause .running) ∧ t.store = s.store ∧ t.tbu = s.tbu
        ∧ t.bli.tx = .sending (.notice ⟨.start s.nvs.cause .running, 1⟩))

/-- R48, R195, R197: a configuration write whose verify agrees puts its image in the store, ends the
commit with COMMIT DONE, and the store chooses its next write: none, and it is IDLE, where nothing is
pending or a RESTART holds it; else the pending configuration, else the lowest pending account, whose
values are captured, zero where it is IDLE. One that disagrees fails the store, which owes nothing
more, and ends the commit, with STORE FAULT and COMMIT STORE_FAILED posted. -/
def Obligations.ConfigurationWriteEndsCommit : Prop :=
  ∀ (s : State) (image : Tables) (left : StoredItem Tables), s.nvs.write = some (.config image) →
    let posts := fun (t : State) (n : Notice) (room : Nat) =>
      n.enabledBy s.tbu.active.bus.mask = true → keyedCount s.bli.board < room → t.Announces n
    (∃ t, exec (.configurationWriteComplete .agrees) s = .next t
      ∧ t = { s with
          tbu := { s.tbu with commit := .idle }, nvs := t.nvs, bli := t.bli,
          store := { s.store with image := .held image (crc16 image.bytes) },
          schedule := s.schedule.tail }
      ∧ posts t (.commit .done) 63
      ∧ ((s.mrh.restartPending = true ∧ s.bli.halted = true
            ∨ s.nvs.pendingConfig = false ∧ ∀ a, s.nvs.pendingAccounts.get a = false) →
          t.nvs = { s.nvs with state := .idle, write := none })
      ∧ (¬ (s.mrh.restartPending = true ∧ s.bli.halted = true) →
          (s.nvs.pendingConfig = true → t.nvs = { s.nvs with
            pendingConfig := false, state := .writingConfig,
            write := some (.config s.tbu.active) })
          ∧ (∀ a, s.nvs.pendingConfig = false → s.nvs.pendingAccounts.get a = true →
            (∀ b, b < a → s.nvs.pendingAccounts.get b = false) →
            let r := s.dau.accounts.get a
            let counted := fun n : Nat => if r.state = .idle then 0 else n
            t.nvs = { s.nvs with
              pendingAccounts := s.nvs.pendingAccounts.set a false
              state := .writingRecord
              write := some (.record a ⟨a.val, s.dau.ledger, counted r.usedToday,
                counted r.usedYear, counted r.extension, decide (r.state = .suspended)⟩) })))
    ∧ (∃ t, exec (.configurationWriteComplete (.disagrees left)) s = .next t
      ∧ t = { s with
          tbu := { s.tbu with commit := .idle }
          nvs := { s.nvs with
            state := .failed, pendingConfig := false, pendingAccounts := Tab.fill 64 false,
            write := none }
          bli := t.bli
          store := { s.store with image := left }
          schedule := s.schedule.tail }
      ∧ posts t .storeFault 62 ∧ posts t (.commit .storeFailed) 62)

/-- R48, R195, R197: a record write whose verify agrees puts the captured record in the store, and the
store chooses its next write: none, and it is IDLE, where nothing is pending or a RESTART holds it;
else the pending configuration, else the lowest pending account, whose values are captured, zero where
it is IDLE. One that disagrees fails the store with STORE FAULT, and drops a configuration write it
owed, which ends the commit with COMMIT NOT_STORED. -/
def Obligations.RecordWriteFreesOrFailsStore : Prop :=
  ∀ (s : State) (a : Fin 64) (item : AccountItem) (left : StoredItem AccountItem),
    s.nvs.write = some (.record a item) →
    let posts := fun (t : State) (n : Notice) (room : Nat) =>
      n.enabledBy s.tbu.active.bus.mask = true → keyedCount s.bli.board < room → t.Announces n
    (∃ t, exec (.accountRecordWriteComplete .agrees) s = .next t
      ∧ t = { s with
          nvs := t.nvs, bli := s.bli.arbitrate,
          store := { s.store with
            records := s.store.records.set a (.held item (crc16 item.bytes)) },
          schedule := s.schedule.tail }
      ∧ ((s.mrh.restartPending = true ∧ s.bli.halted = true
            ∨ s.nvs.pendingConfig = false ∧ ∀ b, s.nvs.pendingAccounts.get b = false) →
          t.nvs = { s.nvs with state := .idle, write := none })
      ∧ (¬ (s.mrh.restartPending = true ∧ s.bli.halted = true) →
          (s.nvs.pendingConfig = true → t.nvs = { s.nvs with
            pendingConfig := false, state := .writingConfig,
            write := some (.config s.tbu.active) })
          ∧ (∀ b, s.nvs.pendingConfig = false → s.nvs.pendingAccounts.get b = true →
            (∀ x, x < b → s.nvs.pendingAccounts.get x = false) →
            let r := s.dau.accounts.get b
            let counted := fun n : Nat => if r.state = .idle then 0 else n
            t.nvs = { s.nvs with
              pendingAccounts := s.nvs.pendingAccounts.set b false
              state := .writingRecord
              write := some (.record b ⟨b.val, s.dau.ledger, counted r.usedToday,
                counted r.usedYear, counted r.extension, decide (r.state = .suspended)⟩) })))
    ∧ (∃ t, exec (.accountRecordWriteComplete (.disagrees left)) s = .next t
      ∧ t = { s with
          tbu := { s.tbu with
            commit := if s.nvs.pendingConfig then .idle else s.tbu.commit }
          nvs := { s.nvs with
            state := .failed, pendingConfig := false, pendingAccounts := Tab.fill 64 false,
            write := none }
          bli := t.bli
          store := { s.store with records := s.store.records.set a left }
          schedule := s.schedule.tail }
      ∧ posts t .storeFault 62
      ∧ (s.nvs.pendingConfig = true → posts t (.commit .notStored) 62))

end
end

