-- ==== Sys2Proof/Laws/State.lean ====
section
/-! SUPPORT. One lemma per field per update of State: the replaced field holds the new value, and
every other field stands. -/

namespace Sys2Proof.Machine

/-! ### setPins -/

@[simp] theorem State.setPins_pins (s : State) (x : Pins) : (s.setPins x).pins = x := rfl
@[simp] theorem State.setPins_flc (s : State) (x : Pins) : (s.setPins x).flc = s.flc := rfl
@[simp] theorem State.setPins_tbu (s : State) (x : Pins) : (s.setPins x).tbu = s.tbu := rfl
@[simp] theorem State.setPins_cmu (s : State) (x : Pins) : (s.setPins x).cmu = s.cmu := rfl
@[simp] theorem State.setPins_dau (s : State) (x : Pins) : (s.setPins x).dau = s.dau := rfl
@[simp] theorem State.setPins_zcu (s : State) (x : Pins) : (s.setPins x).zcu = s.zcu := rfl
@[simp] theorem State.setPins_cgu (s : State) (x : Pins) : (s.setPins x).cgu = s.cgu := rfl
@[simp] theorem State.setPins_bli (s : State) (x : Pins) : (s.setPins x).bli = s.bli := rfl
@[simp] theorem State.setPins_mrh (s : State) (x : Pins) : (s.setPins x).mrh = s.mrh := rfl
@[simp] theorem State.setPins_xsu (s : State) (x : Pins) : (s.setPins x).xsu = s.xsu := rfl
@[simp] theorem State.setPins_nvs (s : State) (x : Pins) : (s.setPins x).nvs = s.nvs := rfl
@[simp] theorem State.setPins_store (s : State) (x : Pins) : (s.setPins x).store = s.store := rfl
@[simp] theorem State.setPins_schedule (s : State) (x : Pins) : (s.setPins x).schedule = s.schedule := rfl
@[simp] theorem State.setPins_pending (s : State) (x : Pins) : (s.setPins x).pending = s.pending := rfl
@[simp] theorem State.setPins_setPins (s : State) (x y : Pins) :
    (s.setPins x).setPins y = s.setPins y := rfl
@[simp] theorem State.setPins_self (s : State) : s.setPins s.pins = s := rfl

/-! ### setFlc -/

@[simp] theorem State.setFlc_pins (s : State) (x : Flc) : (s.setFlc x).pins = s.pins := rfl
@[simp] theorem State.setFlc_flc (s : State) (x : Flc) : (s.setFlc x).flc = x := rfl
@[simp] theorem State.setFlc_tbu (s : State) (x : Flc) : (s.setFlc x).tbu = s.tbu := rfl
@[simp] theorem State.setFlc_cmu (s : State) (x : Flc) : (s.setFlc x).cmu = s.cmu := rfl
@[simp] theorem State.setFlc_dau (s : State) (x : Flc) : (s.setFlc x).dau = s.dau := rfl
@[simp] theorem State.setFlc_zcu (s : State) (x : Flc) : (s.setFlc x).zcu = s.zcu := rfl
@[simp] theorem State.setFlc_cgu (s : State) (x : Flc) : (s.setFlc x).cgu = s.cgu := rfl
@[simp] theorem State.setFlc_bli (s : State) (x : Flc) : (s.setFlc x).bli = s.bli := rfl
@[simp] theorem State.setFlc_mrh (s : State) (x : Flc) : (s.setFlc x).mrh = s.mrh := rfl
@[simp] theorem State.setFlc_xsu (s : State) (x : Flc) : (s.setFlc x).xsu = s.xsu := rfl
@[simp] theorem State.setFlc_nvs (s : State) (x : Flc) : (s.setFlc x).nvs = s.nvs := rfl
@[simp] theorem State.setFlc_store (s : State) (x : Flc) : (s.setFlc x).store = s.store := rfl
@[simp] theorem State.setFlc_schedule (s : State) (x : Flc) : (s.setFlc x).schedule = s.schedule := rfl
@[simp] theorem State.setFlc_pending (s : State) (x : Flc) : (s.setFlc x).pending = s.pending := rfl
@[simp] theorem State.setFlc_setFlc (s : State) (x y : Flc) :
    (s.setFlc x).setFlc y = s.setFlc y := rfl
@[simp] theorem State.setFlc_self (s : State) : s.setFlc s.flc = s := rfl

/-! ### setTbu -/

@[simp] theorem State.setTbu_pins (s : State) (x : Tbu) : (s.setTbu x).pins = s.pins := rfl
@[simp] theorem State.setTbu_flc (s : State) (x : Tbu) : (s.setTbu x).flc = s.flc := rfl
@[simp] theorem State.setTbu_tbu (s : State) (x : Tbu) : (s.setTbu x).tbu = x := rfl
@[simp] theorem State.setTbu_cmu (s : State) (x : Tbu) : (s.setTbu x).cmu = s.cmu := rfl
@[simp] theorem State.setTbu_dau (s : State) (x : Tbu) : (s.setTbu x).dau = s.dau := rfl
@[simp] theorem State.setTbu_zcu (s : State) (x : Tbu) : (s.setTbu x).zcu = s.zcu := rfl
@[simp] theorem State.setTbu_cgu (s : State) (x : Tbu) : (s.setTbu x).cgu = s.cgu := rfl
@[simp] theorem State.setTbu_bli (s : State) (x : Tbu) : (s.setTbu x).bli = s.bli := rfl
@[simp] theorem State.setTbu_mrh (s : State) (x : Tbu) : (s.setTbu x).mrh = s.mrh := rfl
@[simp] theorem State.setTbu_xsu (s : State) (x : Tbu) : (s.setTbu x).xsu = s.xsu := rfl
@[simp] theorem State.setTbu_nvs (s : State) (x : Tbu) : (s.setTbu x).nvs = s.nvs := rfl
@[simp] theorem State.setTbu_store (s : State) (x : Tbu) : (s.setTbu x).store = s.store := rfl
@[simp] theorem State.setTbu_schedule (s : State) (x : Tbu) : (s.setTbu x).schedule = s.schedule := rfl
@[simp] theorem State.setTbu_pending (s : State) (x : Tbu) : (s.setTbu x).pending = s.pending := rfl
@[simp] theorem State.setTbu_setTbu (s : State) (x y : Tbu) :
    (s.setTbu x).setTbu y = s.setTbu y := rfl
@[simp] theorem State.setTbu_self (s : State) : s.setTbu s.tbu = s := rfl

/-! ### setCmu -/

@[simp] theorem State.setCmu_pins (s : State) (x : Cmu) : (s.setCmu x).pins = s.pins := rfl
@[simp] theorem State.setCmu_flc (s : State) (x : Cmu) : (s.setCmu x).flc = s.flc := rfl
@[simp] theorem State.setCmu_tbu (s : State) (x : Cmu) : (s.setCmu x).tbu = s.tbu := rfl
@[simp] theorem State.setCmu_cmu (s : State) (x : Cmu) : (s.setCmu x).cmu = x := rfl
@[simp] theorem State.setCmu_dau (s : State) (x : Cmu) : (s.setCmu x).dau = s.dau := rfl
@[simp] theorem State.setCmu_zcu (s : State) (x : Cmu) : (s.setCmu x).zcu = s.zcu := rfl
@[simp] theorem State.setCmu_cgu (s : State) (x : Cmu) : (s.setCmu x).cgu = s.cgu := rfl
@[simp] theorem State.setCmu_bli (s : State) (x : Cmu) : (s.setCmu x).bli = s.bli := rfl
@[simp] theorem State.setCmu_mrh (s : State) (x : Cmu) : (s.setCmu x).mrh = s.mrh := rfl
@[simp] theorem State.setCmu_xsu (s : State) (x : Cmu) : (s.setCmu x).xsu = s.xsu := rfl
@[simp] theorem State.setCmu_nvs (s : State) (x : Cmu) : (s.setCmu x).nvs = s.nvs := rfl
@[simp] theorem State.setCmu_store (s : State) (x : Cmu) : (s.setCmu x).store = s.store := rfl
@[simp] theorem State.setCmu_schedule (s : State) (x : Cmu) : (s.setCmu x).schedule = s.schedule := rfl
@[simp] theorem State.setCmu_pending (s : State) (x : Cmu) : (s.setCmu x).pending = s.pending := rfl
@[simp] theorem State.setCmu_setCmu (s : State) (x y : Cmu) :
    (s.setCmu x).setCmu y = s.setCmu y := rfl
@[simp] theorem State.setCmu_self (s : State) : s.setCmu s.cmu = s := rfl

/-! ### setDau -/

@[simp] theorem State.setDau_pins (s : State) (x : Dau) : (s.setDau x).pins = s.pins := rfl
@[simp] theorem State.setDau_flc (s : State) (x : Dau) : (s.setDau x).flc = s.flc := rfl
@[simp] theorem State.setDau_tbu (s : State) (x : Dau) : (s.setDau x).tbu = s.tbu := rfl
@[simp] theorem State.setDau_cmu (s : State) (x : Dau) : (s.setDau x).cmu = s.cmu := rfl
@[simp] theorem State.setDau_dau (s : State) (x : Dau) : (s.setDau x).dau = x := rfl
@[simp] theorem State.setDau_zcu (s : State) (x : Dau) : (s.setDau x).zcu = s.zcu := rfl
@[simp] theorem State.setDau_cgu (s : State) (x : Dau) : (s.setDau x).cgu = s.cgu := rfl
@[simp] theorem State.setDau_bli (s : State) (x : Dau) : (s.setDau x).bli = s.bli := rfl
@[simp] theorem State.setDau_mrh (s : State) (x : Dau) : (s.setDau x).mrh = s.mrh := rfl
@[simp] theorem State.setDau_xsu (s : State) (x : Dau) : (s.setDau x).xsu = s.xsu := rfl
@[simp] theorem State.setDau_nvs (s : State) (x : Dau) : (s.setDau x).nvs = s.nvs := rfl
@[simp] theorem State.setDau_store (s : State) (x : Dau) : (s.setDau x).store = s.store := rfl
@[simp] theorem State.setDau_schedule (s : State) (x : Dau) : (s.setDau x).schedule = s.schedule := rfl
@[simp] theorem State.setDau_pending (s : State) (x : Dau) : (s.setDau x).pending = s.pending := rfl
@[simp] theorem State.setDau_setDau (s : State) (x y : Dau) :
    (s.setDau x).setDau y = s.setDau y := rfl
@[simp] theorem State.setDau_self (s : State) : s.setDau s.dau = s := rfl

/-! ### setZcu -/

@[simp] theorem State.setZcu_pins (s : State) (x : Zcu) : (s.setZcu x).pins = s.pins := rfl
@[simp] theorem State.setZcu_flc (s : State) (x : Zcu) : (s.setZcu x).flc = s.flc := rfl
@[simp] theorem State.setZcu_tbu (s : State) (x : Zcu) : (s.setZcu x).tbu = s.tbu := rfl
@[simp] theorem State.setZcu_cmu (s : State) (x : Zcu) : (s.setZcu x).cmu = s.cmu := rfl
@[simp] theorem State.setZcu_dau (s : State) (x : Zcu) : (s.setZcu x).dau = s.dau := rfl
@[simp] theorem State.setZcu_zcu (s : State) (x : Zcu) : (s.setZcu x).zcu = x := rfl
@[simp] theorem State.setZcu_cgu (s : State) (x : Zcu) : (s.setZcu x).cgu = s.cgu := rfl
@[simp] theorem State.setZcu_bli (s : State) (x : Zcu) : (s.setZcu x).bli = s.bli := rfl
@[simp] theorem State.setZcu_mrh (s : State) (x : Zcu) : (s.setZcu x).mrh = s.mrh := rfl
@[simp] theorem State.setZcu_xsu (s : State) (x : Zcu) : (s.setZcu x).xsu = s.xsu := rfl
@[simp] theorem State.setZcu_nvs (s : State) (x : Zcu) : (s.setZcu x).nvs = s.nvs := rfl
@[simp] theorem State.setZcu_store (s : State) (x : Zcu) : (s.setZcu x).store = s.store := rfl
@[simp] theorem State.setZcu_schedule (s : State) (x : Zcu) : (s.setZcu x).schedule = s.schedule := rfl
@[simp] theorem State.setZcu_pending (s : State) (x : Zcu) : (s.setZcu x).pending = s.pending := rfl
@[simp] theorem State.setZcu_setZcu (s : State) (x y : Zcu) :
    (s.setZcu x).setZcu y = s.setZcu y := rfl
@[simp] theorem State.setZcu_self (s : State) : s.setZcu s.zcu = s := rfl

/-! ### setCgu -/

@[simp] theorem State.setCgu_pins (s : State) (x : Cgu) : (s.setCgu x).pins = s.pins := rfl
@[simp] theorem State.setCgu_flc (s : State) (x : Cgu) : (s.setCgu x).flc = s.flc := rfl
@[simp] theorem State.setCgu_tbu (s : State) (x : Cgu) : (s.setCgu x).tbu = s.tbu := rfl
@[simp] theorem State.setCgu_cmu (s : State) (x : Cgu) : (s.setCgu x).cmu = s.cmu := rfl
@[simp] theorem State.setCgu_dau (s : State) (x : Cgu) : (s.setCgu x).dau = s.dau := rfl
@[simp] theorem State.setCgu_zcu (s : State) (x : Cgu) : (s.setCgu x).zcu = s.zcu := rfl
@[simp] theorem State.setCgu_cgu (s : State) (x : Cgu) : (s.setCgu x).cgu = x := rfl
@[simp] theorem State.setCgu_bli (s : State) (x : Cgu) : (s.setCgu x).bli = s.bli := rfl
@[simp] theorem State.setCgu_mrh (s : State) (x : Cgu) : (s.setCgu x).mrh = s.mrh := rfl
@[simp] theorem State.setCgu_xsu (s : State) (x : Cgu) : (s.setCgu x).xsu = s.xsu := rfl
@[simp] theorem State.setCgu_nvs (s : State) (x : Cgu) : (s.setCgu x).nvs = s.nvs := rfl
@[simp] theorem State.setCgu_store (s : State) (x : Cgu) : (s.setCgu x).store = s.store := rfl
@[simp] theorem State.setCgu_schedule (s : State) (x : Cgu) : (s.setCgu x).schedule = s.schedule := rfl
@[simp] theorem State.setCgu_pending (s : State) (x : Cgu) : (s.setCgu x).pending = s.pending := rfl
@[simp] theorem State.setCgu_setCgu (s : State) (x y : Cgu) :
    (s.setCgu x).setCgu y = s.setCgu y := rfl
@[simp] theorem State.setCgu_self (s : State) : s.setCgu s.cgu = s := rfl

/-! ### setBli -/

@[simp] theorem State.setBli_pins (s : State) (x : Bli) : (s.setBli x).pins = s.pins := rfl
@[simp] theorem State.setBli_flc (s : State) (x : Bli) : (s.setBli x).flc = s.flc := rfl
@[simp] theorem State.setBli_tbu (s : State) (x : Bli) : (s.setBli x).tbu = s.tbu := rfl
@[simp] theorem State.setBli_cmu (s : State) (x : Bli) : (s.setBli x).cmu = s.cmu := rfl
@[simp] theorem State.setBli_dau (s : State) (x : Bli) : (s.setBli x).dau = s.dau := rfl
@[simp] theorem State.setBli_zcu (s : State) (x : Bli) : (s.setBli x).zcu = s.zcu := rfl
@[simp] theorem State.setBli_cgu (s : State) (x : Bli) : (s.setBli x).cgu = s.cgu := rfl
@[simp] theorem State.setBli_bli (s : State) (x : Bli) : (s.setBli x).bli = x := rfl
@[simp] theorem State.setBli_mrh (s : State) (x : Bli) : (s.setBli x).mrh = s.mrh := rfl
@[simp] theorem State.setBli_xsu (s : State) (x : Bli) : (s.setBli x).xsu = s.xsu := rfl
@[simp] theorem State.setBli_nvs (s : State) (x : Bli) : (s.setBli x).nvs = s.nvs := rfl
@[simp] theorem State.setBli_store (s : State) (x : Bli) : (s.setBli x).store = s.store := rfl
@[simp] theorem State.setBli_schedule (s : State) (x : Bli) : (s.setBli x).schedule = s.schedule := rfl
@[simp] theorem State.setBli_pending (s : State) (x : Bli) : (s.setBli x).pending = s.pending := rfl
@[simp] theorem State.setBli_setBli (s : State) (x y : Bli) :
    (s.setBli x).setBli y = s.setBli y := rfl
@[simp] theorem State.setBli_self (s : State) : s.setBli s.bli = s := rfl

/-! ### setMrh -/

@[simp] theorem State.setMrh_pins (s : State) (x : Mrh) : (s.setMrh x).pins = s.pins := rfl
@[simp] theorem State.setMrh_flc (s : State) (x : Mrh) : (s.setMrh x).flc = s.flc := rfl
@[simp] theorem State.setMrh_tbu (s : State) (x : Mrh) : (s.setMrh x).tbu = s.tbu := rfl
@[simp] theorem State.setMrh_cmu (s : State) (x : Mrh) : (s.setMrh x).cmu = s.cmu := rfl
@[simp] theorem State.setMrh_dau (s : State) (x : Mrh) : (s.setMrh x).dau = s.dau := rfl
@[simp] theorem State.setMrh_zcu (s : State) (x : Mrh) : (s.setMrh x).zcu = s.zcu := rfl
@[simp] theorem State.setMrh_cgu (s : State) (x : Mrh) : (s.setMrh x).cgu = s.cgu := rfl
@[simp] theorem State.setMrh_bli (s : State) (x : Mrh) : (s.setMrh x).bli = s.bli := rfl
@[simp] theorem State.setMrh_mrh (s : State) (x : Mrh) : (s.setMrh x).mrh = x := rfl
@[simp] theorem State.setMrh_xsu (s : State) (x : Mrh) : (s.setMrh x).xsu = s.xsu := rfl
@[simp] theorem State.setMrh_nvs (s : State) (x : Mrh) : (s.setMrh x).nvs = s.nvs := rfl
@[simp] theorem State.setMrh_store (s : State) (x : Mrh) : (s.setMrh x).store = s.store := rfl
@[simp] theorem State.setMrh_schedule (s : State) (x : Mrh) : (s.setMrh x).schedule = s.schedule := rfl
@[simp] theorem State.setMrh_pending (s : State) (x : Mrh) : (s.setMrh x).pending = s.pending := rfl
@[simp] theorem State.setMrh_setMrh (s : State) (x y : Mrh) :
    (s.setMrh x).setMrh y = s.setMrh y := rfl
@[simp] theorem State.setMrh_self (s : State) : s.setMrh s.mrh = s := rfl

/-! ### setXsu -/

@[simp] theorem State.setXsu_pins (s : State) (x : Xsu) : (s.setXsu x).pins = s.pins := rfl
@[simp] theorem State.setXsu_flc (s : State) (x : Xsu) : (s.setXsu x).flc = s.flc := rfl
@[simp] theorem State.setXsu_tbu (s : State) (x : Xsu) : (s.setXsu x).tbu = s.tbu := rfl
@[simp] theorem State.setXsu_cmu (s : State) (x : Xsu) : (s.setXsu x).cmu = s.cmu := rfl
@[simp] theorem State.setXsu_dau (s : State) (x : Xsu) : (s.setXsu x).dau = s.dau := rfl
@[simp] theorem State.setXsu_zcu (s : State) (x : Xsu) : (s.setXsu x).zcu = s.zcu := rfl
@[simp] theorem State.setXsu_cgu (s : State) (x : Xsu) : (s.setXsu x).cgu = s.cgu := rfl
@[simp] theorem State.setXsu_bli (s : State) (x : Xsu) : (s.setXsu x).bli = s.bli := rfl
@[simp] theorem State.setXsu_mrh (s : State) (x : Xsu) : (s.setXsu x).mrh = s.mrh := rfl
@[simp] theorem State.setXsu_xsu (s : State) (x : Xsu) : (s.setXsu x).xsu = x := rfl
@[simp] theorem State.setXsu_nvs (s : State) (x : Xsu) : (s.setXsu x).nvs = s.nvs := rfl
@[simp] theorem State.setXsu_store (s : State) (x : Xsu) : (s.setXsu x).store = s.store := rfl
@[simp] theorem State.setXsu_schedule (s : State) (x : Xsu) : (s.setXsu x).schedule = s.schedule := rfl
@[simp] theorem State.setXsu_pending (s : State) (x : Xsu) : (s.setXsu x).pending = s.pending := rfl
@[simp] theorem State.setXsu_setXsu (s : State) (x y : Xsu) :
    (s.setXsu x).setXsu y = s.setXsu y := rfl
@[simp] theorem State.setXsu_self (s : State) : s.setXsu s.xsu = s := rfl

/-! ### setNvs -/

@[simp] theorem State.setNvs_pins (s : State) (x : Nvs) : (s.setNvs x).pins = s.pins := rfl
@[simp] theorem State.setNvs_flc (s : State) (x : Nvs) : (s.setNvs x).flc = s.flc := rfl
@[simp] theorem State.setNvs_tbu (s : State) (x : Nvs) : (s.setNvs x).tbu = s.tbu := rfl
@[simp] theorem State.setNvs_cmu (s : State) (x : Nvs) : (s.setNvs x).cmu = s.cmu := rfl
@[simp] theorem State.setNvs_dau (s : State) (x : Nvs) : (s.setNvs x).dau = s.dau := rfl
@[simp] theorem State.setNvs_zcu (s : State) (x : Nvs) : (s.setNvs x).zcu = s.zcu := rfl
@[simp] theorem State.setNvs_cgu (s : State) (x : Nvs) : (s.setNvs x).cgu = s.cgu := rfl
@[simp] theorem State.setNvs_bli (s : State) (x : Nvs) : (s.setNvs x).bli = s.bli := rfl
@[simp] theorem State.setNvs_mrh (s : State) (x : Nvs) : (s.setNvs x).mrh = s.mrh := rfl
@[simp] theorem State.setNvs_xsu (s : State) (x : Nvs) : (s.setNvs x).xsu = s.xsu := rfl
@[simp] theorem State.setNvs_nvs (s : State) (x : Nvs) : (s.setNvs x).nvs = x := rfl
@[simp] theorem State.setNvs_store (s : State) (x : Nvs) : (s.setNvs x).store = s.store := rfl
@[simp] theorem State.setNvs_schedule (s : State) (x : Nvs) : (s.setNvs x).schedule = s.schedule := rfl
@[simp] theorem State.setNvs_pending (s : State) (x : Nvs) : (s.setNvs x).pending = s.pending := rfl
@[simp] theorem State.setNvs_setNvs (s : State) (x y : Nvs) :
    (s.setNvs x).setNvs y = s.setNvs y := rfl
@[simp] theorem State.setNvs_self (s : State) : s.setNvs s.nvs = s := rfl

/-! ### setStore -/

@[simp] theorem State.setStore_pins (s : State) (x : Store) : (s.setStore x).pins = s.pins := rfl
@[simp] theorem State.setStore_flc (s : State) (x : Store) : (s.setStore x).flc = s.flc := rfl
@[simp] theorem State.setStore_tbu (s : State) (x : Store) : (s.setStore x).tbu = s.tbu := rfl
@[simp] theorem State.setStore_cmu (s : State) (x : Store) : (s.setStore x).cmu = s.cmu := rfl
@[simp] theorem State.setStore_dau (s : State) (x : Store) : (s.setStore x).dau = s.dau := rfl
@[simp] theorem State.setStore_zcu (s : State) (x : Store) : (s.setStore x).zcu = s.zcu := rfl
@[simp] theorem State.setStore_cgu (s : State) (x : Store) : (s.setStore x).cgu = s.cgu := rfl
@[simp] theorem State.setStore_bli (s : State) (x : Store) : (s.setStore x).bli = s.bli := rfl
@[simp] theorem State.setStore_mrh (s : State) (x : Store) : (s.setStore x).mrh = s.mrh := rfl
@[simp] theorem State.setStore_xsu (s : State) (x : Store) : (s.setStore x).xsu = s.xsu := rfl
@[simp] theorem State.setStore_nvs (s : State) (x : Store) : (s.setStore x).nvs = s.nvs := rfl
@[simp] theorem State.setStore_store (s : State) (x : Store) : (s.setStore x).store = x := rfl
@[simp] theorem State.setStore_schedule (s : State) (x : Store) : (s.setStore x).schedule = s.schedule := rfl
@[simp] theorem State.setStore_pending (s : State) (x : Store) : (s.setStore x).pending = s.pending := rfl
@[simp] theorem State.setStore_setStore (s : State) (x y : Store) :
    (s.setStore x).setStore y = s.setStore y := rfl
@[simp] theorem State.setStore_self (s : State) : s.setStore s.store = s := rfl

/-! ### setSchedule -/

@[simp] theorem State.setSchedule_pins (s : State) (x : List Order) : (s.setSchedule x).pins = s.pins := rfl
@[simp] theorem State.setSchedule_flc (s : State) (x : List Order) : (s.setSchedule x).flc = s.flc := rfl
@[simp] theorem State.setSchedule_tbu (s : State) (x : List Order) : (s.setSchedule x).tbu = s.tbu := rfl
@[simp] theorem State.setSchedule_cmu (s : State) (x : List Order) : (s.setSchedule x).cmu = s.cmu := rfl
@[simp] theorem State.setSchedule_dau (s : State) (x : List Order) : (s.setSchedule x).dau = s.dau := rfl
@[simp] theorem State.setSchedule_zcu (s : State) (x : List Order) : (s.setSchedule x).zcu = s.zcu := rfl
@[simp] theorem State.setSchedule_cgu (s : State) (x : List Order) : (s.setSchedule x).cgu = s.cgu := rfl
@[simp] theorem State.setSchedule_bli (s : State) (x : List Order) : (s.setSchedule x).bli = s.bli := rfl
@[simp] theorem State.setSchedule_mrh (s : State) (x : List Order) : (s.setSchedule x).mrh = s.mrh := rfl
@[simp] theorem State.setSchedule_xsu (s : State) (x : List Order) : (s.setSchedule x).xsu = s.xsu := rfl
@[simp] theorem State.setSchedule_nvs (s : State) (x : List Order) : (s.setSchedule x).nvs = s.nvs := rfl
@[simp] theorem State.setSchedule_store (s : State) (x : List Order) : (s.setSchedule x).store = s.store := rfl
@[simp] theorem State.setSchedule_schedule (s : State) (x : List Order) : (s.setSchedule x).schedule = x := rfl
@[simp] theorem State.setSchedule_pending (s : State) (x : List Order) : (s.setSchedule x).pending = s.pending := rfl
@[simp] theorem State.setSchedule_setSchedule (s : State) (x y : List Order) :
    (s.setSchedule x).setSchedule y = s.setSchedule y := rfl
@[simp] theorem State.setSchedule_self (s : State) : s.setSchedule s.schedule = s := rfl

end Sys2Proof.Machine
end

