-- ==== Sys2Proof/Laws/Tab.lean ====
section
/-! SUPPORT. Reading a table after an update. -/

namespace Sys2Proof.Machine

variable {α β : Type} {n : Nat}

/-- An entry as an element of the list. -/
theorem Tab.get_eq_getElem (t : Tab α n) (i : Fin n) :
    t.get i = t.toList[i.val]'(by rw [t.size_eq]; exact i.isLt) := rfl

/-- The entry written is read back. -/
@[simp] theorem Tab.get_set_self (t : Tab α n) (i : Fin n) (a : α) : (t.set i a).get i = a := by
  simp only [Tab.get_eq_getElem, Tab.set, List.getElem_set_self]

/-- Writing one entry leaves every other. -/
theorem Tab.get_set_ne (t : Tab α n) {i j : Fin n} (a : α) (h : j ≠ i) :
    (t.set i a).get j = t.get j := by
  have hne : i.val ≠ j.val := fun e => h (Fin.ext e.symm)
  simp only [Tab.get_eq_getElem, Tab.set, List.getElem_set_ne hne]

/-- An entry after a write, by whether it is the one written. -/
theorem Tab.get_set (t : Tab α n) (i j : Fin n) (a : α) :
    (t.set i a).get j = if j = i then a else t.get j := by
  by_cases h : j = i
  · subst h; simp
  · simp [h, Tab.get_set_ne t a h]

/-- Every entry of a filled table is the filling. -/
@[simp] theorem Tab.get_fill (a : α) (i : Fin n) : (Tab.fill n a).get i = a := by
  simp only [Tab.get_eq_getElem, Tab.fill, List.getElem_replicate]

/-- An entry of a built table. -/
@[simp] theorem Tab.get_build (f : Fin n → α) (i : Fin n) : (Tab.build n f).get i = f i := by
  simp [Tab.get_eq_getElem, Tab.build]

/-- An entry of a table after a function of index and entry. -/
@[simp] theorem Tab.get_mapIdx (t : Tab α n) (f : Fin n → α → β) (i : Fin n) :
    (t.mapIdx f).get i = f i (t.get i) := by
  simp [Tab.mapIdx]

/-- Tables with equal entries are equal. -/
theorem Tab.ext_get {t u : Tab α n} (h : ∀ i, t.get i = u.get i) : t = u := by
  obtain ⟨l, hl⟩ := t
  obtain ⟨m, hm⟩ := u
  have : l = m := by
    apply List.ext_getElem (by omega)
    intro i h1 h2
    exact h ⟨i, by omega⟩
  subst this
  rfl

/-- An index is among those selected exactly when its entry passes the test. -/
@[simp] theorem Tab.mem_indices (t : Tab α n) (p : Fin n → α → Bool) (i : Fin n) :
    i ∈ t.indices p ↔ p i (t.get i) = true := by
  simp [Tab.indices]

/-- No index is selected twice. -/
theorem Tab.indices_nodup (t : Tab α n) (p : Fin n → α → Bool) : (t.indices p).Nodup :=
  (List.nodup_finRange n).filter _

/-- An index found has an entry that passes the test. -/
theorem Tab.find?_some {t : Tab α n} {p : Fin n → α → Bool} {i : Fin n} (h : t.find? p = some i) :
    p i (t.get i) = true := by
  simpa using List.find?_some h

end Sys2Proof.Machine
end

