-- ==== Sys2Proof/Laws/Shared.lean ====
section
/-! SUPPORT. What the operations shared by several blocks can change: a post and the arbiter change
the building link alone, a mark the store controller alone. -/

namespace Sys2Proof.Machine

/-! ## The arbiter -/

/-- What the arbiter leaves of the building link. -/
@[simp] theorem Bli.arbitrate_keeps (b : Bli) :
    b.arbitrate.own = b.own ∧ b.arbitrate.rx = b.rx ∧ b.arbitrate.frame = b.frame
      ∧ b.arbitrate.holding = b.holding ∧ b.arbitrate.takingOpen = b.takingOpen
      ∧ b.arbitrate.standings = b.standings ∧ b.arbitrate.halted = b.halted := by
  unfold Bli.arbitrate
  split
  · split
    · simp
    · split
      · simp
      · split <;> simp
  · simp

/-- While a message is being sent the arbiter does nothing (R165). -/
theorem Bli.arbitrate_sending {b : Bli} {m : OutMsg} (h : b.tx = .sending m) : b.arbitrate = b := by
  simp [Bli.arbitrate, h]

/-- A halted arbiter does nothing (R168). -/
theorem Bli.arbitrate_halted {b : Bli} (h : b.halted = true) : b.arbitrate = b := by
  simp [Bli.arbitrate, h]

/-- The arbiter's second turn in one event finds nothing to do. -/
@[simp] theorem Bli.arbitrate_twice (b : Bli) : b.arbitrate.arbitrate = b.arbitrate := by
  by_cases h : b.tx = .idle ∧ b.halted = false
  · cases hr : b.replySlot with
    | some m => simp [Bli.arbitrate, h, hr]
    | none =>
      cases hp : b.report with
      | some r => simp [Bli.arbitrate, h, hr, hp]
      | none => cases hb : b.board <;> simp [Bli.arbitrate, h, hr, hp, hb]
  · have : b.arbitrate = b := by simp only [Bli.arbitrate, if_neg h]
    rw [this, this]

/-! ## Placements, posts and the end of an event -/

/-- A placement changes the building link alone. -/
@[simp] theorem settlePlacement_frame (s : State) (b : Bli) :
    (s.settlePlacement b).pins = s.pins ∧ (s.settlePlacement b).flc = s.flc
      ∧ (s.settlePlacement b).tbu = s.tbu ∧ (s.settlePlacement b).cmu = s.cmu
      ∧ (s.settlePlacement b).dau = s.dau ∧ (s.settlePlacement b).zcu = s.zcu
      ∧ (s.settlePlacement b).cgu = s.cgu ∧ (s.settlePlacement b).mrh = s.mrh
      ∧ (s.settlePlacement b).xsu = s.xsu ∧ (s.settlePlacement b).nvs = s.nvs
      ∧ (s.settlePlacement b).store = s.store ∧ (s.settlePlacement b).schedule = s.schedule
      ∧ (s.settlePlacement b).pending = s.pending := by
  simp [State.settlePlacement]

/-- What a placement leaves of the building link placed. -/
@[simp] theorem settlePlacement_keeps (s : State) (b : Bli) :
    (s.settlePlacement b).bli.own = b.own ∧ (s.settlePlacement b).bli.rx = b.rx
      ∧ (s.settlePlacement b).bli.frame = b.frame ∧ (s.settlePlacement b).bli.holding = b.holding
      ∧ (s.settlePlacement b).bli.takingOpen = b.takingOpen
      ∧ (s.settlePlacement b).bli.standings = b.standings
      ∧ (s.settlePlacement b).bli.halted = b.halted := by
  unfold State.settlePlacement
  split <;> simp

/-- A post changes the building link alone (R162). -/
@[simp] theorem post_frame (n : Notice) (s : State) :
    (post n s).pins = s.pins ∧ (post n s).flc = s.flc ∧ (post n s).tbu = s.tbu
      ∧ (post n s).cmu = s.cmu ∧ (post n s).dau = s.dau ∧ (post n s).zcu = s.zcu
      ∧ (post n s).cgu = s.cgu ∧ (post n s).mrh = s.mrh ∧ (post n s).xsu = s.xsu
      ∧ (post n s).nvs = s.nvs ∧ (post n s).store = s.store
      ∧ (post n s).schedule = s.schedule ∧ (post n s).pending = s.pending := by
  simp [post]

/-- What a post leaves of the building link. -/
@[simp] theorem post_keeps (n : Notice) (s : State) :
    (post n s).bli.own = s.bli.own ∧ (post n s).bli.rx = s.bli.rx
      ∧ (post n s).bli.frame = s.bli.frame ∧ (post n s).bli.holding = s.bli.holding
      ∧ (post n s).bli.takingOpen = s.bli.takingOpen
      ∧ (post n s).bli.standings = s.bli.standings ∧ (post n s).bli.halted = s.bli.halted := by
  simp [post, State.posted]

/-- A list of posts changes the building link alone. -/
@[simp] theorem postAll_frame (ns : List Notice) (s : State) :
    (postAll ns s).pins = s.pins ∧ (postAll ns s).flc = s.flc ∧ (postAll ns s).tbu = s.tbu
      ∧ (postAll ns s).cmu = s.cmu ∧ (postAll ns s).dau = s.dau ∧ (postAll ns s).zcu = s.zcu
      ∧ (postAll ns s).cgu = s.cgu ∧ (postAll ns s).mrh = s.mrh ∧ (postAll ns s).xsu = s.xsu
      ∧ (postAll ns s).nvs = s.nvs ∧ (postAll ns s).store = s.store
      ∧ (postAll ns s).schedule = s.schedule ∧ (postAll ns s).pending = s.pending := by
  induction ns generalizing s with
  | nil => simp [postAll]
  | cons n ns ih => simpa [postAll] using ih (post n s)

/-- What a list of posts leaves of the building link. -/
@[simp] theorem postAll_keeps (ns : List Notice) (s : State) :
    (postAll ns s).bli.own = s.bli.own ∧ (postAll ns s).bli.rx = s.bli.rx
      ∧ (postAll ns s).bli.frame = s.bli.frame ∧ (postAll ns s).bli.holding = s.bli.holding
      ∧ (postAll ns s).bli.takingOpen = s.bli.takingOpen
      ∧ (postAll ns s).bli.standings = s.bli.standings
      ∧ (postAll ns s).bli.halted = s.bli.halted := by
  induction ns generalizing s with
  | nil => simp [postAll]
  | cons n ns ih => simpa [postAll] using ih (post n s)

/-- A post held to the end of the event changes the building link alone (R164, R202). -/
@[simp] theorem postHeld_frame (n : Notice) (s : State) :
    (postHeld n s).pins = s.pins ∧ (postHeld n s).flc = s.flc ∧ (postHeld n s).tbu = s.tbu
      ∧ (postHeld n s).cmu = s.cmu ∧ (postHeld n s).dau = s.dau ∧ (postHeld n s).zcu = s.zcu
      ∧ (postHeld n s).cgu = s.cgu ∧ (postHeld n s).mrh = s.mrh ∧ (postHeld n s).xsu = s.xsu
      ∧ (postHeld n s).nvs = s.nvs ∧ (postHeld n s).store = s.store
      ∧ (postHeld n s).schedule = s.schedule ∧ (postHeld n s).pending = s.pending := by
  simp [postHeld]

/-- What a held post leaves of the building link: all but the board. -/
@[simp] theorem postHeld_keeps (n : Notice) (s : State) :
    (postHeld n s).bli
      = { s.bli with board := boardPost s.tbu.active.bus.mask n s.bli.board } := by
  simp [postHeld, State.posted]

/-- A list of held posts changes the building link alone. -/
@[simp] theorem postAllHeld_frame (ns : List Notice) (s : State) :
    (postAllHeld ns s).pins = s.pins ∧ (postAllHeld ns s).flc = s.flc
      ∧ (postAllHeld ns s).tbu = s.tbu ∧ (postAllHeld ns s).cmu = s.cmu
      ∧ (postAllHeld ns s).dau = s.dau ∧ (postAllHeld ns s).zcu = s.zcu
      ∧ (postAllHeld ns s).cgu = s.cgu ∧ (postAllHeld ns s).mrh = s.mrh
      ∧ (postAllHeld ns s).xsu = s.xsu ∧ (postAllHeld ns s).nvs = s.nvs
      ∧ (postAllHeld ns s).store = s.store ∧ (postAllHeld ns s).schedule = s.schedule
      ∧ (postAllHeld ns s).pending = s.pending := by
  induction ns generalizing s with
  | nil => simp [postAllHeld]
  | cons n ns ih => simpa [postAllHeld] using ih (postHeld n s)

/-- What a list of held posts leaves of the building link: all but the board. -/
@[simp] theorem postAllHeld_keeps (ns : List Notice) (s : State) :
    (postAllHeld ns s).bli = { s.bli with board := (postAllHeld ns s).bli.board } := by
  induction ns generalizing s with
  | nil => simp [postAllHeld]
  | cons n ns ih => simpa [postAllHeld] using ih (postHeld n s)

/-! ## Work in steps -/

@[simp] theorem runSteps_nil (s : State) : runSteps [] s = s := rfl

@[simp] theorem runSteps_cons (f : State → State) (fs : List (State → State)) (s : State) :
    runSteps (f :: fs) s = runSteps fs (f s) := rfl

@[simp] theorem runSteps_append (fs gs : List (State → State)) (s : State) :
    runSteps (fs ++ gs) s = runSteps gs (runSteps fs s) := by
  simp [runSteps]

/-- A relation that every step keeps holds across the steps. -/
theorem runSteps_keeps (P : State → State → Prop) (refl : ∀ s, P s s)
    (trans : ∀ s t u, P s t → P t u → P s u) (steps : List (State → State))
    (each : ∀ f ∈ steps, ∀ s, P s (f s)) (s : State) : P s (runSteps steps s) := by
  induction steps generalizing s with
  | nil => exact refl s
  | cons f fs ih =>
    exact trans _ _ _ (each f (by simp) s) (ih (fun g hg => each g (by simp [hg])) (f s))

/-! ## The end of an event -/

/-- The end of an event changes the building link and uses up a schedule entry. -/
@[simp] theorem finish_frame (s : State) :
    (finish s).pins = s.pins ∧ (finish s).flc = s.flc ∧ (finish s).tbu = s.tbu
      ∧ (finish s).cmu = s.cmu ∧ (finish s).dau = s.dau ∧ (finish s).zcu = s.zcu
      ∧ (finish s).cgu = s.cgu ∧ (finish s).mrh = s.mrh ∧ (finish s).xsu = s.xsu
      ∧ (finish s).nvs = s.nvs ∧ (finish s).store = s.store ∧ (finish s).pending = s.pending := by
  simp [finish]

/-- The building link and the schedule at the end of an event. -/
@[simp] theorem finish_bli (s : State) : (finish s).bli = s.bli.arbitrate := rfl

@[simp] theorem finish_schedule (s : State) : (finish s).schedule = s.schedule.tail := rfl

/-! ## Work for the store -/

/-- The store controller's choice of work changes its own state alone (R195). -/
@[simp] theorem serveStore_frame (s : State) :
    (serveStore s).pins = s.pins ∧ (serveStore s).flc = s.flc ∧ (serveStore s).tbu = s.tbu
      ∧ (serveStore s).cmu = s.cmu ∧ (serveStore s).dau = s.dau ∧ (serveStore s).zcu = s.zcu
      ∧ (serveStore s).cgu = s.cgu ∧ (serveStore s).bli = s.bli ∧ (serveStore s).mrh = s.mrh
      ∧ (serveStore s).xsu = s.xsu ∧ (serveStore s).store = s.store
      ∧ (serveStore s).schedule = s.schedule ∧ (serveStore s).pending = s.pending := by
  unfold serveStore
  split
  · split
    · simp
    · split <;> simp
  · simp

/-- A mark changes the store controller alone (R196). -/
@[simp] theorem markAccount_frame (a : Fin 64) (s : State) :
    (markAccount a s).pins = s.pins ∧ (markAccount a s).flc = s.flc
      ∧ (markAccount a s).tbu = s.tbu ∧ (markAccount a s).cmu = s.cmu
      ∧ (markAccount a s).dau = s.dau ∧ (markAccount a s).zcu = s.zcu
      ∧ (markAccount a s).cgu = s.cgu ∧ (markAccount a s).bli = s.bli
      ∧ (markAccount a s).mrh = s.mrh ∧ (markAccount a s).xsu = s.xsu
      ∧ (markAccount a s).store = s.store ∧ (markAccount a s).schedule = s.schedule
      ∧ (markAccount a s).pending = s.pending := by
  unfold markAccount
  split <;> simp

/-- Marks change the store controller alone (R196). -/
@[simp] theorem markAccounts_frame (as : List (Fin 64)) (s : State) :
    (markAccounts as s).pins = s.pins ∧ (markAccounts as s).flc = s.flc
      ∧ (markAccounts as s).tbu = s.tbu ∧ (markAccounts as s).cmu = s.cmu
      ∧ (markAccounts as s).dau = s.dau ∧ (markAccounts as s).zcu = s.zcu
      ∧ (markAccounts as s).cgu = s.cgu ∧ (markAccounts as s).bli = s.bli
      ∧ (markAccounts as s).mrh = s.mrh ∧ (markAccounts as s).xsu = s.xsu
      ∧ (markAccounts as s).store = s.store ∧ (markAccounts as s).schedule = s.schedule
      ∧ (markAccounts as s).pending = s.pending := by
  induction as generalizing s with
  | nil => simp [markAccounts]
  | cons a as ih => simpa [markAccounts] using ih (markAccount a s)

/-- A configuration request changes the store controller, the commit state, and posts (R47). -/
@[simp] theorem requestConfigWrite_frame (s : State) :
    (requestConfigWrite s).pins = s.pins ∧ (requestConfigWrite s).flc = s.flc
      ∧ (requestConfigWrite s).cmu = s.cmu ∧ (requestConfigWrite s).dau = s.dau
      ∧ (requestConfigWrite s).zcu = s.zcu ∧ (requestConfigWrite s).cgu = s.cgu
      ∧ (requestConfigWrite s).mrh = s.mrh ∧ (requestConfigWrite s).xsu = s.xsu
      ∧ (requestConfigWrite s).store = s.store
      ∧ (requestConfigWrite s).schedule = s.schedule
      ∧ (requestConfigWrite s).pending = s.pending := by
  unfold requestConfigWrite
  split <;> simp

/-- A configuration request leaves the tables and the swap cycle (R47). -/
@[simp] theorem requestConfigWrite_tables (s : State) :
    (requestConfigWrite s).tbu.active = s.tbu.active
      ∧ (requestConfigWrite s).tbu.staged = s.tbu.staged
      ∧ (requestConfigWrite s).tbu.swapCycle = s.tbu.swapCycle := by
  unfold requestConfigWrite
  split <;> simp

end Sys2Proof.Machine
end

