-- ==== Sys2Proof/Laws/Frames.lean ====
section
/-! SUPPORT. What each block's work can change: for each operation, the fields of State that it leaves
as they are. -/

namespace Sys2Proof.Machine

open Sys2Proof

/-! ## Work over lists -/

/-- A property that every step of a fold keeps holds after it. -/
theorem foldl_keeps {α : Type} (P : State → State → Prop) (f : State → α → State)
    (refl : ∀ s, P s s) (trans : ∀ s t u, P s t → P t u → P s u) (step : ∀ s a, P s (f s a))
    (l : List α) (s : State) : P s (l.foldl f s) := by
  induction l generalizing s with
  | nil => exact refl s
  | cons a l ih => exact trans _ _ _ (step s a) (ih (f s a))

/-! ## Statistics -/

/-- Counting an excursion (R187). -/
@[simp] theorem countExcursion_frame (z : Fin 16) (q : CondQ) (s : State) :
    (countExcursion z q s).pins = s.pins ∧ (countExcursion z q s).flc = s.flc
      ∧ (countExcursion z q s).tbu = s.tbu ∧ (countExcursion z q s).cmu = s.cmu
      ∧ (countExcursion z q s).dau = s.dau ∧ (countExcursion z q s).zcu = s.zcu
      ∧ (countExcursion z q s).cgu = s.cgu ∧ (countExcursion z q s).mrh = s.mrh
      ∧ (countExcursion z q s).nvs = s.nvs ∧ (countExcursion z q s).store = s.store
      ∧ (countExcursion z q s).schedule = s.schedule
      ∧ (countExcursion z q s).pending = s.pending := by
  simp only [countExcursion]
  split
  · split <;> simp
  · simp

/-- A change report (R185). -/
@[simp] theorem changeReport_frame (z : Fin 16) (q : CondQ) (e : ZoneCond) (s : State) :
    (changeReport z q e s).pins = s.pins ∧ (changeReport z q e s).flc = s.flc
      ∧ (changeReport z q e s).tbu = s.tbu ∧ (changeReport z q e s).cmu = s.cmu
      ∧ (changeReport z q e s).dau = s.dau ∧ (changeReport z q e s).zcu = s.zcu
      ∧ (changeReport z q e s).cgu = s.cgu ∧ (changeReport z q e s).mrh = s.mrh
      ∧ (changeReport z q e s).nvs = s.nvs ∧ (changeReport z q e s).store = s.store
      ∧ (changeReport z q e s).schedule = s.schedule
      ∧ (changeReport z q e s).pending = s.pending := by
  simp only [changeReport]
  split
  · split <;> simp
  · split
    · simp
    · split
      · simp
      · split <;> simp

/-- The XSU's close work (R186). -/
@[simp] theorem xsuClose_frame (t : Tables) (s : State) :
    (xsuClose t s).pins = s.pins ∧ (xsuClose t s).flc = s.flc ∧ (xsuClose t s).tbu = s.tbu
      ∧ (xsuClose t s).cmu = s.cmu ∧ (xsuClose t s).dau = s.dau ∧ (xsuClose t s).zcu = s.zcu
      ∧ (xsuClose t s).cgu = s.cgu ∧ (xsuClose t s).bli = s.bli ∧ (xsuClose t s).mrh = s.mrh
      ∧ (xsuClose t s).nvs = s.nvs ∧ (xsuClose t s).store = s.store
      ∧ (xsuClose t s).schedule = s.schedule ∧ (xsuClose t s).pending = s.pending := by
  simp [xsuClose]

/-- The XSU's swap work (R191). -/
@[simp] theorem xsuSwap_frame (o n : Tables) (s : State) :
    (xsuSwap o n s).pins = s.pins ∧ (xsuSwap o n s).flc = s.flc
      ∧ (xsuSwap o n s).tbu = s.tbu ∧ (xsuSwap o n s).cmu = s.cmu
      ∧ (xsuSwap o n s).dau = s.dau ∧ (xsuSwap o n s).zcu = s.zcu
      ∧ (xsuSwap o n s).cgu = s.cgu ∧ (xsuSwap o n s).bli = s.bli
      ∧ (xsuSwap o n s).mrh = s.mrh ∧ (xsuSwap o n s).nvs = s.nvs
      ∧ (xsuSwap o n s).store = s.store ∧ (xsuSwap o n s).schedule = s.schedule
      ∧ (xsuSwap o n s).pending = s.pending := by
  simp [xsuSwap]

/-! ## Ceilings -/

/-- A recomputation (R117). -/
@[simp] theorem recompute_frame (t : Tables) (z : Fin 16) (s : State) :
    (recompute t z s).pins = s.pins ∧ (recompute t z s).flc = s.flc
      ∧ (recompute t z s).tbu = s.tbu ∧ (recompute t z s).cmu = s.cmu
      ∧ (recompute t z s).dau = s.dau ∧ (recompute t z s).cgu = s.cgu
      ∧ (recompute t z s).mrh = s.mrh ∧ (recompute t z s).xsu = s.xsu
      ∧ (recompute t z s).nvs = s.nvs ∧ (recompute t z s).store = s.store
      ∧ (recompute t z s).schedule = s.schedule ∧ (recompute t z s).pending = s.pending := by
  simp only [recompute]
  split
  · split <;> simp
  · simp

/-- Recomputations of a list of zones. -/
@[simp] theorem recomputeFold_frame (t : Tables) (l : List (Fin 16)) (s : State) :
    (l.foldl (fun s z => recompute t z s) s).pins = s.pins
      ∧ (l.foldl (fun s z => recompute t z s) s).flc = s.flc
      ∧ (l.foldl (fun s z => recompute t z s) s).tbu = s.tbu
      ∧ (l.foldl (fun s z => recompute t z s) s).cmu = s.cmu
      ∧ (l.foldl (fun s z => recompute t z s) s).dau = s.dau
      ∧ (l.foldl (fun s z => recompute t z s) s).cgu = s.cgu
      ∧ (l.foldl (fun s z => recompute t z s) s).mrh = s.mrh
      ∧ (l.foldl (fun s z => recompute t z s) s).xsu = s.xsu
      ∧ (l.foldl (fun s z => recompute t z s) s).nvs = s.nvs
      ∧ (l.foldl (fun s z => recompute t z s) s).store = s.store
      ∧ (l.foldl (fun s z => recompute t z s) s).schedule = s.schedule
      ∧ (l.foldl (fun s z => recompute t z s) s).pending = s.pending := by
  induction l generalizing s with
  | nil => simp
  | cons z l ih => simpa using ih (recompute t z s)

/-- Every recomputation (R120). -/
@[simp] theorem recomputeAll_frame (t : Tables) (s : State) :
    (recomputeAll t s).pins = s.pins ∧ (recomputeAll t s).flc = s.flc
      ∧ (recomputeAll t s).tbu = s.tbu ∧ (recomputeAll t s).cmu = s.cmu
      ∧ (recomputeAll t s).dau = s.dau ∧ (recomputeAll t s).cgu = s.cgu
      ∧ (recomputeAll t s).mrh = s.mrh ∧ (recomputeAll t s).xsu = s.xsu
      ∧ (recomputeAll t s).nvs = s.nvs ∧ (recomputeAll t s).store = s.store
      ∧ (recomputeAll t s).schedule = s.schedule ∧ (recomputeAll t s).pending = s.pending := by
  simp [recomputeAll]

/-- A presence sample (R109). -/
@[simp] theorem presenceSample_frame (k : Fin 48) (z : Fin 16) (v : Bool) (s : State) :
    (presenceSample k z v s).pins = s.pins ∧ (presenceSample k z v s).flc = s.flc
      ∧ (presenceSample k z v s).tbu = s.tbu ∧ (presenceSample k z v s).cmu = s.cmu
      ∧ (presenceSample k z v s).dau = s.dau ∧ (presenceSample k z v s).cgu = s.cgu
      ∧ (presenceSample k z v s).mrh = s.mrh ∧ (presenceSample k z v s).xsu = s.xsu
      ∧ (presenceSample k z v s).nvs = s.nvs ∧ (presenceSample k z v s).store = s.store
      ∧ (presenceSample k z v s).schedule = s.schedule
      ∧ (presenceSample k z v s).pending = s.pending := by
  simp only [presenceSample]
  split
  · simp
  · split <;> simp

/-- Votes combined and holds counted down (R110, R114). -/
@[simp] theorem combineZones_frame (t : Tables) (s : State) :
    (combineZones t s).pins = s.pins ∧ (combineZones t s).flc = s.flc
      ∧ (combineZones t s).tbu = s.tbu ∧ (combineZones t s).cmu = s.cmu
      ∧ (combineZones t s).dau = s.dau ∧ (combineZones t s).cgu = s.cgu
      ∧ (combineZones t s).bli = s.bli ∧ (combineZones t s).mrh = s.mrh
      ∧ (combineZones t s).xsu = s.xsu ∧ (combineZones t s).nvs = s.nvs
      ∧ (combineZones t s).store = s.store ∧ (combineZones t s).schedule = s.schedule
      ∧ (combineZones t s).pending = s.pending := by
  simp [combineZones]

/-- The ZCU's matching (R119). -/
@[simp] theorem zcuMatch_frame (o n : Tables) (s : State) :
    (zcuMatch o n s).pins = s.pins ∧ (zcuMatch o n s).flc = s.flc
      ∧ (zcuMatch o n s).tbu = s.tbu ∧ (zcuMatch o n s).cmu = s.cmu
      ∧ (zcuMatch o n s).dau = s.dau ∧ (zcuMatch o n s).cgu = s.cgu
      ∧ (zcuMatch o n s).bli = s.bli ∧ (zcuMatch o n s).mrh = s.mrh
      ∧ (zcuMatch o n s).xsu = s.xsu ∧ (zcuMatch o n s).nvs = s.nvs
      ∧ (zcuMatch o n s).store = s.store ∧ (zcuMatch o n s).schedule = s.schedule
      ∧ (zcuMatch o n s).pending = s.pending := by
  simp [zcuMatch]

/-- A hold (R112, R113). -/
@[simp] theorem setHold_frame (z : Fin 16) (h : Option Nat) (s : State) :
    (setHold z h s).pins = s.pins ∧ (setHold z h s).flc = s.flc
      ∧ (setHold z h s).tbu = s.tbu ∧ (setHold z h s).cmu = s.cmu
      ∧ (setHold z h s).dau = s.dau ∧ (setHold z h s).cgu = s.cgu
      ∧ (setHold z h s).mrh = s.mrh ∧ (setHold z h s).xsu = s.xsu
      ∧ (setHold z h s).nvs = s.nvs ∧ (setHold z h s).store = s.store
      ∧ (setHold z h s).schedule = s.schedule ∧ (setHold z h s).pending = s.pending := by
  simp [setHold]

/-! ## Accounts -/

/-- An account's record written. -/
@[simp] theorem storeAccount_frame (a : Fin 64) (r : AccountDyn) (s : State) :
    (storeAccount a r s).pins = s.pins ∧ (storeAccount a r s).flc = s.flc
      ∧ (storeAccount a r s).tbu = s.tbu ∧ (storeAccount a r s).cmu = s.cmu
      ∧ (storeAccount a r s).zcu = s.zcu ∧ (storeAccount a r s).cgu = s.cgu
      ∧ (storeAccount a r s).bli = s.bli ∧ (storeAccount a r s).mrh = s.mrh
      ∧ (storeAccount a r s).xsu = s.xsu ∧ (storeAccount a r s).nvs = s.nvs
      ∧ (storeAccount a r s).store = s.store ∧ (storeAccount a r s).schedule = s.schedule
      ∧ (storeAccount a r s).pending = s.pending := by
  simp [storeAccount]

/-- An account's change of state made known to the ZCU (R86). -/
@[simp] theorem tellZone_frame (t : Tables) (a : Fin 64) (w : AccountState) (s : State) :
    (tellZone t a w s).pins = s.pins ∧ (tellZone t a w s).flc = s.flc
      ∧ (tellZone t a w s).tbu = s.tbu ∧ (tellZone t a w s).cmu = s.cmu
      ∧ (tellZone t a w s).dau = s.dau ∧ (tellZone t a w s).cgu = s.cgu
      ∧ (tellZone t a w s).mrh = s.mrh ∧ (tellZone t a w s).xsu = s.xsu
      ∧ (tellZone t a w s).nvs = s.nvs ∧ (tellZone t a w s).store = s.store
      ∧ (tellZone t a w s).schedule = s.schedule ∧ (tellZone t a w s).pending = s.pending := by
  simp only [tellZone]
  split
  · simp
  · split <;> simp

/-- An account's change of state posted (R86). -/
@[simp] theorem tellState_frame (a : Fin 64) (w : AccountState) (s : State) :
    (tellState a w s).pins = s.pins ∧ (tellState a w s).flc = s.flc
      ∧ (tellState a w s).tbu = s.tbu ∧ (tellState a w s).cmu = s.cmu
      ∧ (tellState a w s).dau = s.dau ∧ (tellState a w s).zcu = s.zcu
      ∧ (tellState a w s).cgu = s.cgu ∧ (tellState a w s).mrh = s.mrh
      ∧ (tellState a w s).xsu = s.xsu ∧ (tellState a w s).nvs = s.nvs
      ∧ (tellState a w s).store = s.store ∧ (tellState a w s).schedule = s.schedule
      ∧ (tellState a w s).pending = s.pending := by
  simp only [tellState]
  split <;> simp

/-- An account replaced (R86). -/
@[simp] theorem putAccount_frame (t : Tables) (b : Bool) (a : Fin 64) (r : AccountDyn) (s : State) :
    (putAccount t b a r s).pins = s.pins ∧ (putAccount t b a r s).flc = s.flc
      ∧ (putAccount t b a r s).tbu = s.tbu ∧ (putAccount t b a r s).cmu = s.cmu
      ∧ (putAccount t b a r s).cgu = s.cgu ∧ (putAccount t b a r s).mrh = s.mrh
      ∧ (putAccount t b a r s).xsu = s.xsu ∧ (putAccount t b a r s).nvs = s.nvs
      ∧ (putAccount t b a r s).store = s.store ∧ (putAccount t b a r s).schedule = s.schedule
      ∧ (putAccount t b a r s).pending = s.pending := by
  simp only [putAccount]
  split <;> simp

/-- The date watch (R91). -/
@[simp] theorem watchClose_frame (t : Tables) (s : State) :
    (watchClose t s).pins = s.pins ∧ (watchClose t s).flc = s.flc
      ∧ (watchClose t s).tbu = s.tbu ∧ (watchClose t s).cmu = s.cmu
      ∧ (watchClose t s).zcu = s.zcu ∧ (watchClose t s).cgu = s.cgu
      ∧ (watchClose t s).mrh = s.mrh ∧ (watchClose t s).xsu = s.xsu
      ∧ (watchClose t s).nvs = s.nvs ∧ (watchClose t s).store = s.store
      ∧ (watchClose t s).schedule = s.schedule ∧ (watchClose t s).pending = s.pending := by
  simp only [watchClose]
  split <;> simp

/-- The checkpoint (R100). -/
@[simp] theorem checkpointClose_frame (t : Tables) (s : State) :
    (checkpointClose t s).pins = s.pins ∧ (checkpointClose t s).flc = s.flc
      ∧ (checkpointClose t s).tbu = s.tbu ∧ (checkpointClose t s).cmu = s.cmu
      ∧ (checkpointClose t s).zcu = s.zcu ∧ (checkpointClose t s).cgu = s.cgu
      ∧ (checkpointClose t s).bli = s.bli ∧ (checkpointClose t s).mrh = s.mrh
      ∧ (checkpointClose t s).xsu = s.xsu ∧ (checkpointClose t s).store = s.store
      ∧ (checkpointClose t s).schedule = s.schedule
      ∧ (checkpointClose t s).pending = s.pending := by
  simp only [checkpointClose]
  split <;> simp

/-- A rollover of one account (R88). -/
@[simp] theorem rollAccount_frame (t : Tables) (b : Bool) (a : Fin 64) (s : State) :
    (rollAccount t b a s).pins = s.pins ∧ (rollAccount t b a s).flc = s.flc
      ∧ (rollAccount t b a s).tbu = s.tbu ∧ (rollAccount t b a s).cmu = s.cmu
      ∧ (rollAccount t b a s).cgu = s.cgu ∧ (rollAccount t b a s).mrh = s.mrh
      ∧ (rollAccount t b a s).xsu = s.xsu ∧ (rollAccount t b a s).store = s.store
      ∧ (rollAccount t b a s).schedule = s.schedule
      ∧ (rollAccount t b a s).pending = s.pending := by
  simp [rollAccount]

/-- A rollover of a list of accounts. -/
@[simp] theorem rollFold_frame (t : Tables) (b : Bool) (l : List (Fin 64)) (s : State) :
    (l.foldl (fun s a => rollAccount t b a s) s).pins = s.pins
      ∧ (l.foldl (fun s a => rollAccount t b a s) s).flc = s.flc
      ∧ (l.foldl (fun s a => rollAccount t b a s) s).tbu = s.tbu
      ∧ (l.foldl (fun s a => rollAccount t b a s) s).cmu = s.cmu
      ∧ (l.foldl (fun s a => rollAccount t b a s) s).cgu = s.cgu
      ∧ (l.foldl (fun s a => rollAccount t b a s) s).mrh = s.mrh
      ∧ (l.foldl (fun s a => rollAccount t b a s) s).xsu = s.xsu
      ∧ (l.foldl (fun s a => rollAccount t b a s) s).store = s.store
      ∧ (l.foldl (fun s a => rollAccount t b a s) s).schedule = s.schedule
      ∧ (l.foldl (fun s a => rollAccount t b a s) s).pending = s.pending := by
  induction l generalizing s with
  | nil => simp
  | cons a l ih => simpa using ih (rollAccount t b a s)

/-- A rollover (R88, R89). -/
@[simp] theorem rollover_frame (d : Date) (b : Bool) (s : State) :
    (rollover d b s).pins = s.pins ∧ (rollover d b s).flc = s.flc
      ∧ (rollover d b s).tbu = s.tbu ∧ (rollover d b s).cmu = s.cmu
      ∧ (rollover d b s).cgu = s.cgu ∧ (rollover d b s).mrh = s.mrh
      ∧ (rollover d b s).xsu = s.xsu ∧ (rollover d b s).store = s.store
      ∧ (rollover d b s).schedule = s.schedule ∧ (rollover d b s).pending = s.pending := by
  simp [rollover]

/-- A TIME date (R87). -/
@[simp] theorem takeDate_frame (d : Date) (s : State) :
    (takeDate d s).pins = s.pins ∧ (takeDate d s).flc = s.flc ∧ (takeDate d s).tbu = s.tbu
      ∧ (takeDate d s).cmu = s.cmu ∧ (takeDate d s).cgu = s.cgu ∧ (takeDate d s).mrh = s.mrh
      ∧ (takeDate d s).xsu = s.xsu ∧ (takeDate d s).store = s.store
      ∧ (takeDate d s).schedule = s.schedule ∧ (takeDate d s).pending = s.pending := by
  simp only [takeDate]
  split
  · simp [acceptTime]
  · split
    · simp [acceptTime]
    · split <;> simp [acceptTime]

/-- A grant (R95). -/
@[simp] theorem grantAccount_frame (a : Fin 64) (i : Fin 4) (n : Nat) (s : State) :
    (grantAccount a i n s).pins = s.pins ∧ (grantAccount a i n s).flc = s.flc
      ∧ (grantAccount a i n s).tbu = s.tbu ∧ (grantAccount a i n s).cmu = s.cmu
      ∧ (grantAccount a i n s).cgu = s.cgu ∧ (grantAccount a i n s).mrh = s.mrh
      ∧ (grantAccount a i n s).xsu = s.xsu ∧ (grantAccount a i n s).store = s.store
      ∧ (grantAccount a i n s).schedule = s.schedule
      ∧ (grantAccount a i n s).pending = s.pending := by
  simp [grantAccount]

/-- An account changed by a request (R92). -/
@[simp] theorem changeAccount_frame (a : Fin 64) (r : AccountDyn) (s : State) :
    (changeAccount a r s).pins = s.pins ∧ (changeAccount a r s).flc = s.flc
      ∧ (changeAccount a r s).tbu = s.tbu ∧ (changeAccount a r s).cmu = s.cmu
      ∧ (changeAccount a r s).cgu = s.cgu ∧ (changeAccount a r s).mrh = s.mrh
      ∧ (changeAccount a r s).xsu = s.xsu ∧ (changeAccount a r s).store = s.store
      ∧ (changeAccount a r s).schedule = s.schedule
      ∧ (changeAccount a r s).pending = s.pending := by
  simp [changeAccount]

/-- SUSPEND (R97). -/
@[simp] theorem suspend_frame (a : Fin 64) (s : State) :
    (suspend a s).pins = s.pins ∧ (suspend a s).flc = s.flc ∧ (suspend a s).tbu = s.tbu
      ∧ (suspend a s).cmu = s.cmu ∧ (suspend a s).cgu = s.cgu ∧ (suspend a s).mrh = s.mrh
      ∧ (suspend a s).xsu = s.xsu ∧ (suspend a s).store = s.store
      ∧ (suspend a s).schedule = s.schedule ∧ (suspend a s).pending = s.pending := by
  simp only [suspend]
  split <;> simp

/-- RESUME (R98). -/
@[simp] theorem resume_frame (a : Fin 64) (s : State) :
    (resume a s).pins = s.pins ∧ (resume a s).flc = s.flc ∧ (resume a s).tbu = s.tbu
      ∧ (resume a s).cmu = s.cmu ∧ (resume a s).cgu = s.cgu ∧ (resume a s).mrh = s.mrh
      ∧ (resume a s).xsu = s.xsu ∧ (resume a s).store = s.store
      ∧ (resume a s).schedule = s.schedule ∧ (resume a s).pending = s.pending := by
  simp only [resume]
  split <;> simp

/-- SEED (R99). -/
@[simp] theorem seed_frame (a : Fin 64) (v : Nat) (s : State) :
    (seed a v s).pins = s.pins ∧ (seed a v s).flc = s.flc ∧ (seed a v s).tbu = s.tbu
      ∧ (seed a v s).cmu = s.cmu ∧ (seed a v s).cgu = s.cgu ∧ (seed a v s).mrh = s.mrh
      ∧ (seed a v s).xsu = s.xsu ∧ (seed a v s).store = s.store
      ∧ (seed a v s).schedule = s.schedule ∧ (seed a v s).pending = s.pending := by
  simp [seed]

/-- One account at a swap (R104). -/
@[simp] theorem swapAccount_frame (x y : Tables) (a : Fin 64) (s : State) :
    (swapAccount x y a s).pins = s.pins ∧ (swapAccount x y a s).flc = s.flc
      ∧ (swapAccount x y a s).tbu = s.tbu ∧ (swapAccount x y a s).cmu = s.cmu
      ∧ (swapAccount x y a s).cgu = s.cgu ∧ (swapAccount x y a s).mrh = s.mrh
      ∧ (swapAccount x y a s).xsu = s.xsu ∧ (swapAccount x y a s).store = s.store
      ∧ (swapAccount x y a s).schedule = s.schedule
      ∧ (swapAccount x y a s).pending = s.pending := by
  simp only [swapAccount]
  split <;> simp

/-- A list of accounts at a swap. -/
@[simp] theorem swapAccountFold_frame (x y : Tables) (l : List (Fin 64)) (s : State) :
    (l.foldl (fun s a => swapAccount x y a s) s).pins = s.pins
      ∧ (l.foldl (fun s a => swapAccount x y a s) s).flc = s.flc
      ∧ (l.foldl (fun s a => swapAccount x y a s) s).tbu = s.tbu
      ∧ (l.foldl (fun s a => swapAccount x y a s) s).cmu = s.cmu
      ∧ (l.foldl (fun s a => swapAccount x y a s) s).cgu = s.cgu
      ∧ (l.foldl (fun s a => swapAccount x y a s) s).mrh = s.mrh
      ∧ (l.foldl (fun s a => swapAccount x y a s) s).xsu = s.xsu
      ∧ (l.foldl (fun s a => swapAccount x y a s) s).store = s.store
      ∧ (l.foldl (fun s a => swapAccount x y a s) s).schedule = s.schedule
      ∧ (l.foldl (fun s a => swapAccount x y a s) s).pending = s.pending := by
  induction l generalizing s with
  | nil => simp
  | cons a l ih => simpa using ih (swapAccount x y a s)

/-- The DAU's swap work (R104, R105). -/
@[simp] theorem dauSwap_frame (x y : Tables) (s : State) :
    (dauSwap x y s).pins = s.pins ∧ (dauSwap x y s).flc = s.flc
      ∧ (dauSwap x y s).tbu = s.tbu ∧ (dauSwap x y s).cmu = s.cmu
      ∧ (dauSwap x y s).cgu = s.cgu ∧ (dauSwap x y s).mrh = s.mrh
      ∧ (dauSwap x y s).xsu = s.xsu ∧ (dauSwap x y s).store = s.store
      ∧ (dauSwap x y s).schedule = s.schedule ∧ (dauSwap x y s).pending = s.pending := by
  simp [dauSwap]

/-- A candidate (R81). -/
@[simp] theorem peakCandidate_frame (a : Fin 64) (v : Nat) (s : State) :
    (peakCandidate a v s).pins = s.pins ∧ (peakCandidate a v s).flc = s.flc
      ∧ (peakCandidate a v s).tbu = s.tbu ∧ (peakCandidate a v s).cmu = s.cmu
      ∧ (peakCandidate a v s).zcu = s.zcu ∧ (peakCandidate a v s).cgu = s.cgu
      ∧ (peakCandidate a v s).bli = s.bli ∧ (peakCandidate a v s).mrh = s.mrh
      ∧ (peakCandidate a v s).xsu = s.xsu ∧ (peakCandidate a v s).nvs = s.nvs
      ∧ (peakCandidate a v s).store = s.store ∧ (peakCandidate a v s).schedule = s.schedule
      ∧ (peakCandidate a v s).pending = s.pending := by
  simp only [peakCandidate]
  split <;> simp

/-! ## Conditions -/

/-- A ZONE_CONDITION post (R72). -/
@[simp] theorem postCondition_frame (t : Tables) (z : Fin 16) (q : CondQ) (e : ZoneCond) (s : State) :
    (postCondition t z q e s).pins = s.pins ∧ (postCondition t z q e s).flc = s.flc
      ∧ (postCondition t z q e s).tbu = s.tbu ∧ (postCondition t z q e s).cmu = s.cmu
      ∧ (postCondition t z q e s).dau = s.dau ∧ (postCondition t z q e s).zcu = s.zcu
      ∧ (postCondition t z q e s).cgu = s.cgu ∧ (postCondition t z q e s).mrh = s.mrh
      ∧ (postCondition t z q e s).xsu = s.xsu ∧ (postCondition t z q e s).nvs = s.nvs
      ∧ (postCondition t z q e s).store = s.store
      ∧ (postCondition t z q e s).schedule = s.schedule
      ∧ (postCondition t z q e s).pending = s.pending := by
  simp only [postCondition]
  split <;> simp

/-- A change made known to the XSU. -/
@[simp] theorem reportCondition_frame (z : Fin 16) (q : CondQ) (a b : ZoneCond) (s : State) :
    (reportCondition z q a b s).pins = s.pins ∧ (reportCondition z q a b s).flc = s.flc
      ∧ (reportCondition z q a b s).tbu = s.tbu ∧ (reportCondition z q a b s).cmu = s.cmu
      ∧ (reportCondition z q a b s).dau = s.dau ∧ (reportCondition z q a b s).zcu = s.zcu
      ∧ (reportCondition z q a b s).cgu = s.cgu ∧ (reportCondition z q a b s).mrh = s.mrh
      ∧ (reportCondition z q a b s).nvs = s.nvs
      ∧ (reportCondition z q a b s).store = s.store
      ∧ (reportCondition z q a b s).schedule = s.schedule
      ∧ (reportCondition z q a b s).pending = s.pending := by
  simp only [reportCondition]
  split <;> simp

/-- A zone entry set (R73). -/
@[simp] theorem setEntry_frame (t : Tables) (z : Fin 16) (q : CondQ) (e : ZoneCond) (s : State) :
    (setEntry t z q e s).pins = s.pins ∧ (setEntry t z q e s).flc = s.flc
      ∧ (setEntry t z q e s).tbu = s.tbu ∧ (setEntry t z q e s).dau = s.dau
      ∧ (setEntry t z q e s).zcu = s.zcu ∧ (setEntry t z q e s).cgu = s.cgu
      ∧ (setEntry t z q e s).bli = s.bli ∧ (setEntry t z q e s).mrh = s.mrh
      ∧ (setEntry t z q e s).xsu = s.xsu ∧ (setEntry t z q e s).nvs = s.nvs
      ∧ (setEntry t z q e s).store = s.store ∧ (setEntry t z q e s).schedule = s.schedule
      ∧ (setEntry t z q e s).pending = s.pending := by
  simp [setEntry]

/-- A zone entry changed. -/
@[simp] theorem changeEntry_frame (t : Tables) (z : Fin 16) (q : CondQ) (a b : ZoneCond) (s : State) :
    (changeEntry t z q a b s).pins = s.pins ∧ (changeEntry t z q a b s).flc = s.flc
      ∧ (changeEntry t z q a b s).tbu = s.tbu ∧ (changeEntry t z q a b s).dau = s.dau
      ∧ (changeEntry t z q a b s).zcu = s.zcu ∧ (changeEntry t z q a b s).cgu = s.cgu
      ∧ (changeEntry t z q a b s).bli = s.bli ∧ (changeEntry t z q a b s).mrh = s.mrh
      ∧ (changeEntry t z q a b s).xsu = s.xsu ∧ (changeEntry t z q a b s).nvs = s.nvs
      ∧ (changeEntry t z q a b s).store = s.store
      ∧ (changeEntry t z q a b s).schedule = s.schedule
      ∧ (changeEntry t z q a b s).pending = s.pending := by
  simp only [changeEntry]
  split <;> simp

/-- A change made known to the XSU. -/
@[simp] theorem tellStatistics_frame (z : Fin 16) (q : CondQ) (a : ZoneCond) (s : State) :
    (tellStatistics z q a s).pins = s.pins ∧ (tellStatistics z q a s).flc = s.flc
      ∧ (tellStatistics z q a s).tbu = s.tbu ∧ (tellStatistics z q a s).cmu = s.cmu
      ∧ (tellStatistics z q a s).dau = s.dau ∧ (tellStatistics z q a s).zcu = s.zcu
      ∧ (tellStatistics z q a s).cgu = s.cgu ∧ (tellStatistics z q a s).mrh = s.mrh
      ∧ (tellStatistics z q a s).nvs = s.nvs ∧ (tellStatistics z q a s).store = s.store
      ∧ (tellStatistics z q a s).schedule = s.schedule
      ∧ (tellStatistics z q a s).pending = s.pending := by
  simp [tellStatistics]

/-- A change posted (R72). -/
@[simp] theorem tellBoard_frame (t : Tables) (z : Fin 16) (q : CondQ) (a : ZoneCond) (s : State) :
    (tellBoard t z q a s).pins = s.pins ∧ (tellBoard t z q a s).flc = s.flc
      ∧ (tellBoard t z q a s).tbu = s.tbu ∧ (tellBoard t z q a s).cmu = s.cmu
      ∧ (tellBoard t z q a s).dau = s.dau ∧ (tellBoard t z q a s).zcu = s.zcu
      ∧ (tellBoard t z q a s).cgu = s.cgu ∧ (tellBoard t z q a s).mrh = s.mrh
      ∧ (tellBoard t z q a s).xsu = s.xsu ∧ (tellBoard t z q a s).nvs = s.nvs
      ∧ (tellBoard t z q a s).store = s.store ∧ (tellBoard t z q a s).schedule = s.schedule
      ∧ (tellBoard t z q a s).pending = s.pending := by
  simp only [tellBoard]
  split <;> simp

/-- A zone entry moved (R72). -/
@[simp] theorem moveEntry_frame (t : Tables) (z : Fin 16) (q : CondQ) (a b : ZoneCond) (s : State) :
    (moveEntry t z q a b s).pins = s.pins ∧ (moveEntry t z q a b s).flc = s.flc
      ∧ (moveEntry t z q a b s).tbu = s.tbu ∧ (moveEntry t z q a b s).dau = s.dau
      ∧ (moveEntry t z q a b s).zcu = s.zcu ∧ (moveEntry t z q a b s).cgu = s.cgu
      ∧ (moveEntry t z q a b s).mrh = s.mrh ∧ (moveEntry t z q a b s).nvs = s.nvs
      ∧ (moveEntry t z q a b s).store = s.store ∧ (moveEntry t z q a b s).schedule = s.schedule
      ∧ (moveEntry t z q a b s).pending = s.pending := by
  simp only [moveEntry, announceSteps]
  split <;> simp

/-- A zone entry recomputed (R67 to R69). -/
@[simp] theorem refreshEntry_frame (t : Tables) (z : Fin 16) (q : CondQ) (s : State) :
    (refreshEntry t z q s).pins = s.pins ∧ (refreshEntry t z q s).flc = s.flc
      ∧ (refreshEntry t z q s).tbu = s.tbu ∧ (refreshEntry t z q s).dau = s.dau
      ∧ (refreshEntry t z q s).zcu = s.zcu ∧ (refreshEntry t z q s).cgu = s.cgu
      ∧ (refreshEntry t z q s).mrh = s.mrh ∧ (refreshEntry t z q s).nvs = s.nvs
      ∧ (refreshEntry t z q s).store = s.store
      ∧ (refreshEntry t z q s).schedule = s.schedule
      ∧ (refreshEntry t z q s).pending = s.pending := by
  simp only [refreshEntry]
  split <;> simp

/-- RH entries of a list of zones. -/
@[simp] theorem refreshRh_frame (t : Tables) (l : List (Fin 16)) (s : State) :
    (l.foldl (fun s z => refreshEntry t z .rh s) s).pins = s.pins
      ∧ (l.foldl (fun s z => refreshEntry t z .rh s) s).flc = s.flc
      ∧ (l.foldl (fun s z => refreshEntry t z .rh s) s).tbu = s.tbu
      ∧ (l.foldl (fun s z => refreshEntry t z .rh s) s).dau = s.dau
      ∧ (l.foldl (fun s z => refreshEntry t z .rh s) s).zcu = s.zcu
      ∧ (l.foldl (fun s z => refreshEntry t z .rh s) s).cgu = s.cgu
      ∧ (l.foldl (fun s z => refreshEntry t z .rh s) s).mrh = s.mrh
      ∧ (l.foldl (fun s z => refreshEntry t z .rh s) s).nvs = s.nvs
      ∧ (l.foldl (fun s z => refreshEntry t z .rh s) s).store = s.store
      ∧ (l.foldl (fun s z => refreshEntry t z .rh s) s).schedule = s.schedule
      ∧ (l.foldl (fun s z => refreshEntry t z .rh s) s).pending = s.pending := by
  induction l generalizing s with
  | nil => simp
  | cons z l ih => simpa using ih (refreshEntry t z .rh s)

/-- The CURVE zones (R64). -/
@[simp] theorem refreshCurveZones_frame (t : Tables) (s : State) :
    (refreshCurveZones t s).pins = s.pins ∧ (refreshCurveZones t s).flc = s.flc
      ∧ (refreshCurveZones t s).tbu = s.tbu ∧ (refreshCurveZones t s).dau = s.dau
      ∧ (refreshCurveZones t s).zcu = s.zcu ∧ (refreshCurveZones t s).cgu = s.cgu
      ∧ (refreshCurveZones t s).mrh = s.mrh ∧ (refreshCurveZones t s).nvs = s.nvs
      ∧ (refreshCurveZones t s).store = s.store
      ∧ (refreshCurveZones t s).schedule = s.schedule
      ∧ (refreshCurveZones t s).pending = s.pending := by
  simp [refreshCurveZones]

/-- An accepted condition sample (R57). -/
@[simp] theorem acceptCondition_frame (k : Fin 48) (z : Fin 16) (q : CondQ) (v : Int) (r : SensorRecord) (s : State) :
    (acceptCondition k z q v r s).pins = s.pins
      ∧ (acceptCondition k z q v r s).flc = s.flc
      ∧ (acceptCondition k z q v r s).tbu = s.tbu
      ∧ (acceptCondition k z q v r s).dau = s.dau
      ∧ (acceptCondition k z q v r s).zcu = s.zcu
      ∧ (acceptCondition k z q v r s).cgu = s.cgu
      ∧ (acceptCondition k z q v r s).mrh = s.mrh
      ∧ (acceptCondition k z q v r s).nvs = s.nvs
      ∧ (acceptCondition k z q v r s).store = s.store
      ∧ (acceptCondition k z q v r s).schedule = s.schedule
      ∧ (acceptCondition k z q v r s).pending = s.pending := by
  simp [acceptCondition]

/-- An accepted OUTDOOR sample (R63). -/
@[simp] theorem acceptOutdoor_frame (k : Fin 48) (v : Int) (r : SensorRecord) (s : State) :
    (acceptOutdoor k v r s).pins = s.pins ∧ (acceptOutdoor k v r s).flc = s.flc
      ∧ (acceptOutdoor k v r s).tbu = s.tbu ∧ (acceptOutdoor k v r s).dau = s.dau
      ∧ (acceptOutdoor k v r s).zcu = s.zcu ∧ (acceptOutdoor k v r s).cgu = s.cgu
      ∧ (acceptOutdoor k v r s).mrh = s.mrh ∧ (acceptOutdoor k v r s).nvs = s.nvs
      ∧ (acceptOutdoor k v r s).store = s.store
      ∧ (acceptOutdoor k v r s).schedule = s.schedule
      ∧ (acceptOutdoor k v r s).pending = s.pending := by
  simp only [acceptOutdoor]
  split <;> simp

/-- An accepted sample beyond its record (R57). -/
@[simp] theorem acceptFurther_frame (k : Fin 48) (x : SlotRec) (q : Quantity) (v : Int) (r : SensorRecord) (s : State) :
    (acceptFurther k x q v r s).pins = s.pins ∧ (acceptFurther k x q v r s).flc = s.flc
      ∧ (acceptFurther k x q v r s).tbu = s.tbu ∧ (acceptFurther k x q v r s).cgu = s.cgu
      ∧ (acceptFurther k x q v r s).mrh = s.mrh ∧ (acceptFurther k x q v r s).nvs = s.nvs
      ∧ (acceptFurther k x q v r s).store = s.store
      ∧ (acceptFurther k x q v r s).schedule = s.schedule
      ∧ (acceptFurther k x q v r s).pending = s.pending := by
  simp only [acceptFurther]
  split
  · split <;> simp
  · split <;> simp
  · simp
  · simp

/-- A sample (R55). -/
@[simp] theorem handleSample_frame (k : Fin 48) (q : Quantity) (v : Int) (f w c : Bool) (s : State) :
    (handleSample k q v f w c s).pins = s.pins ∧ (handleSample k q v f w c s).flc = s.flc
      ∧ (handleSample k q v f w c s).tbu = s.tbu ∧ (handleSample k q v f w c s).cgu = s.cgu
      ∧ (handleSample k q v f w c s).mrh = s.mrh ∧ (handleSample k q v f w c s).nvs = s.nvs
      ∧ (handleSample k q v f w c s).store = s.store
      ∧ (handleSample k q v f w c s).schedule = s.schedule
      ∧ (handleSample k q v f w c s).pending = s.pending := by
  simp only [handleSample]
  split
  · simp
  · split <;> simp

/-- A sensor slot's result (R54). -/
@[simp] theorem sensorResult_frame (k : Fin 48) (q : Quantity) (r : SlotOutcome) (s : State) :
    (sensorResult k q r s).pins = s.pins ∧ (sensorResult k q r s).flc = s.flc
      ∧ (sensorResult k q r s).tbu = s.tbu ∧ (sensorResult k q r s).cgu = s.cgu
      ∧ (sensorResult k q r s).mrh = s.mrh ∧ (sensorResult k q r s).nvs = s.nvs
      ∧ (sensorResult k q r s).store = s.store
      ∧ (sensorResult k q r s).schedule = s.schedule
      ∧ (sensorResult k q r s).pending = s.pending := by
  simp only [sensorResult]
  split <;> simp

/-- The sensors' records aged (R65). -/
@[simp] theorem ageSensors_frame (t : Tables) (s : State) :
    (ageSensors t s).pins = s.pins ∧ (ageSensors t s).flc = s.flc ∧ (ageSensors t s).tbu = s.tbu
      ∧ (ageSensors t s).dau = s.dau ∧ (ageSensors t s).zcu = s.zcu ∧ (ageSensors t s).cgu = s.cgu
      ∧ (ageSensors t s).bli = s.bli ∧ (ageSensors t s).mrh = s.mrh ∧ (ageSensors t s).xsu = s.xsu
      ∧ (ageSensors t s).nvs = s.nvs ∧ (ageSensors t s).store = s.store
      ∧ (ageSensors t s).schedule = s.schedule ∧ (ageSensors t s).pending = s.pending := by
  simp [ageSensors]

/-- CLEAR LATCH (R70). -/
@[simp] theorem clearLatch_frame (z : Fin 16) (q : CondQ) (d : Side) (s : State) :
    (clearLatch z q d s).pins = s.pins ∧ (clearLatch z q d s).flc = s.flc
      ∧ (clearLatch z q d s).tbu = s.tbu ∧ (clearLatch z q d s).dau = s.dau
      ∧ (clearLatch z q d s).zcu = s.zcu ∧ (clearLatch z q d s).cgu = s.cgu
      ∧ (clearLatch z q d s).mrh = s.mrh ∧ (clearLatch z q d s).nvs = s.nvs
      ∧ (clearLatch z q d s).store = s.store ∧ (clearLatch z q d s).schedule = s.schedule
      ∧ (clearLatch z q d s).pending = s.pending := by
  simp [clearLatch]

/-- An entry rebuilt (R76). -/
@[simp] theorem rebuildEntry_frame (n : Tables) (z : Fin 16) (q : CondQ) (s : State) :
    (rebuildEntry n z q s).pins = s.pins ∧ (rebuildEntry n z q s).flc = s.flc
      ∧ (rebuildEntry n z q s).tbu = s.tbu ∧ (rebuildEntry n z q s).dau = s.dau
      ∧ (rebuildEntry n z q s).zcu = s.zcu ∧ (rebuildEntry n z q s).cgu = s.cgu
      ∧ (rebuildEntry n z q s).mrh = s.mrh ∧ (rebuildEntry n z q s).nvs = s.nvs
      ∧ (rebuildEntry n z q s).store = s.store
      ∧ (rebuildEntry n z q s).schedule = s.schedule
      ∧ (rebuildEntry n z q s).pending = s.pending := by
  simp [rebuildEntry]

/-- Entries of one zone rebuilt. -/
@[simp] theorem rebuildQ_frame (n : Tables) (z : Fin 16) (l : List CondQ) (s : State) :
    (l.foldl (fun s q => rebuildEntry n z q s) s).pins = s.pins
      ∧ (l.foldl (fun s q => rebuildEntry n z q s) s).flc = s.flc
      ∧ (l.foldl (fun s q => rebuildEntry n z q s) s).tbu = s.tbu
      ∧ (l.foldl (fun s q => rebuildEntry n z q s) s).dau = s.dau
      ∧ (l.foldl (fun s q => rebuildEntry n z q s) s).zcu = s.zcu
      ∧ (l.foldl (fun s q => rebuildEntry n z q s) s).cgu = s.cgu
      ∧ (l.foldl (fun s q => rebuildEntry n z q s) s).mrh = s.mrh
      ∧ (l.foldl (fun s q => rebuildEntry n z q s) s).nvs = s.nvs
      ∧ (l.foldl (fun s q => rebuildEntry n z q s) s).store = s.store
      ∧ (l.foldl (fun s q => rebuildEntry n z q s) s).schedule = s.schedule
      ∧ (l.foldl (fun s q => rebuildEntry n z q s) s).pending = s.pending := by
  induction l generalizing s with
  | nil => simp
  | cons q l ih => simpa using ih (rebuildEntry n z q s)

/-- Entries of a list of zones rebuilt. -/
@[simp] theorem rebuildZ_frame (n : Tables) (l : List (Fin 16)) (s : State) :
    
      (l.foldl (fun s z => CondQ.all.foldl (fun s q => rebuildEntry n z q s) s) s).pins = s.pins
      ∧ (l.foldl (fun s z => CondQ.all.foldl (fun s q => rebuildEntry n z q s) s) s).flc = s.flc
      ∧ (l.foldl (fun s z => CondQ.all.foldl (fun s q => rebuildEntry n z q s) s) s).tbu = s.tbu
      ∧ (l.foldl (fun s z => CondQ.all.foldl (fun s q => rebuildEntry n z q s) s) s).dau = s.dau
      ∧ (l.foldl (fun s z => CondQ.all.foldl (fun s q => rebuildEntry n z q s) s) s).zcu = s.zcu
      ∧ (l.foldl (fun s z => CondQ.all.foldl (fun s q => rebuildEntry n z q s) s) s).cgu = s.cgu
      ∧ (l.foldl (fun s z => CondQ.all.foldl (fun s q => rebuildEntry n z q s) s) s).mrh = s.mrh
      ∧ (l.foldl (fun s z => CondQ.all.foldl (fun s q => rebuildEntry n z q s) s) s).nvs = s.nvs
      ∧ (l.foldl (fun s z => CondQ.all.foldl (fun s q => rebuildEntry n z q s) s) s).store = s.store
      ∧ (l.foldl (fun s z => CondQ.all.foldl (fun s q => rebuildEntry n z q s) s) s).schedule = s.schedule
      ∧ (l.foldl (fun s z => CondQ.all.foldl (fun s q => rebuildEntry n z q s) s) s).pending = s.pending := by
  induction l generalizing s with
  | nil => simp
  | cons z l ih => simpa using ih (CondQ.all.foldl (fun s q => rebuildEntry n z q s) s)

/-- Every entry rebuilt (R76). -/
@[simp] theorem rebuildAll_frame (n : Tables) (s : State) :
    (rebuildAll n s).pins = s.pins ∧ (rebuildAll n s).flc = s.flc
      ∧ (rebuildAll n s).tbu = s.tbu ∧ (rebuildAll n s).dau = s.dau
      ∧ (rebuildAll n s).zcu = s.zcu ∧ (rebuildAll n s).cgu = s.cgu
      ∧ (rebuildAll n s).mrh = s.mrh ∧ (rebuildAll n s).nvs = s.nvs
      ∧ (rebuildAll n s).store = s.store ∧ (rebuildAll n s).schedule = s.schedule
      ∧ (rebuildAll n s).pending = s.pending := by
  simp [rebuildAll]

/-- The CMU's swap work (R75 to R77). -/
@[simp] theorem cmuSwap_frame (x y : Tables) (s : State) :
    (cmuSwap x y s).pins = s.pins ∧ (cmuSwap x y s).flc = s.flc
      ∧ (cmuSwap x y s).tbu = s.tbu ∧ (cmuSwap x y s).dau = s.dau
      ∧ (cmuSwap x y s).zcu = s.zcu ∧ (cmuSwap x y s).cgu = s.cgu
      ∧ (cmuSwap x y s).mrh = s.mrh ∧ (cmuSwap x y s).nvs = s.nvs
      ∧ (cmuSwap x y s).store = s.store ∧ (cmuSwap x y s).schedule = s.schedule
      ∧ (cmuSwap x y s).pending = s.pending := by
  simp [cmuSwap]

/-! ## Command Gate -/

/-- The settle check (R130). -/
@[simp] theorem settleCheck_frame (k : Fin 48) (s : State) :
    (settleCheck k s).pins = s.pins ∧ (settleCheck k s).flc = s.flc
      ∧ (settleCheck k s).tbu = s.tbu ∧ (settleCheck k s).cmu = s.cmu
      ∧ (settleCheck k s).dau = s.dau ∧ (settleCheck k s).zcu = s.zcu
      ∧ (settleCheck k s).mrh = s.mrh ∧ (settleCheck k s).xsu = s.xsu
      ∧ (settleCheck k s).nvs = s.nvs ∧ (settleCheck k s).store = s.store
      ∧ (settleCheck k s).schedule = s.schedule ∧ (settleCheck k s).pending = s.pending := by
  simp only [settleCheck]
  split
  · simp
  · split <;> simp [putActuator]

/-- The call decision (R131). -/
@[simp] theorem callDecision_frame (k : Fin 48) (s : State) :
    ((callDecision k s).1).pins = s.pins ∧ ((callDecision k s).1).flc = s.flc
      ∧ ((callDecision k s).1).tbu = s.tbu ∧ ((callDecision k s).1).cmu = s.cmu
      ∧ ((callDecision k s).1).dau = s.dau ∧ ((callDecision k s).1).zcu = s.zcu
      ∧ ((callDecision k s).1).mrh = s.mrh ∧ ((callDecision k s).1).xsu = s.xsu
      ∧ ((callDecision k s).1).nvs = s.nvs ∧ ((callDecision k s).1).store = s.store
      ∧ ((callDecision k s).1).schedule = s.schedule
      ∧ ((callDecision k s).1).pending = s.pending := by
  simp only [callDecision]
  split <;> simp [putActuator]

/-- An actuator slot's outcome (R135). -/
@[simp] theorem actuatorResult_frame (k : Fin 48) (r : SlotOutcome) (s : State) :
    (actuatorResult k r s).pins = s.pins ∧ (actuatorResult k r s).flc = s.flc
      ∧ (actuatorResult k r s).tbu = s.tbu ∧ (actuatorResult k r s).cmu = s.cmu
      ∧ (actuatorResult k r s).dau = s.dau ∧ (actuatorResult k r s).zcu = s.zcu
      ∧ (actuatorResult k r s).mrh = s.mrh ∧ (actuatorResult k r s).xsu = s.xsu
      ∧ (actuatorResult k r s).nvs = s.nvs ∧ (actuatorResult k r s).store = s.store
      ∧ (actuatorResult k r s).schedule = s.schedule
      ∧ (actuatorResult k r s).pending = s.pending := by
  simp only [actuatorResult]
  split <;> simp [putActuator]

/-- A taken SET (R127). -/
@[simp] theorem takeSet_frame (k : Fin 48) (r : ActuatorRecord) (i : Half) (v : Int) (s : State) :
    (takeSet k r i v s).pins = s.pins ∧ (takeSet k r i v s).flc = s.flc
      ∧ (takeSet k r i v s).tbu = s.tbu ∧ (takeSet k r i v s).cmu = s.cmu
      ∧ (takeSet k r i v s).dau = s.dau ∧ (takeSet k r i v s).zcu = s.zcu
      ∧ (takeSet k r i v s).mrh = s.mrh ∧ (takeSet k r i v s).xsu = s.xsu
      ∧ (takeSet k r i v s).nvs = s.nvs ∧ (takeSet k r i v s).store = s.store
      ∧ (takeSet k r i v s).schedule = s.schedule ∧ (takeSet k r i v s).pending = s.pending := by
  simp [takeSet, putActuator]

/-- A COMMAND past its first two checks (R126). -/
@[simp] theorem commandEffect_frame (b : List Byte) (s : State) :
    ((commandEffect b s).1).pins = s.pins ∧ ((commandEffect b s).1).flc = s.flc
      ∧ ((commandEffect b s).1).tbu = s.tbu ∧ ((commandEffect b s).1).cmu = s.cmu
      ∧ ((commandEffect b s).1).dau = s.dau ∧ ((commandEffect b s).1).zcu = s.zcu
      ∧ ((commandEffect b s).1).mrh = s.mrh ∧ ((commandEffect b s).1).xsu = s.xsu
      ∧ ((commandEffect b s).1).nvs = s.nvs ∧ ((commandEffect b s).1).store = s.store
      ∧ ((commandEffect b s).1).schedule = s.schedule
      ∧ ((commandEffect b s).1).pending = s.pending := by
  simp only [commandEffect]
  split
  · simp
  · split
    · simp
    · split
      · simp
      · split <;> simp [takeAction, putActuator]

/-- The CGU's swap work (R144 to R146). -/
@[simp] theorem cguSwap_frame (n : Tables) (s : State) :
    (cguSwap n s).pins = s.pins ∧ (cguSwap n s).flc = s.flc ∧ (cguSwap n s).tbu = s.tbu
      ∧ (cguSwap n s).cmu = s.cmu ∧ (cguSwap n s).dau = s.dau ∧ (cguSwap n s).zcu = s.zcu
      ∧ (cguSwap n s).mrh = s.mrh ∧ (cguSwap n s).xsu = s.xsu ∧ (cguSwap n s).nvs = s.nvs
      ∧ (cguSwap n s).store = s.store ∧ (cguSwap n s).schedule = s.schedule
      ∧ (cguSwap n s).pending = s.pending := by
  simp [cguSwap]

/-! ## Swap and cycle close -/

/-- One block's swap work (R44). -/
@[simp] theorem swapWork_frame (x y : Tables) (b : Block) (s : State) :
    (swapWork x y b s).pins = s.pins ∧ (swapWork x y b s).flc = s.flc
      ∧ (swapWork x y b s).mrh = s.mrh ∧ (swapWork x y b s).store = s.store
      ∧ (swapWork x y b s).schedule = s.schedule ∧ (swapWork x y b s).pending = s.pending := by
  cases b <;> simp [swapWork]

/-- Every block's swap work. -/
@[simp] theorem swapAll_frame (x y : Tables) (h : Bool) (l : List Block) (s : State) :
    (swapAll x y h l s).pins = s.pins ∧ (swapAll x y h l s).flc = s.flc
      ∧ (swapAll x y h l s).mrh = s.mrh ∧ (swapAll x y h l s).store = s.store
      ∧ (swapAll x y h l s).schedule = s.schedule ∧ (swapAll x y h l s).pending = s.pending := by
  induction l generalizing h s with
  | nil => simp [swapAll]
  | cons b l ih =>
    simp only [swapAll]
    split <;> simp [ih]

/-- A swap's work (R44). -/
@[simp] theorem swapWorks_frame (x y : Tables) (s : State) :
    (swapWorks x y s).pins = s.pins ∧ (swapWorks x y s).flc = s.flc
      ∧ (swapWorks x y s).mrh = s.mrh ∧ (swapWorks x y s).store = s.store
      ∧ (swapWorks x y s).schedule = s.schedule ∧ (swapWorks x y s).pending = s.pending := by
  simp [swapWorks]

/-- The staged copy made active (R44). -/
@[simp] theorem activate_frame (s : State) :
    (activate s).pins = s.pins ∧ (activate s).flc = s.flc ∧ (activate s).cmu = s.cmu
      ∧ (activate s).dau = s.dau ∧ (activate s).zcu = s.zcu ∧ (activate s).cgu = s.cgu
      ∧ (activate s).mrh = s.mrh ∧ (activate s).xsu = s.xsu ∧ (activate s).store = s.store
      ∧ (activate s).schedule = s.schedule ∧ (activate s).pending = s.pending := by
  simp only [activate]
  split <;> simp

/-- A swap while the FLC is STOPPED (R46). -/
@[simp] theorem swapNow_frame (s : State) :
    (swapNow s).pins = s.pins ∧ (swapNow s).mrh = s.mrh ∧ (swapNow s).store = s.store
      ∧ (swapNow s).schedule = s.schedule ∧ (swapNow s).pending = s.pending := by
  simp [swapNow, startCycling]

/-- The REPORT (R159). -/
@[simp] theorem bliClose_frame (s : State) :
    (bliClose s).pins = s.pins ∧ (bliClose s).flc = s.flc ∧ (bliClose s).tbu = s.tbu
      ∧ (bliClose s).cmu = s.cmu ∧ (bliClose s).dau = s.dau ∧ (bliClose s).zcu = s.zcu
      ∧ (bliClose s).cgu = s.cgu ∧ (bliClose s).mrh = s.mrh ∧ (bliClose s).xsu = s.xsu
      ∧ (bliClose s).nvs = s.nvs ∧ (bliClose s).store = s.store
      ∧ (bliClose s).schedule = s.schedule ∧ (bliClose s).pending = s.pending := by
  simp [bliClose]

/-- What no block's close work changes. -/
def CloseLeaves (s t : State) : Prop :=
  t.pins = s.pins ∧ t.flc = s.flc ∧ t.tbu = s.tbu ∧ t.cgu = s.cgu ∧ t.mrh = s.mrh
    ∧ t.store = s.store ∧ t.schedule = s.schedule ∧ t.pending = s.pending

/-- Each step of a block's close work (R23). -/
theorem closeWorkSteps_leaves (t : Tables) (s0 : State) (b : Block) :
    ∀ f ∈ closeWorkSteps t s0 b, ∀ s, CloseLeaves s (f s) := by
  intro f hf s
  cases b <;>
    simp only [closeWorkSteps, dauCloseSteps, accrueSteps, zcuCloseSteps, cmuCloseSteps,
      refreshAllSteps, refreshSteps, announceSteps, List.mem_append, List.mem_flatMap,
      List.mem_map, List.mem_cons, List.not_mem_nil, or_false] at hf
  case dau =>
    rcases hf with ⟨a, _, rfl | rfl | rfl⟩ | rfl | rfl <;> simp [CloseLeaves]
  case zcu => rcases hf with rfl | ⟨z, _, rfl⟩ <;> simp [CloseLeaves]
  case cmu =>
    rcases hf with (rfl | ⟨k, _, rfl⟩) | ⟨z, _, q, _, rfl | hf⟩
    · simp [CloseLeaves]
    · simp [CloseLeaves]
    · simp [CloseLeaves]
    · split at hf
      all_goals
        simp only [List.mem_cons, List.not_mem_nil, or_false] at hf
        rcases hf with rfl | rfl <;> simp [CloseLeaves]
  case bli => subst hf; simp [CloseLeaves]

/-- Each step of the close work of every block (R23). -/
theorem closeSteps_leaves (t : Tables) (s0 : State) :
    ∀ f ∈ closeSteps t s0, ∀ s, CloseLeaves s (f s) := by
  intro f hf
  simp only [closeSteps, List.mem_flatMap] at hf
  obtain ⟨b, _, hb⟩ := hf
  exact closeWorkSteps_leaves t s0 b f hb

/-- Steps that are all close work leave what no close work changes. -/
theorem runSteps_leaves {steps : List (State → State)}
    (h : ∀ f ∈ steps, ∀ s, CloseLeaves s (f s)) (s : State) : CloseLeaves s (runSteps steps s) :=
  runSteps_keeps CloseLeaves (by simp [CloseLeaves])
    (fun _ _ _ a b => by simp only [CloseLeaves] at *; simp [a, b]) steps h s

/-- The close work up to a step, and after it, leaves what no close work changes (R23). -/
theorem closeSteps_part_leaves (t : Tables) (s0 : State) (n : Nat) (s : State) :
    CloseLeaves s (runSteps ((closeSteps t s0).take n) s)
      ∧ CloseLeaves s (runSteps ((closeSteps t s0).drop n) s) :=
  ⟨runSteps_leaves (fun f hf => closeSteps_leaves t s0 f (List.mem_of_mem_take hf)) s,
    runSteps_leaves (fun f hf => closeSteps_leaves t s0 f (List.mem_of_mem_drop hf)) s⟩

/-- What a cycle close leaves, and the FLC it leaves CLOSED (R23). -/
theorem cycleClose_leaves (s : State) :
    (cycleClose s).pins = s.pins ∧ (cycleClose s).flc = s.flc.closed ∧ (cycleClose s).mrh = s.mrh
      ∧ (cycleClose s).store = s.store ∧ (cycleClose s).schedule = s.schedule
      ∧ (cycleClose s).pending = s.pending := by
  let s0 := xsuClose s.tbu.active (s.setFlc s.flc.closed)
  by_cases hd : s.swapDue = true
  · have e : cycleClose s = swapWorks s.tbu.active s.tbu.staged
        (runSteps ((closeSteps s.tbu.active s0).drop
            (s.order.swapAt.getD (closeSteps s.tbu.active s0).length))
          (activate (runSteps ((closeSteps s.tbu.active s0).take
            (s.order.swapAt.getD (closeSteps s.tbu.active s0).length)) s0))) := by
      simp [cycleClose, hd, s0]
    rw [e]
    generalize s.order.swapAt.getD (closeSteps s.tbu.active s0).length = n
    obtain ⟨p1, p2, -, -, p5, p6, p7, p8⟩ := (closeSteps_part_leaves s.tbu.active s0 n s0).1
    obtain ⟨q1, q2, -, -, q5, q6, q7, q8⟩ := (closeSteps_part_leaves s.tbu.active s0 n
      (activate (runSteps ((closeSteps s.tbu.active s0).take n) s0))).2
    simp [q1, q2, q5, q6, q7, q8, p1, p2, p5, p6, p7, p8, s0]
  · have e : cycleClose s = runSteps (closeSteps s.tbu.active s0) s0 := by
      simp [cycleClose, hd, s0]
    rw [e]
    obtain ⟨p1, p2, -, -, p5, p6, p7, p8⟩ :=
      runSteps_leaves (closeSteps_leaves s.tbu.active s0) s0
    simp [p1, p2, p5, p6, p7, p8, s0]

/-- Cycle close (R23). -/
@[simp] theorem cycleClose_frame (s : State) :
    (cycleClose s).pins = s.pins ∧ (cycleClose s).mrh = s.mrh ∧ (cycleClose s).store = s.store
      ∧ (cycleClose s).schedule = s.schedule ∧ (cycleClose s).pending = s.pending := by
  simp [cycleClose_leaves s]

/-- The FLC after a cycle close is CLOSED, whatever the close brings (R23, R24, R25). -/
@[simp] theorem cycleClose_flc (s : State) : (cycleClose s).flc = s.flc.closed :=
  (cycleClose_leaves s).2.1

/-! ## Slots -/

/-- What a slot calls (R10 to R12). -/
@[simp] theorem slotCall_frame (k : Fin 48) (s : State) :
    ((slotCall k s).1).pins = s.pins ∧ ((slotCall k s).1).flc = s.flc
      ∧ ((slotCall k s).1).tbu = s.tbu ∧ ((slotCall k s).1).cmu = s.cmu
      ∧ ((slotCall k s).1).dau = s.dau ∧ ((slotCall k s).1).zcu = s.zcu
      ∧ ((slotCall k s).1).mrh = s.mrh ∧ ((slotCall k s).1).xsu = s.xsu
      ∧ ((slotCall k s).1).nvs = s.nvs ∧ ((slotCall k s).1).store = s.store
      ∧ ((slotCall k s).1).schedule = s.schedule ∧ ((slotCall k s).1).pending = s.pending := by
  simp only [slotCall]
  split <;> simp

/-- A slot begins. -/
@[simp] theorem slotStart_frame (k : Fin 48) (s : State) :
    (slotStart k s).pins = s.pins ∧ (slotStart k s).tbu = s.tbu
      ∧ (slotStart k s).cmu = s.cmu ∧ (slotStart k s).dau = s.dau
      ∧ (slotStart k s).zcu = s.zcu ∧ (slotStart k s).mrh = s.mrh
      ∧ (slotStart k s).xsu = s.xsu ∧ (slotStart k s).nvs = s.nvs
      ∧ (slotStart k s).store = s.store ∧ (slotStart k s).schedule = s.schedule
      ∧ (slotStart k s).pending = s.pending := by
  simp [slotStart]

/-- A result handed over (R21, R22). -/
@[simp] theorem handOver_frame (k : Fin 48) (r : SlotOutcome) (s : State) :
    (handOver k r s).pins = s.pins ∧ (handOver k r s).flc = s.flc
      ∧ (handOver k r s).tbu = s.tbu ∧ (handOver k r s).mrh = s.mrh
      ∧ (handOver k r s).nvs = s.nvs ∧ (handOver k r s).store = s.store
      ∧ (handOver k r s).schedule = s.schedule ∧ (handOver k r s).pending = s.pending := by
  simp only [handOver]
  split
  · simp
  · split <;> simp

/-- A result recorded and handed over (R20). -/
@[simp] theorem recordAndHandOver_frame (k : Fin 48) (r : SlotOutcome) (s : State) :
    (recordAndHandOver k r s).pins = s.pins ∧ (recordAndHandOver k r s).tbu = s.tbu
      ∧ (recordAndHandOver k r s).mrh = s.mrh ∧ (recordAndHandOver k r s).nvs = s.nvs
      ∧ (recordAndHandOver k r s).store = s.store
      ∧ (recordAndHandOver k r s).schedule = s.schedule
      ∧ (recordAndHandOver k r s).pending = s.pending := by
  simp [recordAndHandOver]

/-- The FLC when a result has been recorded and handed over. -/
@[simp] theorem recordAndHandOver_flc (k : Fin 48) (r : SlotOutcome) (s : State) :
    (recordAndHandOver k r s).flc = s.flc.record k r := by
  simp [recordAndHandOver]

/-- What follows a slot. -/
@[simp] theorem afterSlot_frame (k : Fin 48) (s : State) :
    (afterSlot k s).pins = s.pins ∧ (afterSlot k s).mrh = s.mrh
      ∧ (afterSlot k s).store = s.store ∧ (afterSlot k s).schedule = s.schedule
      ∧ (afterSlot k s).pending = s.pending := by
  simp only [afterSlot]
  split <;> simp

/-- A slot's end (R20). -/
@[simp] theorem slotEnd_frame (k : Fin 48) (r : SlotOutcome) (s : State) :
    (slotEnd k r s).pins = s.pins ∧ (slotEnd k r s).mrh = s.mrh
      ∧ (slotEnd k r s).store = s.store ∧ (slotEnd k r s).pending = s.pending := by
  simp [slotEnd]

/-- A threshold's slot end. -/
@[simp] theorem slotEndWhen_frame (p : Fin 48 → SlotOutcome → State → Bool) (s : State) :
    (slotEndWhen p s).pins = s.pins ∧ (slotEndWhen p s).mrh = s.mrh
      ∧ (slotEndWhen p s).store = s.store ∧ (slotEndWhen p s).pending = s.pending := by
  simp only [slotEndWhen]
  split
  · split <;> simp
  · simp

/-! ## Requests and messages -/

/-- A denial (R177). -/
@[simp] theorem deny_frame (x : Byte) (k : DeniedKind) (y : Option (List Byte)) (s : State) :
    (deny x k y s).pins = s.pins ∧ (deny x k y s).flc = s.flc ∧ (deny x k y s).tbu = s.tbu
      ∧ (deny x k y s).cmu = s.cmu ∧ (deny x k y s).dau = s.dau ∧ (deny x k y s).zcu = s.zcu
      ∧ (deny x k y s).cgu = s.cgu ∧ (deny x k y s).xsu = s.xsu ∧ (deny x k y s).nvs = s.nvs
      ∧ (deny x k y s).store = s.store ∧ (deny x k y s).schedule = s.schedule
      ∧ (deny x k y s).pending = s.pending := by
  simp [deny]

/-- The checks of a grant (R94). -/
@[simp] theorem judgeGrant_frame (x : Byte) (a : Fin 64) (n : Nat) (s : State) :
    ((judgeGrant x a n s).1).pins = s.pins ∧ ((judgeGrant x a n s).1).flc = s.flc
      ∧ ((judgeGrant x a n s).1).tbu = s.tbu ∧ ((judgeGrant x a n s).1).cmu = s.cmu
      ∧ ((judgeGrant x a n s).1).cgu = s.cgu ∧ ((judgeGrant x a n s).1).mrh = s.mrh
      ∧ ((judgeGrant x a n s).1).xsu = s.xsu ∧ ((judgeGrant x a n s).1).store = s.store
      ∧ ((judgeGrant x a n s).1).schedule = s.schedule
      ∧ ((judgeGrant x a n s).1).pending = s.pending := by
  simp only [judgeGrant]
  split
  · simp [refuse]
  · split
    · simp [refuse]
    · split
      · simp [refuse]
      · split
        · simp [freeAndRefuse, refuse]
        · split <;> simp [freeAndRefuse, refuse]

/-- COMMIT (R40). -/
@[simp] theorem commit_frame (s : State) :
    ((commit s).1).pins = s.pins ∧ ((commit s).1).mrh = s.mrh
      ∧ ((commit s).1).store = s.store ∧ ((commit s).1).schedule = s.schedule
      ∧ ((commit s).1).pending = s.pending := by
  simp only [commit]
  split
  · simp [refuse]
  · split
    · simp
    · split <;> simp

/-- A request's effect leaves the pins, the store, the schedule and the queue. -/
@[simp] theorem requestEffect_frame (k : ReqKind) (x : Byte) (f : List Byte) (s : State) :
    ((requestEffect k x f s).1).pins = s.pins
      ∧ ((requestEffect k x f s).1).store = s.store
      ∧ ((requestEffect k x f s).1).schedule = s.schedule
      ∧ ((requestEffect k x f s).1).pending = s.pending := by
  cases k <;> simp only [requestEffect]
  · simp only [readRecord]
    split
    · split <;> simp [refuse]
    · simp [refuse]
  · simp only [readState]
    split <;> simp [refuse]
  · simp only [linkReadAccount]
    split
    · simp [refuse]
    · split <;> simp
  · simp [readFault]
  · simp only [clearLatchRequest]
    split
    · split
      · simp [refuse]
      · split
        · simp [refuse]
        · split <;> simp [refuse]
    · simp [refuse]
  · simp only [holdOccupied]
    split
    · simp [refuse]
    · split
      · simp [refuse]
      · split <;> simp [refuse, holdReply]
  · simp only [releaseHold]
    split
    · simp [refuse]
    · split <;> simp [refuse, holdReply]
  · simp only [grantExtension]
    split
    · simp [refuse]
    · split <;> simp [refuse]
  · simp only [statsControl]
    split <;> simp [refuse]
  · simp [statsClear]
  · simp [clearFault]
  · simp only [writeRecord]
    split
    · simp [refuse]
    · split
      · split <;> simp [refuse]
      · simp [refuse]
  · simp only [discardStaged]
    split <;> simp [refuse]
  · simp
  · simp only [suspendAccount, onAccount]
    split
    · simp [refuse]
    · split <;> simp [refuse]
  · simp only [resumeAccount, onAccount]
    split
    · simp [refuse]
    · split <;> simp [refuse]
  · simp only [seedAccount, onAccount]
    split
    · simp [refuse]
    · split
      · split <;> simp [refuse]
      · simp [refuse]
  · simp [restart]

/-- A request (R171). -/
@[simp] theorem handleRequest_frame (k : ReqKind) (x : Byte) (f : List Byte) (s : State) :
    ((handleRequest k x f s).1).pins = s.pins
      ∧ ((handleRequest k x f s).1).store = s.store
      ∧ ((handleRequest k x f s).1).schedule = s.schedule
      ∧ ((handleRequest k x f s).1).pending = s.pending := by
  simp only [handleRequest]
  split
  · simp [refuse]
  · split <;> simp [refuse]

/-- A COMMAND (R126). -/
@[simp] theorem takeCommand_frame (x : Byte) (b : List Byte) (s : State) :
    ((takeCommand x b s).1).pins = s.pins ∧ ((takeCommand x b s).1).flc = s.flc
      ∧ ((takeCommand x b s).1).tbu = s.tbu ∧ ((takeCommand x b s).1).cmu = s.cmu
      ∧ ((takeCommand x b s).1).dau = s.dau ∧ ((takeCommand x b s).1).zcu = s.zcu
      ∧ ((takeCommand x b s).1).xsu = s.xsu ∧ ((takeCommand x b s).1).nvs = s.nvs
      ∧ ((takeCommand x b s).1).store = s.store
      ∧ ((takeCommand x b s).1).schedule = s.schedule
      ∧ ((takeCommand x b s).1).pending = s.pending := by
  simp only [takeCommand]
  split
  · simp
  · split <;> simp

/-- A TIME (R87). -/
@[simp] theorem takeTime_frame (x : Byte) (b : List Byte) (s : State) :
    (takeTime x b s).pins = s.pins ∧ (takeTime x b s).flc = s.flc
      ∧ (takeTime x b s).tbu = s.tbu ∧ (takeTime x b s).cmu = s.cmu
      ∧ (takeTime x b s).cgu = s.cgu ∧ (takeTime x b s).xsu = s.xsu
      ∧ (takeTime x b s).store = s.store ∧ (takeTime x b s).schedule = s.schedule
      ∧ (takeTime x b s).pending = s.pending := by
  simp only [takeTime]
  split
  · simp
  · split <;> simp

/-- An answer placed (R156). -/
@[simp] theorem placeAnswer_frame (d : Byte) (a : Answering) (s : State) :
    (placeAnswer d a s).pins = s.pins ∧ (placeAnswer d a s).flc = s.flc
      ∧ (placeAnswer d a s).tbu = s.tbu ∧ (placeAnswer d a s).cmu = s.cmu
      ∧ (placeAnswer d a s).dau = s.dau ∧ (placeAnswer d a s).zcu = s.zcu
      ∧ (placeAnswer d a s).cgu = s.cgu ∧ (placeAnswer d a s).mrh = s.mrh
      ∧ (placeAnswer d a s).xsu = s.xsu ∧ (placeAnswer d a s).nvs = s.nvs
      ∧ (placeAnswer d a s).store = s.store ∧ (placeAnswer d a s).schedule = s.schedule
      ∧ (placeAnswer d a s).pending = s.pending := by
  simp [placeAnswer]

/-- A taken message answered (R156). -/
@[simp] theorem dispatch_frame (m : Message) (s : State) :
    (dispatch m s).pins = s.pins ∧ (dispatch m s).store = s.store
      ∧ (dispatch m s).schedule = s.schedule ∧ (dispatch m s).pending = s.pending := by
  simp only [dispatch]
  split
  · simp [answerCommand]
  · split
    · simp
    · split
      · simp only [takeRequest]
        split
        · simp [replyUnknown]
        · split <;> simp [replyUnknown, placeReply]
      · simp [replyUnknown]

/-- The arbiter's turn (R165). -/
@[simp] theorem arbitrate_frame (s : State) :
    (arbitrate s).pins = s.pins ∧ (arbitrate s).flc = s.flc ∧ (arbitrate s).tbu = s.tbu
      ∧ (arbitrate s).cmu = s.cmu ∧ (arbitrate s).dau = s.dau ∧ (arbitrate s).zcu = s.zcu
      ∧ (arbitrate s).cgu = s.cgu ∧ (arbitrate s).mrh = s.mrh ∧ (arbitrate s).xsu = s.xsu
      ∧ (arbitrate s).nvs = s.nvs ∧ (arbitrate s).store = s.store
      ∧ (arbitrate s).schedule = s.schedule ∧ (arbitrate s).pending = s.pending := by
  simp [arbitrate]

/-- A taking (R155). -/
@[simp] theorem takeHead_frame (s : State) :
    (takeHead s).pins = s.pins ∧ (takeHead s).store = s.store
      ∧ (takeHead s).schedule = s.schedule ∧ (takeHead s).pending = s.pending := by
  simp only [takeHead]
  split <;> simp

/-- Takings (R155). -/
@[simp] theorem takeUpTo_frame (n : Nat) (s : State) :
    (takeUpTo n s).pins = s.pins ∧ (takeUpTo n s).store = s.store
      ∧ (takeUpTo n s).schedule = s.schedule ∧ (takeUpTo n s).pending = s.pending := by
  induction n generalizing s with
  | zero => simp [takeUpTo]
  | succ n ih =>
    simp only [takeUpTo]
    split <;> simp [ih]

/-- Every taking of one event. -/
@[simp] theorem takeAll_frame (s : State) :
    (takeAll s).pins = s.pins ∧ (takeAll s).store = s.store
      ∧ (takeAll s).schedule = s.schedule ∧ (takeAll s).pending = s.pending := by
  simp [takeAll]

/-- A message offered (R154). -/
@[simp] theorem offer_frame (m : Message) (s : State) :
    (offer m s).pins = s.pins ∧ (offer m s).flc = s.flc ∧ (offer m s).tbu = s.tbu
      ∧ (offer m s).cmu = s.cmu ∧ (offer m s).dau = s.dau ∧ (offer m s).zcu = s.zcu
      ∧ (offer m s).cgu = s.cgu ∧ (offer m s).mrh = s.mrh ∧ (offer m s).xsu = s.xsu
      ∧ (offer m s).nvs = s.nvs ∧ (offer m s).store = s.store
      ∧ (offer m s).schedule = s.schedule ∧ (offer m s).pending = s.pending := by
  simp only [offer]
  split <;> simp

/-- An arrival (R153). -/
@[simp] theorem arrive_frame (m : Message) (s : State) :
    (arrive m s).pins = s.pins ∧ (arrive m s).store = s.store
      ∧ (arrive m s).schedule = s.schedule ∧ (arrive m s).pending = s.pending := by
  simp [arrive]

/-- The COMMISSION pin's level. -/
@[simp] theorem setCommission_frame (l : Bool) (s : State) :
    (setCommission l s).flc = s.flc ∧ (setCommission l s).tbu = s.tbu
      ∧ (setCommission l s).cmu = s.cmu ∧ (setCommission l s).dau = s.dau
      ∧ (setCommission l s).zcu = s.zcu ∧ (setCommission l s).cgu = s.cgu
      ∧ (setCommission l s).bli = s.bli ∧ (setCommission l s).mrh = s.mrh
      ∧ (setCommission l s).xsu = s.xsu ∧ (setCommission l s).nvs = s.nvs
      ∧ (setCommission l s).store = s.store ∧ (setCommission l s).schedule = s.schedule
      ∧ (setCommission l s).pending = s.pending := by
  simp [setCommission]

/-- A message row. -/
@[simp] theorem messageArrives_frame (m : Origin) (k : Byte) (b : List Byte) (s : State) :
    (messageArrives m k b s).store = s.store
      ∧ (messageArrives m k b s).pending = s.pending := by
  simp only [messageArrives]
  split <;> simp

/-- A broken frame (R152). -/
@[simp] theorem breakFrame_frame (s : State) :
    (breakFrame s).pins = s.pins ∧ (breakFrame s).flc = s.flc ∧ (breakFrame s).tbu = s.tbu
      ∧ (breakFrame s).cmu = s.cmu ∧ (breakFrame s).dau = s.dau ∧ (breakFrame s).zcu = s.zcu
      ∧ (breakFrame s).cgu = s.cgu ∧ (breakFrame s).mrh = s.mrh ∧ (breakFrame s).xsu = s.xsu
      ∧ (breakFrame s).nvs = s.nvs ∧ (breakFrame s).store = s.store
      ∧ (breakFrame s).schedule = s.schedule ∧ (breakFrame s).pending = s.pending := by
  simp [breakFrame]

/-- A complete frame (R153). -/
@[simp] theorem frameComplete_frame (cs : List Byte) (s : State) :
    (frameComplete cs s).pins = s.pins ∧ (frameComplete cs s).store = s.store
      ∧ (frameComplete cs s).schedule = s.schedule
      ∧ (frameComplete cs s).pending = s.pending := by
  simp only [frameComplete]
  split
  · simp
  · split <;> simp

/-- A character (R152). -/
@[simp] theorem receive_frame (f : Bool) (c : Byte) (s : State) :
    (receive f c s).pins = s.pins ∧ (receive f c s).store = s.store
      ∧ (receive f c s).schedule = s.schedule ∧ (receive f c s).pending = s.pending := by
  simp only [receive]
  split
  · simp
  · split <;> simp
  · split
    · simp only [takeFrameCharacter]
      split
      · simp
      · split <;> simp
    · simp

/-! ## Store and start-up -/

/-- An agreeing completion (R197). -/
@[simp] theorem writeAgrees_frame (s : State) :
    (writeAgrees s).pins = s.pins ∧ (writeAgrees s).flc = s.flc
      ∧ (writeAgrees s).tbu = s.tbu ∧ (writeAgrees s).cmu = s.cmu
      ∧ (writeAgrees s).dau = s.dau ∧ (writeAgrees s).zcu = s.zcu
      ∧ (writeAgrees s).cgu = s.cgu ∧ (writeAgrees s).bli = s.bli
      ∧ (writeAgrees s).mrh = s.mrh ∧ (writeAgrees s).xsu = s.xsu
      ∧ (writeAgrees s).store = s.store ∧ (writeAgrees s).schedule = s.schedule
      ∧ (writeAgrees s).pending = s.pending := by
  simp [writeAgrees]

/-- A disagreeing completion (R197). -/
@[simp] theorem writeFails_frame (s : State) :
    (writeFails s).pins = s.pins ∧ (writeFails s).flc = s.flc ∧ (writeFails s).tbu = s.tbu
      ∧ (writeFails s).cmu = s.cmu ∧ (writeFails s).dau = s.dau ∧ (writeFails s).zcu = s.zcu
      ∧ (writeFails s).cgu = s.cgu ∧ (writeFails s).mrh = s.mrh ∧ (writeFails s).xsu = s.xsu
      ∧ (writeFails s).store = s.store ∧ (writeFails s).schedule = s.schedule
      ∧ (writeFails s).pending = s.pending := by
  simp [writeFails]

/-- The end of a commit (R48). -/
@[simp] theorem endCommit_frame (f : CommitField) (s : State) :
    (endCommit f s).pins = s.pins ∧ (endCommit f s).flc = s.flc
      ∧ (endCommit f s).cmu = s.cmu ∧ (endCommit f s).dau = s.dau
      ∧ (endCommit f s).zcu = s.zcu ∧ (endCommit f s).cgu = s.cgu
      ∧ (endCommit f s).mrh = s.mrh ∧ (endCommit f s).xsu = s.xsu
      ∧ (endCommit f s).nvs = s.nvs ∧ (endCommit f s).store = s.store
      ∧ (endCommit f s).schedule = s.schedule ∧ (endCommit f s).pending = s.pending := by
  simp [endCommit]

/-- A failed record write (R197). -/
@[simp] theorem recordWriteFails_frame (s : State) :
    (recordWriteFails s).pins = s.pins ∧ (recordWriteFails s).flc = s.flc
      ∧ (recordWriteFails s).cmu = s.cmu ∧ (recordWriteFails s).dau = s.dau
      ∧ (recordWriteFails s).zcu = s.zcu ∧ (recordWriteFails s).cgu = s.cgu
      ∧ (recordWriteFails s).mrh = s.mrh ∧ (recordWriteFails s).xsu = s.xsu
      ∧ (recordWriteFails s).store = s.store ∧ (recordWriteFails s).schedule = s.schedule
      ∧ (recordWriteFails s).pending = s.pending := by
  simp only [recordWriteFails]
  split <;> simp

/-- START (R202). -/
@[simp] theorem announceStart_frame (x : StartState) (s : State) :
    (announceStart x s).pins = s.pins ∧ (announceStart x s).flc = s.flc
      ∧ (announceStart x s).tbu = s.tbu ∧ (announceStart x s).cmu = s.cmu
      ∧ (announceStart x s).dau = s.dau ∧ (announceStart x s).zcu = s.zcu
      ∧ (announceStart x s).cgu = s.cgu ∧ (announceStart x s).mrh = s.mrh
      ∧ (announceStart x s).xsu = s.xsu ∧ (announceStart x s).store = s.store
      ∧ (announceStart x s).schedule = s.schedule ∧ (announceStart x s).pending = s.pending := by
  simp [announceStart]

/-- Taking opened (R151). -/
@[simp] theorem openLink_frame (a : BitVec 4) (s : State) :
    (openLink a s).flc = s.flc ∧ (openLink a s).tbu = s.tbu ∧ (openLink a s).cmu = s.cmu
      ∧ (openLink a s).dau = s.dau ∧ (openLink a s).zcu = s.zcu ∧ (openLink a s).cgu = s.cgu
      ∧ (openLink a s).mrh = s.mrh ∧ (openLink a s).xsu = s.xsu ∧ (openLink a s).nvs = s.nvs
      ∧ (openLink a s).store = s.store ∧ (openLink a s).schedule = s.schedule
      ∧ (openLink a s).pending = s.pending := by
  simp [openLink]

/-- The tables loaded (R201). -/
@[simp] theorem loadTables_frame (t : Tables) (s : State) :
    (loadTables t s).pins = s.pins ∧ (loadTables t s).flc = s.flc
      ∧ (loadTables t s).cmu = s.cmu ∧ (loadTables t s).dau = s.dau
      ∧ (loadTables t s).zcu = s.zcu ∧ (loadTables t s).cgu = s.cgu
      ∧ (loadTables t s).bli = s.bli ∧ (loadTables t s).mrh = s.mrh
      ∧ (loadTables t s).xsu = s.xsu ∧ (loadTables t s).nvs = s.nvs
      ∧ (loadTables t s).store = s.store ∧ (loadTables t s).schedule = s.schedule
      ∧ (loadTables t s).pending = s.pending := by
  simp [loadTables]

/-- FALLBACK (R200). -/
@[simp] theorem enterFallback_frame (a : BitVec 4) (s : State) :
    (enterFallback a s).flc = s.flc ∧ (enterFallback a s).cmu = s.cmu
      ∧ (enterFallback a s).dau = s.dau ∧ (enterFallback a s).zcu = s.zcu
      ∧ (enterFallback a s).cgu = s.cgu ∧ (enterFallback a s).mrh = s.mrh
      ∧ (enterFallback a s).xsu = s.xsu ∧ (enterFallback a s).store = s.store
      ∧ (enterFallback a s).schedule = s.schedule ∧ (enterFallback a s).pending = s.pending := by
  simp [enterFallback]

/-- The ceilings at start-up (R121). -/
@[simp] theorem ceilingsAtStart_frame (t : Tables) (s : State) :
    (ceilingsAtStart t s).pins = s.pins ∧ (ceilingsAtStart t s).flc = s.flc
      ∧ (ceilingsAtStart t s).tbu = s.tbu ∧ (ceilingsAtStart t s).cmu = s.cmu
      ∧ (ceilingsAtStart t s).dau = s.dau ∧ (ceilingsAtStart t s).cgu = s.cgu
      ∧ (ceilingsAtStart t s).bli = s.bli ∧ (ceilingsAtStart t s).mrh = s.mrh
      ∧ (ceilingsAtStart t s).xsu = s.xsu ∧ (ceilingsAtStart t s).nvs = s.nvs
      ∧ (ceilingsAtStart t s).store = s.store ∧ (ceilingsAtStart t s).schedule = s.schedule
      ∧ (ceilingsAtStart t s).pending = s.pending := by
  simp [ceilingsAtStart]

/-- Restore (R101 to R103). -/
@[simp] theorem restoreAccounts_frame (s : State) :
    (restoreAccounts s).pins = s.pins ∧ (restoreAccounts s).flc = s.flc
      ∧ (restoreAccounts s).tbu = s.tbu ∧ (restoreAccounts s).cmu = s.cmu
      ∧ (restoreAccounts s).cgu = s.cgu ∧ (restoreAccounts s).mrh = s.mrh
      ∧ (restoreAccounts s).xsu = s.xsu ∧ (restoreAccounts s).nvs = s.nvs
      ∧ (restoreAccounts s).store = s.store ∧ (restoreAccounts s).schedule = s.schedule
      ∧ (restoreAccounts s).pending = s.pending := by
  simp [restoreAccounts]

/-- RUNNING (R201). -/
@[simp] theorem enterRunning_frame (a : BitVec 4) (s : State) :
    (enterRunning a s).tbu = s.tbu ∧ (enterRunning a s).mrh = s.mrh
      ∧ (enterRunning a s).xsu = s.xsu ∧ (enterRunning a s).store = s.store
      ∧ (enterRunning a s).schedule = s.schedule ∧ (enterRunning a s).pending = s.pending := by
  simp [enterRunning, startCycling]

end Sys2Proof.Machine
end

