-- ==== Sys2Proof/Laws/PerInstr.lean ====
section
/-! SUPPORT. Facts about every command, one lemma per constructor: the message that a command
brings, and that a well-formed command's message fits its frame (R204). -/

namespace Sys2Proof.Laws

open Sys2Proof Sys2Proof.Machine

/-- The kind and the body of the message whose arrival a command is; none for the other rows. -/
def messageOf (i : Instr) : Option (Byte × List Byte) := (arrivalOf i).map (·.2)

/-- The meaning of every message row is the arrival of its message (R154). -/
theorem exec_arrival {i : Instr} {o : Origin} {k : Byte} {b : List Byte} (s : State)
    (h : arrivalOf i = some (o, k, b)) : exec i s = .next (messageArrives o k b s) := by
  cases i <;> simp only [arrivalOf, Option.some.injEq, Prod.mk.injEq, reduceCtorEq] at h <;>
    obtain ⟨rfl, rfl, rfl⟩ := h <;> rfl

/-- A body of at most 249 bytes after the request code fits a frame. -/
theorem fitsRequest_length (c : Byte) (fields : List Byte) (h : fitsRequest fields = true) :
    (c :: fields).length ≤ 250 := by
  simpa [fitsRequest, Config.bodyMax] using h

/-- A body that fits is at most 250 bytes. -/
theorem fitsBody_length (body : List Byte) (h : fitsBody body = true) : body.length ≤ 250 :=
  of_decide_eq_true h

/-- The length of a COMMAND body with a known kind (R204). -/
theorem commandBody_length (id : Half) (node kind : Byte) (value : Half) :
    (commandBody id node kind value).length = 6 := rfl

/-- The message of a well-formed command has a body of at most 250 bytes (R204). -/
def Bodies.Statement (i : Instr) : Prop :=
  i.wellFormed = true → ∀ m, messageOf i = some m → m.2.length ≤ 250

/-- A command that brings no message. -/
theorem Bodies.of_none (i : Instr) (h : messageOf i = none) : Bodies.Statement i := by
  intro _ m hm
  rw [h] at hm
  cases hm

/-- A command whose well-formedness bounds its message's body. -/
theorem Bodies.of_some (i : Instr) (kind : Byte) (body : List Byte)
    (h : messageOf i = some (kind, body)) (fits : i.wellFormed = true → body.length ≤ 250) :
    Bodies.Statement i := by
  intro hw m hm
  rw [h, Option.some.injEq] at hm
  subst hm
  exact fits hw

theorem Bodies.powerReset (resetAsserted : Bool) :
    Bodies.Statement (.powerReset resetAsserted) :=
  Bodies.of_none _ rfl
theorem Bodies.pinReset :
    Bodies.Statement .pinReset :=
  Bodies.of_none _ rfl
theorem Bodies.pinResetRelease :
    Bodies.Statement .pinResetRelease :=
  Bodies.of_none _ rfl
theorem Bodies.restartReset :
    Bodies.Statement .restartReset :=
  Bodies.of_none _ rfl
theorem Bodies.configurationImageRead (addr : BitVec 4) :
    Bodies.Statement (.configurationImageRead addr) :=
  Bodies.of_none _ rfl
theorem Bodies.accountRecordRead (addr : BitVec 4) :
    Bodies.Statement (.accountRecordRead addr) :=
  Bodies.of_none _ rfl
theorem Bodies.cycleTimerExpiry :
    Bodies.Statement .cycleTimerExpiry :=
  Bodies.of_none _ rfl
theorem Bodies.markEnd :
    Bodies.Statement .markEnd :=
  Bodies.of_none _ rfl
theorem Bodies.headerEnd :
    Bodies.Statement .headerEnd :=
  Bodies.of_none _ rfl
theorem Bodies.collided :
    Bodies.Statement .collided :=
  Bodies.of_none _ rfl
theorem Bodies.callComplete :
    Bodies.Statement .callComplete :=
  Bodies.of_none _ rfl
theorem Bodies.answerWindowExpiry :
    Bodies.Statement .answerWindowExpiry :=
  Bodies.of_none _ rfl
theorem Bodies.answerStart :
    Bodies.Statement .answerStart :=
  Bodies.of_none _ rfl
theorem Bodies.answerCharacter (framed : Bool) (char : Byte) :
    Bodies.Statement (.answerCharacter framed char) :=
  Bodies.of_none _ rfl
theorem Bodies.answerBreak :
    Bodies.Statement .answerBreak :=
  Bodies.of_none _ rfl
theorem Bodies.overlong :
    Bodies.Statement .overlong :=
  Bodies.of_none _ rfl
theorem Bodies.fieldNoise :
    Bodies.Statement .fieldNoise :=
  Bodies.of_none _ rfl
theorem Bodies.slotEnd :
    Bodies.Statement .slotEnd :=
  Bodies.of_none _ rfl
theorem Bodies.actuatorLost :
    Bodies.Statement .actuatorLost :=
  Bodies.of_none _ rfl
theorem Bodies.sensorStale (slot : Fin 48) :
    Bodies.Statement (.sensorStale slot) :=
  Bodies.of_none _ rfl
theorem Bodies.dateWatchExpiry :
    Bodies.Statement .dateWatchExpiry :=
  Bodies.of_none _ rfl
theorem Bodies.checkpoint :
    Bodies.Statement .checkpoint :=
  Bodies.of_none _ rfl
theorem Bodies.vacancyHoldReached (zone : Fin 16) :
    Bodies.Statement (.vacancyHoldReached zone) :=
  Bodies.of_none _ rfl
theorem Bodies.holdExpiry (zone : Fin 16) :
    Bodies.Statement (.holdExpiry zone) :=
  Bodies.of_none _ rfl
theorem Bodies.configurationWriteComplete (verify : VerifyRead Tables) :
    Bodies.Statement (.configurationWriteComplete verify) :=
  Bodies.of_none _ rfl
theorem Bodies.accountRecordWriteComplete (verify : VerifyRead AccountItem) :
    Bodies.Statement (.accountRecordWriteComplete verify) :=
  Bodies.of_none _ rfl
theorem Bodies.blCharacterReceived (framed : Bool) (char : Byte) (commission : Bool) :
    Bodies.Statement (.blCharacterReceived framed char commission) :=
  Bodies.of_none _ rfl
theorem Bodies.frameGapTimeout :
    Bodies.Statement .frameGapTimeout :=
  Bodies.of_none _ rfl
theorem Bodies.transmissionEnd (commission : Bool) :
    Bodies.Statement (.transmissionEnd commission) :=
  Bodies.of_none _ rfl
theorem Bodies.commandSet (origin : Origin) (id : Half) (node : Byte) (value : Half) :
    Bodies.Statement (.commandSet origin id node value) :=
  Bodies.of_some _ _ _ rfl fun _ => (by rw [commandBody_length]; decide)
theorem Bodies.commandAction (origin : Origin) (id : Half) (node : Byte) (code : Half) :
    Bodies.Statement (.commandAction origin id node code) :=
  Bodies.of_some _ _ _ rfl fun _ => (by rw [commandBody_length]; decide)
theorem Bodies.time (origin : Origin) (body : List Byte) :
    Bodies.Statement (.time origin body) :=
  Bodies.of_some _ _ _ rfl (fitsBody_length body)
theorem Bodies.unknownMessageKind (origin : Origin) (kind : Byte) (body : List Byte) :
    Bodies.Statement (.unknownMessageKind origin kind body) :=
  Bodies.of_some _ _ _ rfl fun h => fitsBody_length body (Bool.and_eq_true_iff.mp h).2
theorem Bodies.unknownRequest (origin : Origin) (body : List Byte) :
    Bodies.Statement (.unknownRequest origin body) :=
  Bodies.of_some _ _ _ rfl fun h => fitsBody_length body (Bool.and_eq_true_iff.mp h).2
theorem Bodies.readRecord (origin : Origin) (fields : List Byte) :
    Bodies.Statement (.readRecord origin fields) :=
  Bodies.of_some _ _ _ rfl (fitsRequest_length _ fields)
theorem Bodies.readState (origin : Origin) (fields : List Byte) :
    Bodies.Statement (.readState origin fields) :=
  Bodies.of_some _ _ _ rfl (fitsRequest_length _ fields)
theorem Bodies.linkReadAccount (origin : Origin) (fields : List Byte) :
    Bodies.Statement (.linkReadAccount origin fields) :=
  Bodies.of_some _ _ _ rfl (fitsRequest_length _ fields)
theorem Bodies.readFault (origin : Origin) (fields : List Byte) :
    Bodies.Statement (.readFault origin fields) :=
  Bodies.of_some _ _ _ rfl (fitsRequest_length _ fields)
theorem Bodies.clearLatch (origin : Origin) (fields : List Byte) :
    Bodies.Statement (.clearLatch origin fields) :=
  Bodies.of_some _ _ _ rfl (fitsRequest_length _ fields)
theorem Bodies.holdOccupied (origin : Origin) (fields : List Byte) :
    Bodies.Statement (.holdOccupied origin fields) :=
  Bodies.of_some _ _ _ rfl (fitsRequest_length _ fields)
theorem Bodies.releaseHold (origin : Origin) (fields : List Byte) :
    Bodies.Statement (.releaseHold origin fields) :=
  Bodies.of_some _ _ _ rfl (fitsRequest_length _ fields)
theorem Bodies.grantExtension (origin : Origin) (fields : List Byte) :
    Bodies.Statement (.grantExtension origin fields) :=
  Bodies.of_some _ _ _ rfl (fitsRequest_length _ fields)
theorem Bodies.statsControl (origin : Origin) (fields : List Byte) :
    Bodies.Statement (.statsControl origin fields) :=
  Bodies.of_some _ _ _ rfl (fitsRequest_length _ fields)
theorem Bodies.statsClear (origin : Origin) (fields : List Byte) :
    Bodies.Statement (.statsClear origin fields) :=
  Bodies.of_some _ _ _ rfl (fitsRequest_length _ fields)
theorem Bodies.clearFault (origin : Origin) (fields : List Byte) :
    Bodies.Statement (.clearFault origin fields) :=
  Bodies.of_some _ _ _ rfl (fitsRequest_length _ fields)
theorem Bodies.writeRecord (origin : Origin) (fields : List Byte) :
    Bodies.Statement (.writeRecord origin fields) :=
  Bodies.of_some _ _ _ rfl (fitsRequest_length _ fields)
theorem Bodies.discardStaged (origin : Origin) (fields : List Byte) :
    Bodies.Statement (.discardStaged origin fields) :=
  Bodies.of_some _ _ _ rfl (fitsRequest_length _ fields)
theorem Bodies.commit (origin : Origin) (fields : List Byte) :
    Bodies.Statement (.commit origin fields) :=
  Bodies.of_some _ _ _ rfl (fitsRequest_length _ fields)
theorem Bodies.suspendAccount (origin : Origin) (fields : List Byte) :
    Bodies.Statement (.suspendAccount origin fields) :=
  Bodies.of_some _ _ _ rfl (fitsRequest_length _ fields)
theorem Bodies.resumeAccount (origin : Origin) (fields : List Byte) :
    Bodies.Statement (.resumeAccount origin fields) :=
  Bodies.of_some _ _ _ rfl (fitsRequest_length _ fields)
theorem Bodies.seedAccount (origin : Origin) (fields : List Byte) :
    Bodies.Statement (.seedAccount origin fields) :=
  Bodies.of_some _ _ _ rfl (fitsRequest_length _ fields)
theorem Bodies.restart (origin : Origin) (fields : List Byte) :
    Bodies.Statement (.restart origin fields) :=
  Bodies.of_some _ _ _ rfl (fitsRequest_length _ fields)
theorem Bodies.commandNeitherSetNorAction (origin : Origin) (body : List Byte) :
    Bodies.Statement (.commandNeitherSetNorAction origin body) :=
  Bodies.of_some _ _ _ rfl fun h => fitsBody_length body (Bool.and_eq_true_iff.mp h).2

end Sys2Proof.Laws
end

