-- ==== Sys2Proof/Laws/Terms.lean ====
section
/-! SUPPORT. The model's functions in the terms of the statements. -/

namespace Sys2Proof.Machine

open Sys2Proof

/-- The records that start-up restores are the valid ones (R101). -/
theorem validRecord_eq_some_iff (a : Fin 64) (item : StoredItem AccountItem) (r : AccountItem) :
    validRecord a item = some r ↔ RecordValid a item r := by
  cases item with
  | failing => simp [validRecord, checkedRecord, RecordValid]
  | held c k =>
    by_cases h : crc16 c.bytes = k
    · subst h
      constructor
      · intro e
        simp only [validRecord, checkedRecord, if_true, Option.ite_none_right_eq_some,
          Option.some.injEq] at e
        obtain ⟨⟨index, dated, covers⟩, rfl⟩ := e
        refine ⟨rfl, index, covers, fun d hd => ?_⟩
        simpa [hd, Date.inRange, and_assoc] using dated
      · rintro ⟨e, index, covers, dated⟩
        obtain ⟨rfl, -⟩ := StoredItem.held.inj e
        have inRange : c.date.all Date.inRange = true := by
          cases hd : c.date with
          | none => rfl
          | some d => simpa [Date.inRange, and_assoc] using dated d hd
        simp [validRecord, checkedRecord, index, covers, inRange]
    · refine ⟨fun e => ?_, fun e => ?_⟩
      · simp [validRecord, checkedRecord, h] at e
      · obtain ⟨rfl, rfl⟩ := StoredItem.held.inj e.1
        exact absurd rfl h

/-- The model's dose rest is that of R116. -/
theorem doseRest_eq_true_iff (t : Tables) (d : Dau) (z : Fin 16) :
    doseRest t d z = true ↔ d.RestsZone t z := by
  simp [doseRest, Tab.any, accountRests, Dau.RestsZone, Tables.accountEnabled, and_assoc]

/-- A ceiling computed is the one R115 gives. -/
theorem ZoneDyn.computed_stands (t : Tables) (d : Dau) (z : Fin 16) (r : ZoneDyn) :
    (r.computed t d z).CeilingStands t d z := by
  constructor <;> rw [← doseRest_eq_true_iff] <;> intro rest
  · simp [ZoneDyn.computed, ceilingReason, ceilingValue, rest]
  · intro onVacancy vacant noHold
    have vacant' : r.presence = .vacant := vacant
    have noHold' : r.hold = none := noHold
    simp [ZoneDyn.computed, ceilingReason, ceilingValue, rest, onVacancy, vacant', noHold']
  · intro lit
    have lit' : ¬ ((t.zoneRec z).restsOnVacancy = true ∧ r.presence = .vacant ∧ r.hold = none) := by
      rintro ⟨a, b, c⟩
      rcases lit with h | h | h
      · simp [h] at a
      · exact h b
      · exact h c
    simp [ZoneDyn.computed, ceilingReason, ceilingValue, rest, lit']

/-- A close that swaps is the close work with every block's swap work after it (R45). -/
theorem cycleClose_of_swapDue {s : State} (h : s.swapDue = true) :
    cycleClose s = swapWorks s.tbu.active s.tbu.staged (closeWorkDone s) := by
  simp [cycleClose, closeWorkDone, h]

/-- A close that swaps nothing is its steps alone (R23). -/
theorem cycleClose_of_not_swapDue {s : State} (h : s.swapDue = false) :
    let s0 := xsuClose s.tbu.active (s.setFlc s.flc.closed)
    cycleClose s = runSteps (closeSteps s.tbu.active s0) s0 := by
  simp [cycleClose, h]

end Sys2Proof.Machine
end

