-- ==== Sys2Proof/Tests/Slice0.lean ====
section
/-! SUPPORT. The model's own tests: ill-formed commands refused, one or two steps for each command
with results from the spec's worked sequences and rules, and for every obligation with hypotheses a
state and operands that meet them. -/

namespace Sys2Proof.Tests

open Sys2Proof Sys2Proof.Machine Host

/-! ## A small part (the worked sequences' zone 2, account 7 and requesters) -/

/-- A SENSOR slot. -/
def sensor (node quantity zone : Nat) (account : Option Nat) : SlotRec :=
  ⟨some 1, some node, some quantity, none, some zone, account⟩

/-- An ACTUATOR slot. -/
def actuator (node kind zone : Nat) : SlotRec :=
  ⟨some 2, some node, none, some kind, some zone, none⟩

/-- Zone 2 of the worked sequences of 3.11, 4.12 and 6.11; other fields are in range. -/
def zoneTwo : ZoneRec :=
  { enabled := some 1
    tempAlarmLo := some 100, tempWarnLo := some 180, tempWarnHi := some 240, tempAlarmHi := some 280
    rhMode := some 0
    rhAlarmLo := some 350, rhWarnLo := some 420, rhWarnHi := some 580, rhAlarmHi := some 650
    rhWarnHalf := none, rhAlarmHalf := none
    luxWarnHi := some 300, luxAlarmHi := some 500, uvWarnHi := some 75, uvAlarmHi := some 100
    luxCeiling := some 300, restLevel := some 50, restOnVacancy := some 1, vacancyHold := some 3
    rhStep := some 15, tempStep := some 5
    latch := ⟨some 0, some 0, some 0, some 0⟩, notice := ⟨some 1, some 1, some 1, some 1⟩ }

/-- The Slot Map of 1.10: nodes 11, 12, 20, 13, 21 and 22 in slots 0 to 5. -/
def slotMap : Tab SlotRec 48 :=
  (((((Tables.blank.slots.set 0 (sensor 11 0 2 none)).set 1 (sensor 12 1 2 none)).set 2
    (actuator 20 0 2)).set 3 (sensor 13 2 2 (some 7))).set 4 (actuator 21 1 2)).set 5
    (actuator 22 3 2)

/-- Account 7 of 4.12. -/
def accountSeven : AccountRec := ⟨some 1, some 2, some 150, some 200, some 0⟩

/-- Tables with C 10 s, S 3, M 3 and K 30 (the blank Bus Parameters), requester 31 at OPERATE and
requester 33 at COMMISSION (8.9). -/
def tables : Tables :=
  { Tables.blank with
    slots := slotMap
    zones := Tables.blank.zones.set 2 zoneTwo
    accounts := Tables.blank.accounts.set 7 accountSeven
    requesters := (Tables.blank.requesters.set 0 ⟨some 1, some 31, some 1⟩).set 1
      ⟨some 1, some 33, some 2⟩ }

/-- The part in CLOSED after cycle 416, RUNNING on these tables, with own address 52. -/
def running : State :=
  { State.reset with
    tbu := { Tbu.reset with active := tables, staged := tables }
    nvs := { Nvs.reset .power with start := .running, cause := none }
    cmu := cmuAtStart tables
    cgu := cguAtStart tables
    zcu := { Zcu.reset with
      zones := Zcu.reset.zones.set 2 ⟨.occupied, 0, none, some 300, some .table⟩ }
    dau := { Dau.reset with
      accounts := Dau.reset.accounts.set 7 { AccountDyn.reset with state := .open_ } }
    flc := { Flc.reset with
      state := .closed, cycle := 416#16, timer := some 0, slotCount := some 6 }
    bli := { Bli.reset with own := 52#8, rx := .hunting, takingOpen := true } }

/-- The state after a command. -/
def after (c : Instr) (s : State) : State :=
  match exec c s with
  | .next t => t
  | .fault _ => s
  | .refused _ => s

/-- The FLC in slot k, in a phase. -/
def inPhase (k : Fin 48) (p : Phase) (s : State) : State :=
  { s with flc := { s.flc with
      state := .slot, slot := some k, phase := some p, call := some .poll } }

/-- Slot k with its outcome settled, ready to end. -/
def settled (k : Fin 48) (o : SlotOutcome) (s : State) : State :=
  { s with flc := { s.flc with
      state := .slot, slot := some k, phase := some .ignoring, settled := some o } }

/-- A sample with no flags. -/
def sample (v : Int) : SlotOutcome := .good (.sample v false false false)

/-- Requester 31 (OPERATE), requester 33 (COMMISSION), and an address without an entry (8.9). -/
def from31 : Origin := ⟨31#8, false⟩
/-- Requester 33, COMMISSION. -/
def from33 : Origin := ⟨33#8, false⟩
/-- An address without an entry, OBSERVE. -/
def from40 : Origin := ⟨40#8, false⟩

/-- What leaves first on the building link. -/
def sent (s : State) : Option OutMsg :=
  match s.bli.tx with
  | .sending m => some m
  | .idle => none

/-- A REPLY of a kind, as it leaves. -/
def reply (dest : Byte) (k : ReqKind) (status : Status) (c : Contents) : Option OutMsg :=
  some (.answer ⟨dest, .reply ⟨byte k.code, status, c⟩⟩)

/-- A RESULT as it leaves. -/
def result (dest : Byte) (id : Half) (status : Status) (x : ResultExtra) : Option OutMsg :=
  some (.answer ⟨dest, .result ⟨id, status, x⟩⟩)

/-- The part with another sensor record in slot 1 (RH of zone 2) and another RH entry. -/
def withRh (r : SensorRecord) (e : ZoneCond) (s : State) : State :=
  { s with cmu := (s.cmu.setSensor 1 r).setCond 2 .rh e }

/-- The RH record of node 12. -/
def rhRecord (cls cand : Option Machine.Class) (missed : Nat) : SensorRecord :=
  { SensorRecord.fresh 12 .rh with
    health := .live, cls := cls, candidate := cand, missed := missed }

/-- The part with another actuator record in a slot. -/
def withActuator (k : Fin 48) (r : ActuatorRecord) (s : State) : State :=
  { s with cgu := s.cgu.setActuator k r }

/-- Node 21, the humidifier of 6.11, before cycle 1000. -/
def humidifier : ActuatorRecord :=
  { ActuatorRecord.fresh 21 .humidifier 2 4 with
    link := .online, delivered := some 520, nextTag := 4#3, sinceCall := 6 }

/-- The part with another record of account 7. -/
def withAccount (r : AccountDyn) (s : State) : State := { s with dau := s.dau.setAccount 7 r }

/-! ## Ill-formed commands -/

/-- R204: a body of 251 bytes does not fit a frame. -/
theorem test_illFormed_time : (Instr.time from31 (List.replicate 251 0#8)).wellFormed = false := by
  decide +kernel

/-- R157: a COMMAND, TIME or REQUEST kind is not unknown. -/
theorem test_illFormed_unknownMessageKind :
    (Instr.unknownMessageKind from31 1#8 []).wellFormed = false
      ∧ (Instr.unknownMessageKind from31 2#8 []).wellFormed = false
      ∧ (Instr.unknownMessageKind from31 3#8 []).wellFormed = false
      ∧ (Instr.unknownMessageKind from31 4#8 (List.replicate 251 0#8)).wellFormed = false := by
  decide +kernel

/-- R171: request codes 1 and 18 are known, and no body exceeds 250 bytes. -/
theorem test_illFormed_unknownRequest :
    (Instr.unknownRequest from31 [1#8]).wellFormed = false
      ∧ (Instr.unknownRequest from31 [18#8]).wellFormed = false
      ∧ (Instr.unknownRequest from31 (List.replicate 251 0#8)).wellFormed = false := by
  decide +kernel

/-- R205: 250 bytes of fields leave no room for the request code, whatever the request. -/
theorem test_illFormed_requests :
    [ReqKind.readRecord, .readState, .linkReadAccount, .readFault, .clearLatch, .holdOccupied,
      .releaseHold, .grantExtension, .statsControl, .statsClear, .clearFault, .writeRecord,
      .discardStaged, .commit, .suspendAccount, .resumeAccount, .seedAccount, .restart].all
      (fun k => !(k.toInstr from31 (List.replicate 250 0#8)).wellFormed) = true := by
  decide +kernel

/-- R126: a body of 6 bytes with kind SET or ACTION is a COMMAND_SET or COMMAND_ACTION. -/
theorem test_illFormed_commandNeither :
    (Instr.commandNeitherSetNorAction from31 [0#8, 9#8, 45#8, 1#8, 0#8, 200#8]).wellFormed = false
      ∧ (Instr.commandNeitherSetNorAction from31 [0#8, 9#8, 45#8, 2#8, 0#8, 1#8]).wellFormed = false
      ∧ (Instr.commandNeitherSetNorAction from31 (List.replicate 251 0#8)).wellFormed = false := by
  decide +kernel

/-! ## Resets and start-up -/

/-- A write of the store in progress, with the store state that names it. -/
structure WriteScene where
  state : StoreState
  write : Write

/-- The part with a write in progress. -/
def WriteScene.on (w : WriteScene) (s : State) : State :=
  { s with nvs := { s.nvs with state := w.state, write := some w.write } }

/-- A captured account record. -/
def item (a : Nat) : AccountItem := ⟨a, some ⟨2031, 45⟩, 0, 0, 0, false⟩

/-- The write of an account's record. -/
def recordWrite (a : Fin 64) : WriteScene := ⟨.writingRecord, .record a (item a.val)⟩

/-- R198: a POWER reset tears the record being written. -/
theorem test_powerReset_tears :
    let s := { (recordWrite 12).on running with
      store := { running.store with
        records := running.store.records.set 12 (recordItem (item 12)) } }
    let t := after (.powerReset false) s
    t.store.records.get 12 = .failing ∧ t.nvs.cause = some .power := by decide +kernel

/-- R198: RESET_N asserted is a PIN reset, and the part waits in it. -/
theorem test_pinReset :
    let t := after .pinReset running
    t.nvs.cause = some .pin ∧ t.flc.state = .stopped ∧ t.pins.resetAsserted = true := by
  decide +kernel

/-- R198: start-up begins when RESET_N is released. -/
theorem test_pinResetRelease :
    (after .pinResetRelease (after .pinReset running)).startsUp = true := by decide +kernel

/-- 8.10: with the REPLY sent, the reset waits for the record of account 12, then falls. -/
theorem test_restartReset :
    let s : State := { running with
      mrh := { Mrh.reset with restartPending := true }, bli := { running.bli with halted := true } }
    (after .restartReset ((recordWrite 12).on s)).nvs.start = .running
      ∧ (after .restartReset s).nvs.cause = some .restart
      ∧ (after .restartReset s).mrh.restartPending = false := by decide +kernel

/-- R199, R200, R151: a store never written ends start-up in FALLBACK; ADDR at 4 gives address 52, and
START (POWER, FALLBACK) leaves first. -/
theorem test_configurationImageRead_fallback :
    let t := after (.configurationImageRead 4#4) State.reset
    t.nvs.start = .fallback ∧ t.bli.own = 52#8 ∧ t.flc.state = .stopped
      ∧ sent t = some (.notice ⟨.start (some .power) .fallback, 1⟩) := by decide +kernel

/-- R103, R201: after record 63 the part is RUNNING in the mark of cycle 0, and account 7, whose record
was never written, is ANNUAL_SPENT with restore failed set. -/
theorem test_accountRecordRead_last :
    let s : State := { State.reset with
      tbu := { Tbu.reset with active := tables, staged := tables }
      nvs := { Nvs.reset .pin with reading := .record 63 } }
    let t := after (.accountRecordRead 4#4) s
    t.nvs.start = .running ∧ t.flc.state = .mark ∧ t.flc.cycle = 0#16
      ∧ (t.dau.accounts.get 7).state = .annualSpent
      ∧ (t.dau.accounts.get 7).usedYear = 540000000
      ∧ (t.dau.accounts.get 7).restoreFailed = true := by decide +kernel

/-! ## Fieldline -/

/-- 1.10: cycle 416 closed, the timer expires: cycle 417, 10 s, N = 6. -/
theorem test_cycleTimerExpiry :
    let f := (after .cycleTimerExpiry running).flc
    f.state = .mark ∧ f.cycle = 417#16 ∧ f.timer = some 10 ∧ f.slotCount = some 6 := by
  decide +kernel

/-- 1.10, R203: the header of cycle 417 with N = 6 is 3Ch 01h A1h 06h, and a check of 1Bh. -/
theorem test_markEnd_header :
    let f := (after .markEnd (after .cycleTimerExpiry running)).flc
    f.state = .header ∧ f.txd = .characters [0x3C#8, 0x01#8, 0xA1#8, 0x06#8, 0x1B#8] := by
  decide +kernel

/-- 1.10, R203: slot 0 polls node 11: 0Bh 08h 00h 00h 00h, and a check of ECh. -/
theorem test_headerEnd_poll :
    let f := (after .headerEnd { running with flc := { running.flc with state := .header } }).flc
    f.phase = some .calling
      ∧ f.txd = .characters [0x0B#8, 0x08#8, 0x00#8, 0x00#8, 0x00#8, 0xEC#8] := by decide +kernel

/-- 6.11, cycle 1001: a request of 480 sends SET 505 with tag 4 (here the humidifier is in slot 0):
15h 14h 01h F9h 00h, and a check of DCh. -/
theorem test_headerEnd_slewedSet :
    let t0 := { tables with slots := tables.slots.set 0 (actuator 21 1 2) }
    let r := { humidifier with slot := 0, target := some 480, latestSet := some 301#16 }
    let s := withActuator 0 r { running with
      tbu := { running.tbu with active := t0 }, flc := { running.flc with state := .header } }
    (after .headerEnd s).flc.txd
      = .characters [0x15#8, 0x14#8, 0x01#8, 0xF9#8, 0x00#8, 0xDC#8] := by decide +kernel

/-- 1.10, slot 4: a character read back wrong gives COLLIDED, and FL_DE is deasserted. -/
theorem test_collided :
    let f := (after .collided (inPhase 4 .calling running)).flc
    f.settled = some .collided ∧ f.phase = some .ignoring ∧ f.driverEnable = false := by
  decide +kernel

/-- R13: a call read back whole opens the answer window. -/
theorem test_callComplete :
    (after .callComplete (inPhase 0 .calling running)).flc.phase = some .window := by decide +kernel

/-- 1.10, slot 1: no activity in the window gives MISSING. -/
theorem test_answerWindowExpiry :
    (after .answerWindowExpiry (inPhase 1 .window running)).flc.settled = some .missing := by
  decide +kernel

/-- R14: activity in the window begins the answer. -/
theorem test_answerStart :
    (after .answerStart (inPhase 0 .window running)).flc.phase = some .receiving := by decide +kernel

/-- 1.10, slot 0, R203: SAMPLE 215 from node 11 is 0Bh 20h 00h D7h 00h, check FDh: GOOD. -/
theorem test_answerCharacter_sample :
    let s := inPhase 0 .receiving running
    let s1 := { s with flc := { s.flc with answer := [0x0B#8, 0x20#8, 0x00#8, 0xD7#8, 0x00#8] } }
    let f := (after (.answerCharacter true 0xFD#8) s1).flc
    f.phase = some .guard ∧ f.provisional = some (.good (.sample 215 false false false)) := by
  decide +kernel

/-- R16, R203: the same answer from node 12 in slot 0, check FCh, is WRONG_NODE. -/
theorem test_answerCharacter_wrongNode :
    let s := inPhase 0 .receiving running
    let s1 := { s with flc := { s.flc with answer := [0x0C#8, 0x20#8, 0x00#8, 0xD7#8, 0x00#8] } }
    (after (.answerCharacter true 0xFC#8) s1).flc.provisional = some .wrongNode := by decide +kernel

/-- R15: a gap with a character held breaks the answer. -/
theorem test_answerBreak :
    let s := inPhase 0 .receiving running
    (after .answerBreak { s with flc := { s.flc with answer := [0x0B#8] } }).flc.settled
      = some .garbled := by decide +kernel

/-- 1.10, slot 3: activity in the guard time gives OVERLONG, and the characters are discarded. -/
theorem test_overlong :
    let s := inPhase 3 .guard running
    let s1 := { s with flc := { s.flc with answer := [0x0D#8], provisional := some .garbled } }
    let f := (after .overlong s1).flc
    f.settled = some .overlong ∧ f.answer = [] ∧ f.provisional = none := by decide +kernel

/-- R19: noise in SILENT slot 5 posts FIELD_NOISE for slot 5. -/
theorem test_fieldNoise :
    sent (after .fieldNoise (inPhase 5 .silent running)) = some (.notice ⟨.fieldNoise 5, 1⟩) := by
  decide +kernel

/-- 3.11, cycle 603: a second WARN_HI sample of 610 moves the record's class and the high side. -/
theorem test_slotEnd_secondSample :
    let s := withRh (rhRecord (some .normal) (some .warnHi) 1)
      { ZoneCond.fresh with coverage := .live } running
    let t := after .slotEnd (settled 1 (sample 610) s)
    ((t.cmu.sensors.get 1).bind (·.cls)) = some .warnHi ∧ (t.cmu.cond 2 .rh).high = .warn
      ∧ ((t.cmu.sensors.get 1).map (·.missed)) = some 0 := by decide +kernel

/-- 4.12, cycle 802: the last value of 200 lux for 10 s takes account 7 to 721,100 and 123,462,100
lux·s, DAILY_SPENT; the revision stays 12. -/
theorem test_slotEnd_accrual :
    let r : AccountDyn := { AccountDyn.reset with
      state := .open_, usedToday := 719100, usedYear := 123460100, last := 200, revision := 12#16 }
    let s := withAccount r { running with
      cmu := running.cmu.setSensor 3 { SensorRecord.fresh 13 .lux with health := .live } }
    ((after .slotEnd (settled 5 .skipped s)).dau.accounts.get 7)
      = { r with state := .dailySpent, usedToday := 721100, usedYear := 123462100 } := by
  decide +kernel

/-- 6.12, a third miss: LOST, the SET dropped, target 240 and id 77 kept (slot 2 here). -/
theorem test_actuatorLost :
    let r : ActuatorRecord := { ActuatorRecord.fresh 20 .luminaire 2 2 with
      link := .suspect, miss := 2, delivered := some 120, target := some 240
      latestSet := some 77#16, inFlight := some ⟨3#3, .set 50 (some 77#16)⟩ }
    ((after .actuatorLost (settled 2 .missing (withActuator 2 r running))).cgu.actuators.get 2)
      = some { r with link := .lost, miss := 3, inFlight := none } := by decide +kernel

/-- 3.11, the sensor silent in ALARM, cycle close (608): STALE, coverage BLIND, high side NORMAL, the
class and the latch kept. -/
theorem test_sensorStale :
    let s := withRh (rhRecord (some .alarmHi) none 2)
      ⟨.normal, .alarm, .live, false, true⟩ running
    let t := after (.sensorStale 1) (settled 5 .skipped s)
    ((t.cmu.sensors.get 1).map fun r => (r.health, r.missed, r.cls))
        = some (.stale, 3, some .alarmHi)
      ∧ t.cmu.cond 2 .rh = ⟨.normal, .normal, .blind, false, true⟩ := by decide +kernel

/-- R91: the watch reaches 93,600 s at this close. -/
theorem test_dateWatchExpiry :
    let s := settled 5 .skipped { running with dau := { running.dau with dateWatch := 93590 } }
    let t := after .dateWatchExpiry s
    t.dau.dateStale = true ∧ t.dau.dateWatch = 93600 := by decide +kernel

/-- R100, R195: the counter reaches 900 s, and the record of account 7 begins. -/
theorem test_checkpoint :
    let s := settled 5 .skipped { running with
      dau := { running.dau with checkpointCounter := 890 } }
    let t := after .checkpoint s
    t.dau.checkpointCounter = 0 ∧ t.nvs.state = .writingRecord := by decide +kernel

/-- 10.5, order B: with the swap and its request before the close work, the configuration write begins
first and the record of account 7 waits; where the swap follows the close work, the record goes first. -/
theorem test_checkpoint_orderB :
    let s := settled 5 .skipped { running with
      dau := { running.dau with checkpointCounter := 890 }
      tbu := { running.tbu with commit := .pendingSwap, swapCycle := some 416#16 } }
    let first := { s with schedule := [{ Order.default with swapAt := some 0, requestFirst := true }] }
    (after .checkpoint first).nvs.state = .writingConfig
      ∧ (after .checkpoint first).nvs.pendingList = [7]
      ∧ (after .checkpoint s).nvs.state = .writingRecord
      ∧ (after .checkpoint s).nvs.pendingConfig = true := by decide +kernel

/-- Tables in which slots 12 to 14 are the presence sensors of zone 2 (as zone 4 of 5.7: lux ceiling
250, rest level 50, vacancy hold 3). -/
def galleryTables : Tables :=
  { tables with
    slots := ((tables.slots.set 12 (sensor 40 4 2 none)).set 13 (sensor 41 4 2 none)).set 14
      (sensor 42 4 2 none)
    zones := tables.zones.set 2 { zoneTwo with luxCeiling := some 250 } }

/-- A zone record on which a close of 5.7 falls. -/
structure GalleryScene where
  zone : ZoneDyn

/-- The part at the end of a cycle whose presence votes of zone 2 are all VACANT (5.7). -/
def GalleryScene.state (g : GalleryScene) : State :=
  { running with
    tbu := { Tbu.reset with active := galleryTables, staged := galleryTables }
    cmu := cmuAtStart galleryTables
    zcu :=
      { zones := Zcu.reset.zones.set 2 g.zone
        vacantSeen := ((Zcu.reset.vacantSeen.set 12 true).set 13 true).set 14 true }
    flc := { running.flc with
      state := .slot, slot := some 14, phase := some .ignoring, settled := some .missing,
      slotCount := some 15 } }

/-- 5.7, cycle close (904): count 3, VACANT, ceiling 50, REST_VACANT. -/
theorem test_vacancyHoldReached :
    let s := (GalleryScene.mk ⟨.vacantPending, 2, none, some 250, some .table⟩).state
    (after (.vacancyHoldReached 2) s).zcu.zones.get 2
      = ⟨.vacant, 3, none, some 50, some .restVacant⟩ := by decide +kernel

/-- 5.7, the hold's last close (909): hold absent, count 8, ceiling 50, REST_VACANT. -/
theorem test_holdExpiry :
    let s := (GalleryScene.mk ⟨.vacant, 7, some 10, some 250, some .table⟩).state
    (after (.holdExpiry 2) s).zcu.zones.get 2
      = ⟨.vacant, 8, none, some 50, some .restVacant⟩ := by decide +kernel

/-! ## The store -/

/-- 2.10: the verify read agrees, COMMIT DONE is posted, and commit state and store are IDLE. -/
theorem test_configurationWriteComplete :
    let s := (WriteScene.mk .writingConfig (.config tables)).on
      { running with tbu := { running.tbu with commit := .storing } }
    let t := after (.configurationWriteComplete .agrees) s
    t.tbu.commit = .idle ∧ t.nvs.state = .idle
      ∧ sent t = some (.notice ⟨.commit .done, 1⟩) := by decide +kernel

/-- R48, R197: a verify read that disagrees posts STORE FAULT, then COMMIT STORE_FAILED. -/
theorem test_configurationWriteComplete_disagrees :
    let s := (WriteScene.mk .writingConfig (.config tables)).on
      { running with tbu := { running.tbu with commit := .storing } }
    let t := after (.configurationWriteComplete (.disagrees .failing)) s
    t.tbu.commit = .idle ∧ t.nvs.state = .failed
      ∧ sent t = some (.notice ⟨.storeFault, 1⟩)
      ∧ t.bli.board = [⟨.commit .storeFailed, 1⟩] := by decide +kernel

/-- 10.5, order A: record 3 complete, and the configuration write begins, with 7 and 9 pending. -/
theorem test_accountRecordWriteComplete :
    let s := (recordWrite 3).on running
    let s1 := { s with nvs := { s.nvs with
      pendingConfig := true
      pendingAccounts := (s.nvs.pendingAccounts.set 7 true).set 9 true } }
    let n := (after (.accountRecordWriteComplete .agrees) s1).nvs
    n.state = .writingConfig ∧ n.pendingConfig = false ∧ n.pendingList = [7, 9] := by decide +kernel

/-! ## The building link -/

/-- R152: a start code begins a frame. -/
theorem test_blCharacterReceived_start :
    (after (.blCharacterReceived true 0xA5#8 false) running).bli.rx = .inFrame := by decide +kernel

/-- R153, R204: TIME (2031, day 46) from 31 to 52 is covered by the CRC DFDAh, computed by hand from
R204; its last character brings the message, which sets the absent ledger date (R87). -/
theorem test_blCharacterReceived_goodFrame :
    let s := { running with bli := { running.bli with
      rx := .inFrame
      frame := [0x34#8, 0x1F#8, 0x02#8, 0x04#8, 0x07#8, 0xEF#8, 0x00#8, 0x2E#8, 0xDF#8] } }
    let t := after (.blCharacterReceived true 0xDA#8 false) s
    t.bli.rx = .hunting ∧ t.dau.ledger = some ⟨2031, 46⟩ := by decide +kernel

/-- R152: a gap inside a frame posts LINK_ERROR BAD_CHECK. -/
theorem test_frameGapTimeout :
    let s := { running with bli := { running.bli with rx := .inFrame, frame := [0x34#8] } }
    let t := after .frameGapTimeout s
    t.bli.rx = .hunting ∧ sent t = some (.notice ⟨.linkError .badCheck, 1⟩) := by decide +kernel

/-- 7.8, at 9.55 ms: the reply leaves before the notices, and a waiting message is taken into the
freed reply slot. -/
theorem test_transmissionEnd :
    let a : ReplyMsg := ⟨31#8, .reply ⟨2#8, .ok, .nothing⟩⟩
    let s := { running with bli := { running.bli with
      tx := .sending (.notice ⟨.accessFault, 1⟩), replySlot := some a
      board := [⟨.storeFault, 1⟩], holding := [⟨31#8, kindRequest, [4#8]⟩] } }
    let t := after (.transmissionEnd false) s
    sent t = some (.answer a) ∧ t.bli.holding = []
      ∧ t.bli.replySlot = some ⟨31#8, .reply ⟨4#8, .ok, .fault none⟩⟩
      ∧ t.bli.board = [⟨.storeFault, 1⟩] := by decide +kernel

/-- 6.11: SET (301, node 21, 480) is TAKEN with effective target 480 and no flag. -/
theorem test_commandSet :
    sent (after (.commandSet from31 301#16 21#8 480#16) (withActuator 4 humidifier running))
      = result 31#8 301#16 .taken (.set (some 480) false false) := by decide +kernel

/-- 6.11, a higher request: SET (302, node 21, 600) is TAKEN with effective target 580 and CLAMPED, and
301 is SUPERSEDED. -/
theorem test_commandSet_clamped :
    let r := { humidifier with
      delivered := some 490, target := some 480, latestSet := some 301#16, nextTag := 6#3 }
    let t := after (.commandSet from31 302#16 21#8 600#16) (withActuator 4 r running)
    sent t = result 31#8 302#16 .taken (.set (some 580) true false)
      ∧ t.bli.board = [⟨.commandOutcome 21 301#16 .superseded, 1⟩] := by decide +kernel

/-- R128: IDENTIFY joins the queue of node 21, which then holds one entry. -/
theorem test_commandAction :
    let t := after (.commandAction from31 40#16 21#8 2#16) (withActuator 4 humidifier running)
    sent t = result 31#8 40#16 .taken (.action 1)
      ∧ ((t.cgu.actuators.get 4).map (·.queue)) = some [⟨40#16, .identify⟩] := by decide +kernel

/-- R126, check 3: a body of 5 bytes is RANGE, with its id. -/
theorem test_commandNeitherSetNorAction :
    sent (after (.commandNeitherSetNorAction from31 [1#8, 45#8, 21#8, 1#8, 0#8]) running)
      = result 31#8 301#16 .range .nothing := by decide +kernel

/-- What 4.13's race begins with: account 7 and the entry that requester 31 holds. -/
structure RaceScene where
  account : AccountDyn
  entry : Monitor

/-- The part on day 45 of 2031 with a scene's account 7 and entry 0. -/
def RaceScene.state (r : RaceScene) : State :=
  { running with
    dau := { (running.dau.setAccount 7 r.account) with
      ledger := some ⟨2031, 45⟩
      monitors := Dau.reset.monitors.set 0 r.entry } }

/-- Account 7 of 4.13, after cycle 805. -/
def spentSeven : AccountDyn :=
  { AccountDyn.reset with
    state := .dailySpent, usedToday := 728100, usedYear := 123469100, last := 200
    revision := 12#16 }

/-- The part of 4.13 before the race. -/
def beforeRace : State := (RaceScene.mk spentSeven (.open_ ⟨31#8, 7, 12#16, 1⟩)).state

/-- 4.13, order B: TIME (2031, 46) makes account 7 OPEN with used today 0 and revision 13, and lapses
entry 0. -/
theorem test_time_rollover :
    let t := after (.time from31 [0x07#8, 0xEF#8, 0x00#8, 0x2E#8]) beforeRace
    (t.dau.accounts.get 7)
        = { spentSeven with state := .open_, usedToday := 0, revision := 13#16 }
      ∧ t.dau.monitors.get 0 = .lapsed ⟨31#8, 7, 12#16, 1⟩
      ∧ t.dau.ledger = some ⟨2031, 46⟩ := by decide +kernel

/-- R157, R205: an unknown message kind is answered UNKNOWN_REQUEST with code 0. -/
theorem test_unknownMessageKind :
    sent (after (.unknownMessageKind from40 9#8 []) running)
      = some (.answer ⟨40#8, .reply ⟨0#8, .unknownRequest, .nothing⟩⟩) := by decide +kernel

/-- R171, R205: request code 19 is answered UNKNOWN_REQUEST with the code. -/
theorem test_unknownRequest :
    sent (after (.unknownRequest from40 [19#8]) running)
      = some (.answer ⟨40#8, .reply ⟨19#8, .unknownRequest, .nothing⟩⟩) := by decide +kernel

/-! ## Requests -/

/-- R36: the active Slot Map record 5 of 1.10 is node 22, SHADE, zone 2. -/
theorem test_readRecord :
    sent (after (.readRecord from40 [1#8, 5#8, 1#8, 0#8]) running)
      = reply 40#8 .readRecord .ok
        (.records .slotMap 5 [.slot ⟨some 2, some 22, none, some 3, some 2, none⟩]) := by
  decide +kernel

/-- 8.9: the Requester Table needs COMMISSION; requester 31 is DENIED, and the record sets further. -/
theorem test_readRecord_denied :
    let f : AccessFault := ⟨40#8, .request .holdOccupied, some [4#8], false⟩
    let s := { running with mrh := { Mrh.reset with fault := some f } }
    let t := after (.readRecord from31 [5#8, 0#8, 2#8, 0#8]) s
    sent t = reply 31#8 .readRecord .denied .nothing
      ∧ t.mrh.fault = some { f with further := true } := by decide +kernel

/-- R175: the LINK subject of a part with own address 52 and nothing waiting. -/
theorem test_readState :
    sent (after (.readState from40 [13#8, 0#8, 0#8]) running)
      = reply 40#8 .readState .ok
        (.reading .closed 416#16 (.link 52#8 0 0 false false)) := by decide +kernel

/-- R175, R205: a CLIMATE record with nothing delivered and no target sends 8000h for each, the absent
effective target too; R122 gives the order. -/
theorem test_readState_absentClimateTargets :
    (Reading.actuator (some (ActuatorRecord.fresh 9 .climate 3 7, none))).bytes
      = [9#8, 2#8, 3#8, 7#8, 0#8, 0#8, 0x80#8, 0#8, 0x80#8, 0#8, 0xFF#8, 0xFF#8, 0xFF#8, 0#8, 0#8, 0#8,
        0x80#8, 0#8] := by decide +kernel

/-- 4.13: LINK READ ACCOUNT opens entry 0 for requester 31 at revision 12, opening order 1. -/
theorem test_linkReadAccount :
    ((after (.linkReadAccount from31 [7#8]) (withAccount spentSeven running)).dau.monitors.get 0)
      = .open_ ⟨31#8, 7, 12#16, 1⟩ := by decide +kernel

/-- 8.9: READ FAULT shows the first denial, and does not change it. -/
theorem test_readFault :
    let f : AccessFault := ⟨40#8, .request .holdOccupied, some [4#8], true⟩
    let t := after (.readFault from40 []) { running with mrh := { Mrh.reset with fault := some f } }
    sent t = reply 40#8 .readFault .ok (.fault (some f)) ∧ t.mrh.fault = some f := by decide +kernel

/-- R178, R205: after 01h the record is sent as address, kind, subject and further. -/
theorem test_readFault_order :
    (Contents.fault (some ⟨40#8, .request .holdOccupied, some [4#8], true⟩)).bytes
      = [1#8, 40#8, byte (ReqKind.code .holdOccupied), 4#8, 1#8] := by decide +kernel

/-- 3.11: CLEAR LATCH (2, RH, HIGH) is STILL_ACTIVE while the side is ALARM. -/
theorem test_clearLatch_stillActive :
    let s := withRh (rhRecord (some .alarmHi) none 0) ⟨.normal, .alarm, .live, false, true⟩ running
    let t := after (.clearLatch from31 [2#8, 1#8, 1#8]) s
    sent t = reply 31#8 .clearLatch .stillActive .nothing
      ∧ (t.cmu.cond 2 .rh).highLatch = true := by decide +kernel

/-- 3.11, after cycle close (607): OK, the latch cleared, ALERT deasserted. -/
theorem test_clearLatch_ok :
    let s := withRh (rhRecord (some .normal) none 0) ⟨.normal, .normal, .live, false, true⟩ running
    let t := after (.clearLatch from31 [2#8, 1#8, 1#8])
      { s with cmu := { s.cmu with alert := true } }
    sent t = reply 31#8 .clearLatch .ok .nothing ∧ t.cmu.alert = false
      ∧ (t.cmu.cond 2 .rh).highLatch = false := by decide +kernel

/-- 5.7: HOLD OCCUPIED for 1 minute: count 2, VACANT_PENDING, 60 s, ceiling 250, TABLE. -/
theorem test_holdOccupied :
    let g := (GalleryScene.mk ⟨.vacantPending, 2, none, some 250, some .table⟩).state
    let s := { g with flc := running.flc }
    sent (after (.holdOccupied from31 [2#8, 0#8, 1#8]) s)
      = reply 31#8 .holdOccupied .ok
        (.zone ⟨.vacantPending, 2, some 60, some 250, some .table⟩) := by decide +kernel

/-- 8.9: HOLD OCCUPIED (4, 30) from 40 is DENIED and recorded with its zone. -/
theorem test_holdOccupied_denied :
    let t := after (.holdOccupied from40 [4#8, 0#8, 30#8]) running
    sent t = reply 40#8 .holdOccupied .denied .nothing
      ∧ t.mrh.fault = some ⟨40#8, .request .holdOccupied, some [4#8], false⟩
      ∧ t.bli.board = [⟨.accessFault, 1⟩] := by decide +kernel

/-- 5.7: a RELEASE HOLD after cycle close (906) lowers the ceiling to 50. -/
theorem test_releaseHold :
    let g := (GalleryScene.mk ⟨.vacant, 5, some 30, some 250, some .table⟩).state
    let s := { g with flc := running.flc }
    ((after (.releaseHold from31 [2#8]) s).zcu.zones.get 2)
      = ⟨.vacant, 5, none, some 50, some .restVacant⟩ := by decide +kernel

/-- 4.13, order A: the grant of 30 lux·h makes account 7 OPEN at revision 13, and frees entry 0. -/
theorem test_grantExtension :
    let t := after (.grantExtension from31 [7#8, 0#8, 30#8]) beforeRace
    sent t = reply 31#8 .grantExtension .ok (.grant 30 13#16 .open_)
      ∧ t.dau.monitors.get 0 = .free ∧ (t.dau.accounts.get 7).usedToday = 728100 := by
  decide +kernel

/-- 4.13, order B: the grant after the rollover is LINK_LOST, and the entry becomes FREE. -/
theorem test_grantExtension_linkLost :
    let s := { beforeRace with dau := { beforeRace.dau with
      monitors := Dau.reset.monitors.set 0 (.lapsed ⟨31#8, 7, 12#16, 1⟩) } }
    let t := after (.grantExtension from31 [7#8, 0#8, 30#8]) s
    sent t = reply 31#8 .grantExtension .linkLost .nothing ∧ t.dau.monitors.get 0 = .free
      ∧ (t.dau.accounts.get 7).extension = 0 := by decide +kernel

/-- R189: the three settings are replaced together. -/
theorem test_statsControl :
    (after (.statsControl from31 [1#8, 0x00#8, 0x04#8, 0#8, 0xFC#8, 0#8, 0#8]) running).xsu
      = { running.xsu with enable := true, zoneMask := 0x0004#16, combine := ⟨0, 0xFC#8, 0, 0⟩ } := by
  decide +kernel

/-- R190: every bin counter becomes 0. -/
theorem test_statsClear :
    let h := running.xsu.histograms
    let s := { running with xsu := { running.xsu with
      histograms := { h with rh := h.rh.set 2 ⟨18, true⟩ } } }
    ((after (.statsClear from31 []) s).xsu.histograms.rh.get 2) = ⟨0, false⟩ := by decide +kernel

/-- 8.9: CLEAR FAULT shows the record as it stood, and empties it. -/
theorem test_clearFault :
    let f : AccessFault := ⟨40#8, .request .holdOccupied, some [4#8], true⟩
    let t := after (.clearFault from31 []) { running with mrh := { Mrh.reset with fault := some f } }
    sent t = reply 31#8 .clearFault .ok (.fault (some f)) ∧ t.mrh.fault = none := by decide +kernel

/-- 2.10: Slot Map index 6 becomes SENSOR, node 14, UV, zone 2 in the staged copy alone. -/
theorem test_writeRecord :
    let t := after (.writeRecord from33 [1#8, 6#8, 1#8, 1#8, 14#8, 3#8, 0xFF#8, 2#8, 0xFF#8]) running
    t.tbu.staged.slots.get 6 = sensor 14 3 2 none
      ∧ (t.tbu.active.slots.get 6).isUsed = false := by decide +kernel

/-- 2.10: a WRITE RECORD in PENDING_SWAP is BUSY. -/
theorem test_writeRecord_busy :
    let s := { running with tbu := { running.tbu with
      commit := .pendingSwap, swapCycle := some 520#16 } }
    sent (after (.writeRecord from33 [0#8, 0#8, 1#8, 5#8, 3#8, 3#8, 30#8, 3#8, 0x84#8, 0#8, 0#8]) s)
      = reply 33#8 .writeRecord .busy .nothing := by decide +kernel

/-- R38: DISCARD STAGED gives back the active copy. -/
theorem test_discardStaged :
    let s := { running with tbu := { running.tbu with staged := Tables.blank } }
    ((after (.discardStaged from33 []) s).tbu.staged.slots.get 0) = sensor 11 0 2 none := by
  decide +kernel

/-- 2.10: a COMMIT during slot 3 of cycle 520 is ACCEPTED with swap cycle 520. -/
theorem test_commit :
    let s := inPhase 3 .window { running with flc := { running.flc with cycle := 520#16 } }
    let t := after (.commit from33 []) s
    sent t = reply 33#8 .commit .accepted .nothing ∧ t.tbu.commit = .pendingSwap
      ∧ t.tbu.swapCycle = some 520#16 := by decide +kernel

/-- R40: a staged copy without a used slot is INVALID with NO_SLOTS, Slot Map, index 0. -/
theorem test_commit_noSlots :
    let s := { running with tbu := { running.tbu with staged := Tables.blank } }
    sent (after (.commit from33 []) s)
      = reply 33#8 .commit .invalid (.invalid .slotMap 0 .noSlots) := by decide +kernel

/-- R97: SUSPEND ACCOUNT makes account 7 SUSPENDED at revision 13. -/
theorem test_suspendAccount :
    let r := (after (.suspendAccount from33 [7#8]) beforeRace).dau.accounts.get 7
    r = { spentSeven with state := .suspended, revision := 13#16 } := by decide +kernel

/-- R98: RESUME ACCOUNT evaluates account 7 from its counts: DAILY_SPENT. -/
theorem test_resumeAccount :
    let s := withAccount { spentSeven with state := .suspended } running
    ((after (.resumeAccount from33 [7#8]) s).dau.accounts.get 7)
      = { spentSeven with revision := 13#16 } := by decide +kernel

/-- R99: SEED ACCOUNT with 150,000 lux·h sets used year to 540,000,000 lux·s: ANNUAL_SPENT. -/
theorem test_seedAccount :
    let t := after (.seedAccount from33 [7#8, 0x00#8, 0x02#8, 0x49#8, 0xF0#8]) beforeRace
    let r := t.dau.accounts.get 7
    r.usedYear = 540000000 ∧ r.state = .annualSpent ∧ r.usedToday = 728100 := by decide +kernel

/-- 8.10: RESTART sets restart pending, closes taking and is answered OK. -/
theorem test_restart :
    let t := after (.restart from33 []) running
    t.mrh.restartPending = true ∧ t.bli.takingOpen = false
      ∧ sent t = reply 33#8 .restart .ok .nothing := by decide +kernel

/-- R4: a second takes one from the seconds remaining; the model has it pass on an empty queue
(assumption log 5). -/
theorem test_emptyQueue_secondPasses :
    step { running with flc := { running.flc with timer := some 10 } }
      = .next { running with flc := { running.flc with timer := some 9 } } := rfl

/-! ## Witnesses: a state and operands that meet the hypotheses of each obligation

Each theorem is named after its obligation, and its parts after the obligation's clauses. -/

/-- The part with one command waiting. -/
def waiting (c : Instr) (s : State) : State := { s with pending := [c] }

/-- A board at its bounds: 63 keyed entries and BOARD_FULL, merge counts 1 and 255. -/
def fullBoard : List BoardEntry :=
  (List.finRange 48).map (fun k => ⟨.fieldNoise k, 1⟩)
    ++ (List.finRange 15).map (fun z => ⟨.zoneCeiling (z.castLE (by decide)) none none, 255⟩)
    ++ [⟨.boardFull, 255⟩]

/-- The part with another board. -/
def withBoard (b : List BoardEntry) (s : State) : State := { s with bli := { s.bli with board := b } }

theorem test_witness_stepKeepsBoardBounds :
    let s := waiting .frameGapTimeout (withBoard fullBoard
      { running with bli := { running.bli with
        rx := .inFrame, tx := .sending (.notice ⟨.storeFault, 1⟩) } })
    s.bli.BoardWf ∧ ∃ t, step s = .next t := by
  refine ⟨?_, _, rfl⟩
  unfold Bli.BoardWf
  decide +kernel

theorem test_witness_stepKeepsYearCoversToday :
    let s := waiting .slotEnd (settled 5 .skipped (withAccount
      { AccountDyn.reset with
        state := .open_, usedToday := 2 ^ 48 - 1, usedYear := 2 ^ 48 - 1 } running))
    s.dau.YearCoversToday ∧ ∃ t, step s = .next t := by
  refine ⟨?_, _, rfl⟩
  unfold Dau.YearCoversToday
  decide +kernel

/-- What the accounts' step statement supposes, of a part about to take a command. -/
structure AccountPremises (s : State) : Prop where
  monitors : s.dau.MonitorsSound
  clean : s.StartsClean
  tables : s.TablesValid
  accounts : s.AccountsFollow
  steps : ∃ t, step s = .next t

/-- 4.13: requester 31's entry is OPEN at account 7's revision, and account 7 is DAILY_SPENT by its
counts, when the grant comes. -/
theorem test_witness_stepKeepsYearCoversToday_monitors :
    AccountPremises (waiting (.grantExtension from31 [7#8, 0#8, 30#8]) beforeRace) := by
  have only : ∀ i : Fin 4, beforeRace.dau.monitors.get i
      = if i = 0 then .open_ ⟨31#8, 7, 12#16, 1⟩ else .free := by decide +kernel
  have valid : validate tables = none := by decide +kernel
  refine ⟨⟨?_, ?_, ?_, ?_⟩, ?_, ⟨fun _ => valid, fun h => ?_, fun h => ?_⟩, ?_, _, rfl⟩
  · intro i j e f he hf _
    change (beforeRace.dau.monitors.get i).entry? = some e at he
    change (beforeRace.dau.monitors.get j).entry? = some f at hf
    rw [only] at he hf
    by_cases hi : i = 0 <;> by_cases hj : j = 0 <;> simp_all [Monitor.entry?]
  · intro i e he
    change beforeRace.dau.monitors.get i = .open_ e at he
    rw [only] at he
    by_cases hi : i = 0
    · simp only [hi, if_true, Monitor.open_.injEq] at he
      subst he
      decide +kernel
    · simp [hi] at he
  · intro i e he
    change (beforeRace.dau.monitors.get i).entry? = some e at he
    rw [only] at he
    by_cases hi : i = 0
    · simp only [hi, if_true, Monitor.entry?, Option.some.injEq] at he
      subst he
      decide +kernel
    · simp [hi, Monitor.entry?] at he
  · intro i j e f he hf _
    change (beforeRace.dau.monitors.get i).entry? = some e at he
    change (beforeRace.dau.monitors.get j).entry? = some f at hf
    rw [only] at he hf
    by_cases hi : i = 0 <;> by_cases hj : j = 0 <;> simp_all [Monitor.entry?]
  · constructor <;> exact fun h => absurd h (by decide)
  · exact absurd h (by decide)
  · exact absurd h (by decide)
  · unfold State.AccountsFollow
    decide +kernel

theorem test_witness_stepKeepsFieldlineCoherent :
    let s := waiting .cycleTimerExpiry running
    s.flc.Coherent ∧ ∃ t, step s = .next t := by
  refine ⟨?_, _, rfl⟩
  constructor <;> decide +kernel

/-- A part that still starts up, about to judge its image. -/
def startingUp : State := waiting (.configurationImageRead 4#4) State.reset

theorem test_witness_stepKeepsStartUpClean :
    startingUp.StartsClean ∧ ∃ t, step startingUp = .next t := by
  refine ⟨?_, _, rfl⟩
  constructor <;> decide +kernel

/-- The running part starts clean, since it no longer starts up. -/
theorem running_startsClean : running.StartsClean := by
  constructor <;> exact fun h => absurd h (by decide)

theorem test_witness_stepKeepsAlertTrue :
    let s := waiting (.clearLatch from31 [2#8, 1#8, 1#8])
      { withRh (rhRecord (some .normal) none 0) ⟨.normal, .normal, .live, false, true⟩ running with
        pending := [] }
    let s1 := { s with cmu := { s.cmu with alert := true } }
    s1.StartsClean ∧ s1.AlertFollows ∧ ∃ t, step s1 = .next t := by
  refine ⟨?_, ?_, _, rfl⟩
  · constructor <;> exact fun h => absurd h (by decide)
  · unfold State.AlertFollows
    decide +kernel

theorem test_witness_stepKeepsCeilingsFromTable :
    let s := waiting .slotEnd (settled 5 .skipped running)
    s.StartsClean ∧ s.CeilingsFollow ∧ ∃ t, step s = .next t := by
  refine ⟨?_, ?_, _, rfl⟩
  · constructor <;> exact fun h => absurd h (by decide)
  · unfold State.CeilingsFollow
    decide +kernel

theorem test_witness_stepKeepsCommitAndStoreAgreeing :
    let s := waiting (.configurationWriteComplete .agrees) ((WriteScene.mk .writingConfig
      (.config tables)).on { running with tbu := { running.tbu with commit := .storing } })
    s.StoreCoherent ∧ ∃ t, step s = .next t := by
  refine ⟨?_, _, rfl⟩
  constructor <;> decide +kernel

theorem test_witness_timerExpiryBeginsNextCycle : running.flc.state = .closed := by decide

/-- The FLC in a state outside SLOT, with a slot count. -/
def flcIn (x : FlcState) (n : Nat) (s : State) : State :=
  { s with flc := { s.flc with state := x, slotCount := some n } }

theorem test_witness_markEndSendsHeader :
    ((flcIn .mark 0 running).flc.state = .mark ∧ (flcIn .mark 0 running).flc.slotCount = some 0)
      ∧ (flcIn .mark 48 running).flc.state = .mark
      ∧ (flcIn .mark 48 running).flc.slotCount = some 48 ∧ 48 ≤ 48 := by decide

/-- The part at the end of a header, with a Slot Map record in slot 0. -/
def atHeaderEnd (r : SlotRec) : State :=
  { flcIn .header 6 running with
    tbu := { running.tbu with active := { tables with slots := tables.slots.set 0 r } } }

theorem test_witness_headerEndStartsSlotZero :
    let unused := atHeaderEnd ⟨some 0, none, none, none, none, none⟩
    let sensed := atHeaderEnd (sensor 62 0 2 none)
    let acted := atHeaderEnd (actuator 62 0 2)
    (unused.flc.state = .header ∧ (unused.tbu.active.slots.get 0).isUsed = false)
      ∧ (sensed.flc.state = .header ∧ (sensed.tbu.active.slots.get 0).isSensor = true)
      ∧ (acted.flc.state = .header ∧ (acted.tbu.active.slots.get 0).isActuator = true) := by
  decide +kernel

theorem test_witness_lineEventsSettleTheSlot :
    (inPhase 0 .calling running).flc.phase = some .calling
      ∧ (inPhase 47 .window running).flc.phase = some .window
      ∧ (inPhase 47 .guard running).flc.phase = some .guard := by decide

/-- The FLC receiving an answer in a slot, with a call and the characters held. -/
def receiving (k : Fin 48) (call : Call) (cs : List Byte) : Flc :=
  { (inPhase k .receiving running).flc with call := some call, answer := cs }

theorem test_witness_answerGathersOrBreaks :
    let f := receiving 0 .poll [0x0B#8, 0x20#8, 0#8, 0#8]
    (f.phase = some .receiving ∧ f.answer.length < 5) ∧ f.answer ≠ [] := by decide

/-- Slot 0 polled (a sensor), slot 2 polled and slot 2 sent a SET (an actuator, node 20). -/
theorem test_witness_sixthCharacterIsClassified :
    let polled := receiving 0 .poll [0x0B#8, 0x20#8, 0#8, 0xD7#8, 0#8]
    let acted := receiving 2 .poll [0x14#8, 0x28#8, 0#8, 0#8, 0#8]
    let called := receiving 2 (.set 350 3) [0x14#8, 0x33#8, 0x01#8, 0x5E#8, 0#8]
    (polled.phase = some .receiving ∧ polled.slot = some 0 ∧ polled.call = some .poll)
      -- a sum other than FFh, and a sum of FFh
      ∧ (0x0B#8 + 0x20#8 + 0#8 + 0xD7#8 + 0#8 + 0xFE#8 ≠ 0xFF#8
        ∧ 0x0B#8 + 0x20#8 + 0#8 + 0xD7#8 + 0#8 + 0xFD#8 = 0xFF#8)
      -- a sensor slot with its node, and with another node
      ∧ ((tables.slots.get 0).node = some 0x0B ∧ (tables.slots.get 0).node ≠ some 0x0C
        ∧ (tables.slots.get 0).sensorQuantity = some .temp)
      -- the answer kinds 4, 5, 6 and 7 in code characters 20h, 28h, 33h and 38h
      ∧ (0x20 / 8 = 4 ∧ 0x28 / 8 = 5 ∧ 0x33 / 8 = 6 ∧ 0x38 / 8 = 7)
      -- an actuator slot polled, and sent a SET
      ∧ (acted.call = some .poll ∧ called.call = some (.set 350 3) ∧ called.slot = some 2
        ∧ (tables.slots.get 2).node = some 0x14
        ∧ (tables.slots.get 2).sensorQuantity = none) := by decide +kernel

theorem test_witness_fieldNoisePostsOncePerSlot :
    let s := inPhase 47 .silent running
    let s1 := { s with flc := { s.flc with noise := true } }
    (s.flc.phase = some .silent ∧ s.flc.slot = some 47 ∧ s.flc.noise = false
        ∧ s.order.eager = false)
      ∧ (s1.flc.phase = some .silent ∧ s1.flc.slot = some 47 ∧ s1.flc.noise = true) := by
  decide +kernel

/-- A slot whose outcome is settled can end with it. -/
theorem settled_ends (k : Fin 48) (o : SlotOutcome) (s : State) : (settled k o s).flc.Ends k o :=
  ⟨rfl, rfl, .inr (.inr ⟨rfl, rfl⟩)⟩

/-- An UNUSED slot. -/
def unusedSlot : SlotRec := ⟨some 0, none, none, none, none, none⟩

/-- The part on other tables, with fresh records. -/
def onTables (t : Tables) : State :=
  { running with tbu := { Tbu.reset with active := t, staged := t }, cmu := cmuAtStart t }

/-- A silent slot and a slot in its guard time can end too. -/
theorem test_witness_slotEndRecordsAndGoesOn :
    (settled 4 .missing running).flc.Ends 4 .missing ∧ ¬ (settled 4 .missing running).flc.Last 4
      ∧ ((3 : Fin 48).val = (2 : Fin 48).val + 1 ∧ ¬ (settled 2 .missing running).flc.Last 2)
      ∧ (inPhase 5 .silent running).flc.Ends 5 .skipped ∧ (inPhase 5 .silent running).flc.Last 5
      ∧ { (inPhase 0 .guard running).flc with provisional := some .wrongNode }.Ends 0 .wrongNode := by
  refine ⟨settled_ends _ _ _, ?_, ⟨rfl, ?_⟩, ⟨rfl, rfl, .inl ⟨rfl, rfl⟩⟩, ?_,
    ⟨rfl, rfl, .inr (.inl ⟨rfl, _, rfl, rfl⟩)⟩⟩
  · unfold Flc.Last
    decide
  · unfold Flc.Last
    decide
  · unfold Flc.Last
    decide

/-- The next slot polls a sensor (1), decides an actuator's call (2), or is UNUSED (1 of other
tables). -/
theorem test_witness_slotEndRecordsAndGoesOn_next :
    let unused := onTables { tables with slots := slotMap.set 1 unusedSlot }
    (running.tbu.active.slots.get 1).isSensor = true
      ∧ (running.tbu.active.slots.get 2).isActuator = true
      ∧ (callDecision 2 (recordAndHandOver 1 .missing (settled 1 .missing running))).2.isSome = true
      ∧ (unused.tbu.active.slots.get 1).isUsed = false
      ∧ ((settled 0 .missing unused).flc.Ends 0 .missing
        ∧ ¬ (settled 0 .missing unused).flc.Last 0)
      ∧ ((settled 0 .missing running).flc.Ends 0 .missing
        ∧ ¬ (settled 0 .missing running).flc.Last 0)
      ∧ ((settled 1 .missing running).flc.Ends 1 .missing
        ∧ ¬ (settled 1 .missing running).flc.Last 1) := by
  refine ⟨by decide +kernel, by decide +kernel, by decide +kernel, by decide +kernel,
    ⟨settled_ends _ _ _, ?_⟩, ⟨settled_ends _ _ _, ?_⟩, settled_ends _ _ _, ?_⟩ <;>
  · unfold Flc.Last
    decide

/-- A TEMP sample of 851 is out of range, and a MISSING slot has no sample. -/
theorem test_witness_noAcceptedSampleLeavesRecords :
    let s := settled 0 (sample 851) running
    let s1 := settled 0 .missing running
    (s.flc.Ends 0 (sample 851) ∧ ¬ s.flc.Last 0 ∧ (0 : Fin 48).val < 47
        ∧ (s.tbu.active.slots.get 0).sensorQuantity = some .temp
        ∧ ∀ v c, sample 851 = .good (.sample v false false c) → Quantity.temp.accepts v = false)
      ∧ (s1.flc.Ends 0 .missing
        ∧ ∀ v c, SlotOutcome.missing = .good (.sample v false false c) →
            Quantity.temp.accepts v = false) := by
  refine ⟨⟨settled_ends _ _ _, ?_, by decide, by decide +kernel, ?_⟩, settled_ends _ _ _, ?_⟩
  · unfold Flc.Last
    decide
  · intro v c h
    cases h
    decide
  · intro v c h
    cases h

/-- Refused for FAULT, with WARMING set too, and for WARMING; a PRESENCE and an OUTDOOR slot that are
MISSING. -/
theorem test_witness_noAcceptedSampleLeavesRecords_standings :
    let refused := fun fault : Bool => SlotOutcome.good (.sample 210 fault true false)
    let outdoor : SlotRec := ⟨some 1, some 43, some 5, none, none, none⟩
    let map := (slotMap.set 6 (sensor 30 4 2 none)).set 7 outdoor
    let silent := fun (k : Fin 48) => settled k .missing { onTables { tables with slots := map } with
      flc := { running.flc with slotCount := some 9 } }
    (∀ fault v c, refused fault = .good (.sample v false false c) →
        Quantity.temp.accepts v = false)
      ∧ ((silent 6).tbu.active.slots.get 6).sensorQuantity = some .presence
      ∧ ((silent 7).tbu.active.slots.get 7).sensorQuantity = some .outdoor
      ∧ 7 + 1 < num (silent 7).flc.slotCount := by
  refine ⟨fun fault v c h => ?_, by decide +kernel, by decide +kernel, by decide +kernel⟩
  cases h

theorem test_witness_acceptedSampleUpdatesRecord :
    let s := settled 0 (sample 850) running
    s.flc.Ends 0 (.good (.sample 850 false false false)) ∧ ¬ s.flc.Last 0 ∧ (0 : Fin 48).val < 47
      ∧ (s.tbu.active.slots.get 0).sensorQuantity = some .temp ∧ Quantity.temp.accepts 850 = true
      ∧ s.cmu.sensors.get 0 = some (.fresh 11 .temp) := by
  refine ⟨settled_ends _ _ _, ?_, by decide, by decide +kernel, by decide, by decide +kernel⟩
  unfold Flc.Last
  decide

/-- A slot that ends with an accepted sample. -/
structure SampleScene where
  slot : Fin 48
  value : Int
  part : State

/-- The part of a scene, at the slot's end. -/
def SampleScene.state (x : SampleScene) : State :=
  settled x.slot (sample x.value) { x.part with flc := { x.part.flc with slotCount := some 48 } }

/-- What a scene's slot senses, where it can end, is no last slot and its sample is accepted. -/
def SampleScene.takes (x : SampleScene) (q : Quantity) : Bool :=
  (x.state.flc.state == .slot) && (x.state.flc.settled == some (sample x.value))
    && decide (x.slot.val + 1 < num x.state.flc.slotCount)
    && ((x.state.tbu.active.slots.get x.slot).sensorQuantity == some q) && q.accepts x.value
    && (x.state.cmu.sensors.get x.slot).isSome

/-- The gallery's tables with an outdoor sensor in slot 15 (R63). -/
def outdoorTables : Tables :=
  { galleryTables with slots := galleryTables.slots.set 15 ⟨some 1, some 43, some 5, none, none, none⟩ }

/-- Samples that move one block each: a TEMP and an RH sample with a class, an RH sample of a CURVE zone
without one, a LUX sample of 65000 for account 7, a VACANT and an OCCUPIED presence sample of a zone
that was OCCUPIED, VACANT, and VACANT with its account spent, and the two ends of the outdoor range. -/
theorem test_witness_acceptedSampleUpdatesRecord_blocks :
    let curve := { tables with zones := tables.zones.set 2 { zoneTwo with
      rhMode := some 1, rhWarnHalf := some 50, rhAlarmHalf := some 100 } }
    let gallery := fun (z : ZoneDyn) => (GalleryScene.mk z).state
    let vacant : ZoneDyn := ⟨.vacant, 3, none, some 50, some .restVacant⟩
    let at_ := fun (k : Fin 48) (v : Int) (s : State) => SampleScene.mk k v s
    let class_ := fun (t : Tables) (q : CondQ) (v : Int) => sampleClass t none (t.zoneRec 2) q v
    (at_ 0 850 running).takes .temp = true
      ∧ ((at_ 1 1000 running).takes .rh = true ∧ CondQ.rh.quantity = .rh
        ∧ (tables.slots.get 1).zoneIndex = some 2 ∧ class_ tables .rh 1000 = some .alarmHi
        ∧ tables.zoneEnabled 2 = true)
      ∧ ((at_ 1 500 (onTables curve)).takes .rh = true ∧ class_ curve .rh 500 = none)
      ∧ ((at_ 3 65000 running).takes .lux = true ∧ (tables.slots.get 3).accountIndex = some 7
        ∧ (running.dau.accounts.get 7).state ≠ .idle)
      ∧ ((at_ 12 0 (gallery vacant)).takes .presence = true
        ∧ (galleryTables.slots.get 12).zoneIndex = some 2)
      ∧ ((at_ 12 1 (gallery ⟨.occupied, 0, none, some 250, some .table⟩)).takes .presence = true)
      ∧ ((at_ 12 1 (gallery vacant)).takes .presence = true ∧ vacant.presence ≠ .occupied
        ∧ doseRest galleryTables running.dau 2 = false)
      ∧ ((at_ 12 1 (withAccount spentSeven (gallery vacant))).takes .presence = true
        ∧ doseRest galleryTables (withAccount spentSeven running).dau 2 = true)
      ∧ ((at_ 15 (-300) (onTables outdoorTables)).takes .outdoor = true
        ∧ max 0 (min 34 (((-300 : Int) + 300) / 20)) = ((0 : Fin 35).val : Int))
      ∧ ((at_ 15 500 (onTables outdoorTables)).takes .outdoor = true
        ∧ max 0 (min 34 (((500 : Int) + 300) / 20)) = ((34 : Fin 35).val : Int)) := by
  decide +kernel

/-- Limits of zone 2, and of a CURVE zone around the centre of band 10 (3.12). -/
theorem test_witness_sampleClassFollowsLimits :
    let curve := { zoneTwo with rhMode := some 1, rhWarnHalf := some 50, rhAlarmHalf := some 100 }
    ((100 : Int) < 180 ∧ (180 : Int) < 240 ∧ (240 : Int) < 280)
      ∧ (zoneTwo.tempAlarmLo = some 100 ∧ zoneTwo.tempWarnLo = some 180
        ∧ zoneTwo.tempWarnHi = some 240 ∧ zoneTwo.tempAlarmHi = some 280)
      ∧ (zoneTwo.rhMode = some 0 ∧ zoneTwo.rhAlarmLo = some 350 ∧ zoneTwo.rhWarnLo = some 420
        ∧ zoneTwo.rhWarnHi = some 580 ∧ zoneTwo.rhAlarmHi = some 650)
      ∧ (curve.rhMode = some 1 ∧ tables.drift.get 10 = some 500 ∧ curve.rhWarnHalf = some 50
        ∧ curve.rhAlarmHalf = some 100)
      ∧ (zoneTwo.luxWarnHi = some 300 ∧ zoneTwo.luxAlarmHi = some 500 ∧ 300 < 500)
      ∧ (zoneTwo.uvWarnHi = some 75 ∧ zoneTwo.uvAlarmHi = some 100 ∧ 75 < 100) := by
  decide +kernel

theorem test_witness_twoSamplesMoveAStanding :
    Machine.Class.normal ≠ .warnHi ∧ Machine.Class.warnHi ≠ .alarmHi := by decide

/-- A tracker of zone 2's RH, in the state of 9.8 before cycle 607, and the settings. -/
structure TrackerScene where
  tracker : Tracker
  enable : Bool
  zoneMask : Half
  combineRh : Byte

/-- The part with a scene's tracker and settings. -/
def TrackerScene.state (x : TrackerScene) : State :=
  { running with xsu := { running.xsu.setTracker 2 .rh x.tracker with
      enable := x.enable, zoneMask := x.zoneMask, combine := ⟨0#8, x.combineRh, 0#8, 0#8⟩ } }

/-- OPEN for 4 closes, bin 2. -/
def openFour : Tracker := ⟨.open_, 4, some .warn, none⟩

/-- The reports of a calm zone, one beyond a warning limit, one beyond an alarm limit, and one that no
live record backs. -/
def reportOf (high : SideClass) (coverage : Coverage) : ZoneCond :=
  ⟨.normal, high, coverage, false, false⟩

/-- Each row of R185; then enable clear, the zone's bit clear, and the bin in and out of the combine
mask, with the EXCURSION notice enabled. -/
theorem test_witness_trackerFollowsReports :
    let closed := (TrackerScene.mk .fresh true 0xFFFF#16 0#8).state
    let quiet := (TrackerScene.mk openFour true 4#16 0xFB#8).state
    let told := (TrackerScene.mk openFour true 4#16 4#8).state
    let off := (TrackerScene.mk openFour false 4#16 4#8).state
    let other := (TrackerScene.mk openFour true 0xFFFB#16 4#8).state
    let leaves := fun e : ZoneCond => e.coverage = .live ∧ (e.low ≠ .normal ∨ e.high ≠ .normal)
    let calm := reportOf .normal .live
    ((closed.xsu.tracker 2 .rh).state = .closed ∧ leaves (reportOf .warn .live)
        ∧ leaves (reportOf .alarm .live))
      ∧ ((reportOf .warn .blind).coverage ≠ .live ∧ (reportOf .normal .none).coverage ≠ .live
        ∧ calm.low = .normal ∧ calm.high = .normal ∧ calm.coverage = .live)
      ∧ [quiet, told, off, other].all (fun s => (s.xsu.tracker 2 .rh).state == .open_) = true
      ∧ ([quiet, told].all (fun s => s.xsu.enable && s.xsu.zoneMask.getLsbD 2) = true
        ∧ (quiet.xsu.combine.get .rh).getLsbD (binOf 4).val = false
        ∧ (told.xsu.combine.get .rh).getLsbD (binOf 4).val = true
        ∧ (Notice.excursion .rh 2 (binOf 4) (some .warn)).enabledBy told.tbu.active.bus.mask = true
        ∧ keyedCount told.bli.board < 63)
      ∧ off.xsu.enable = false ∧ other.xsu.zoneMask.getLsbD 2 = false := by
  decide +kernel

/-- The duration rises at a close that swaps nothing, where it is the last slot that ends. -/
theorem test_witness_trackerFollowsReports_close :
    let s := settled 5 .skipped (TrackerScene.mk openFour true 4#16 4#8).state
    s.flc.Ends 5 .skipped ∧ s.flc.Last 5 ∧ s.swapDue = false
      ∧ ((recordAndHandOver 5 .skipped s).xsu.tracker 2 .rh).state = .open_
      ∧ s.tbu.active.zoneEnabled 2 = true ∧ s.tbu.active.zoneEnabled 3 = false := by
  refine ⟨settled_ends _ _ _, ?_, by decide +kernel⟩
  unfold Flc.Last
  decide

/-- 3.11, cycle 608: slot 1 is silent for the third time. -/
theorem test_witness_silentSensorGoesStale :
    let r := rhRecord (some .alarmHi) none 2
    let s := settled 5 .skipped (withRh r ⟨.normal, .alarm, .live, false, true⟩ running)
    s.flc.Ends 5 .skipped ∧ s.flc.Last 5 ∧ s.swapDue = false
      ∧ (s.tbu.active.slots.get 1).isSensor = true
      ∧ (recordAndHandOver 5 .skipped s).cmu.sensors.get 1 = some r
      ∧ r.got = false ∧ r.health ≠ .stale
      ∧ num s.tbu.active.bus.staleLimit ≤ r.missed + 1
      ∧ s.tbu.active.zoneEnabled 2 = true := by
  refine ⟨settled_ends _ _ _, ?_, ?_⟩
  · unfold Flc.Last
    decide
  · decide +kernel

/-- 4.12: a cycle peak (cycle 800), sensors all dark (805: 300 lux), and the last value (802). -/
theorem test_witness_cycleCloseAccruesDose :
    let at_ := fun (peak : Option Nat) (h : Health) => settled 5 .skipped (withAccount
      { AccountDyn.reset with state := .open_, peak := peak, last := 200 } { running with
        cmu := running.cmu.setSensor 3 { SensorRecord.fresh 13 .lux with health := h } })
    let one := at_ (some 210) .live
    let two := at_ none .stale
    let three := at_ none .live
    (one.flc.Ends 5 .skipped ∧ one.flc.Last 5 ∧ one.swapDue = false
        ∧ one.tbu.active.accountEnabled 7 = true
        ∧ ((recordAndHandOver 5 .skipped one).dau.accounts.get 7).state ≠ .suspended
        ∧ ((recordAndHandOver 5 .skipped one).dau.accounts.get 7).peak = some 210)
      ∧ (((recordAndHandOver 5 .skipped two).dau.accounts.get 7).peak = none
        ∧ (∀ j, (two.tbu.active.slots.get j).accountIndex = some 7 →
            ((recordAndHandOver 5 .skipped two).cmu.sensors.get j).all
              (fun x => x.health != .live) = true)
        ∧ (two.tbu.active.accounts.get 7).zoneIndex = some 2
        ∧ num (two.tbu.active.zoneRec 2).luxCeiling = 300)
      ∧ (((recordAndHandOver 5 .skipped three).dau.accounts.get 7).peak = none
        ∧ (three.tbu.active.slots.get 3).accountIndex = some 7
        ∧ ((recordAndHandOver 5 .skipped three).cmu.sensors.get 3).all
            (fun x => x.health != .live) = false) := by
  refine ⟨⟨settled_ends _ _ _, ?_, by decide +kernel⟩, by decide +kernel⟩
  unfold Flc.Last
  decide

theorem test_witness_watchAndCheckpointFallAtClose :
    let s := settled 5 .skipped { running with
      dau := { running.dau with dateWatch := 93590, checkpointCounter := 890 } }
    s.flc.Ends 5 .skipped ∧ s.flc.Last 5
      ∧ (s.dau.dateStale = false
        ∧ 93600 ≤ s.dau.dateWatch + num s.tbu.active.bus.cycleInterval)
      ∧ (num s.tbu.active.bus.checkpoint
          ≤ s.dau.checkpointCounter + num s.tbu.active.bus.cycleInterval
        ∧ s.nvs.state ≠ .failed ∧ s.tbu.active.accountEnabled 7 = true) := by
  refine ⟨settled_ends _ _ _, ?_, by decide +kernel⟩
  unfold Flc.Last
  decide

/-- 5.7, cycle close (904), and the hold's last close (909). -/
theorem test_witness_vacancyAndHoldEndAtClose :
    let s := (GalleryScene.mk ⟨.vacantPending, 2, some 10, some 250, some .table⟩).state
    let s1 := recordAndHandOver 14 .missing s
    let r := s1.zcu.zones.get 2
    s.flc.Ends 14 .missing ∧ s.flc.Last 14 ∧ s.swapDue = false
      ∧ s.tbu.active.zoneEnabled 2 = true
      ∧ (r.presence ≠ .vacant ∧ s.tbu.active.presenceSlots 2 ≠ []
        ∧ (∀ j ∈ s.tbu.active.presenceSlots 2, s1.zcu.vacantSeen.get j = true)
        ∧ num (s.tbu.active.zoneRec 2).vacancyHold ≤ min (r.count + 1) 255)
      ∧ (r.hold = some 10 ∧ 10 ≤ num s.tbu.active.bus.cycleInterval) := by
  refine ⟨⟨rfl, rfl, .inr (.inr ⟨rfl, rfl⟩)⟩, ?_, by decide +kernel⟩
  unfold Flc.Last
  decide

theorem test_witness_swapMakesStagedActive :
    let s := settled 5 .skipped { running with
      tbu := { running.tbu with commit := .pendingSwap, swapCycle := some 416#16 } }
    s.flc.Ends 5 .skipped ∧ s.flc.Last 5 ∧ s.tbu.commit = .pendingSwap
      ∧ s.tbu.swapCycle = some s.flc.cycle := by
  refine ⟨settled_ends _ _ _, ?_, by decide⟩
  unfold Flc.Last
  decide

/-- Tables to swap to: node 11 moves to slot 6 and zone 4 with node 20 in slot 7, node 13 moves within
its zone, node 12 leaves and node 14 comes; zone 2 and account 7 stay, zone 4 and account 9 come. -/
def swapped : Tables :=
  { tables with
    slots := ((((((tables.slots.set 0 unusedSlot).set 1 unusedSlot).set 2 unusedSlot).set 3
      (sensor 14 3 2 none)).set 6 (sensor 11 0 4 none)).set 7 (actuator 20 0 4)).set 8
      (sensor 13 2 2 (some 7))
    zones := tables.zones.set 4 zoneTwo
    accounts := tables.accounts.set 9 accountSeven }

/-- Of the records and tables of that swap, and of the swap back, each clause of the swap work has one:
a sensor kept in another zone, kept in its zone, fresh and gone; an actuator kept and gone, and fresh
on the swap back; zones and accounts that stay, come and go. -/
theorem test_witness_swapMakesStagedActive_work :
    let s := { running with
      tbu := { running.tbu with
        staged := swapped, commit := .pendingSwap, swapCycle := some 416#16 } }
    let s1 := recordAndHandOver 5 .skipped (settled 5 .skipped s)
    let has := fun (k : Fin 48) (n : Nat) => (s1.cmu.sensors.get k).map (·.node) == some n
    let acts := fun (k : Fin 48) (n : Nat) => (s1.cgu.actuators.get k).map (·.node) == some n
    ((has 0 11 && has 1 12 && has 3 13 && acts 2 20 && acts 4 21 && acts 5 22) = true
        ∧ (List.finRange 48).all (fun k => !has k 14) = true)
      ∧ (swapped.slots.get 6).sensorQuantity = some .temp
      ∧ (swapped.slots.get 8).zoneIndex = (tables.slots.get 3).zoneIndex
      ∧ (swapped.slots.get 3).sensorQuantity = some .uv
      ∧ (swapped.slots.get 1).sensorQuantity = none
      ∧ (swapped.slots.get 7).actuatorKind = some .luminaire
      ∧ (swapped.slots.get 2).actuatorKind = none
      ∧ (tables.zoneEnabled 2 = true ∧ swapped.zoneEnabled 2 = true)
      ∧ (tables.zoneEnabled 4 = false ∧ swapped.zoneEnabled 4 = true)
      ∧ (tables.accountEnabled 7 = true ∧ swapped.accountEnabled 7 = true)
      ∧ (tables.accountEnabled 9 = false ∧ swapped.accountEnabled 9 = true)
      ∧ (tables.accountEnabled 63 = false ∧ swapped.accountEnabled 63 = false)
      ∧ (tables.slots.get 2).actuatorKind = some .luminaire := by
  decide +kernel

/-- An outdoor sensor that a swap keeps in another slot, and one that it loses; an OPEN tracker of a zone
that stays enabled, whose entry changes as its sensor leaves; a zone in neither table. -/
theorem test_witness_swapMakesStagedActive_bandAndTrackers :
    let outdoor : SlotRec := ⟨some 1, some 43, some 5, none, none, none⟩
    let old := { tables with slots := slotMap.set 7 outdoor }
    let new := { swapped with slots := swapped.slots.set 9 outdoor }
    let seen := cmuAtStart old
    let tracked := running.xsu.setTracker 2 .rh openFour
    ((new.slots.get 9).sensorQuantity = some .outdoor
        ∧ (List.finRange 48).all (fun i =>
          i == 9 || (new.slots.get i).sensorQuantity != some .outdoor) = true
        ∧ (seen.sensors.get 7).map (fun r => (some r.node, r.quantity))
          = some ((new.slots.get 9).node, .outdoor))
      ∧ (List.finRange 48).all (fun i =>
          (swapped.slots.get i).sensorQuantity != some .outdoor) = true
      ∧ ((tracked.tracker 2 .rh).state = .open_ ∧ tables.zoneEnabled 2 = true
        ∧ new.zoneEnabled 2 = true ∧ coverageOf tables (cmuAtStart tables) 2 .rh = .blind
        ∧ coverageOf swapped (cmuAtStart swapped) 2 .rh = .none)
      ∧ tables.zoneEnabled 5 = false ∧ new.zoneEnabled 5 = false := by
  decide +kernel

/-- A call decision's scene: the slot's actuator record. -/
structure CallScene where
  slot : Fin 48
  record : ActuatorRecord

/-- The part with a scene's record, the zone's UV high side as given. -/
def CallScene.state (x : CallScene) (uv : SideClass) : State :=
  withActuator x.slot x.record { running with
    cmu := running.cmu.setCond 2 .uv ⟨.normal, uv, .live, false, false⟩ }

/-- Node 20, the luminaire of zone 2, lit to 120 with a request. -/
def luminaire (target : Int) : ActuatorRecord :=
  { ActuatorRecord.fresh 20 .luminaire 2 2 with
    link := .online, delivered := some 120, target := some target }

/-- Node 22, the shade of zone 2, open. -/
def shade : ActuatorRecord :=
  { ActuatorRecord.fresh 22 .shade 2 5 with link := .online, delivered := some 0 }

/-- 6.11's humidifier slewed, a luminaire asked above its ceiling, a shade forced by UV. -/
theorem test_witness_gateHoldsLimitsAtEveryCall :
    let h := (CallScene.mk 4 { humidifier with target := some 480 }).state .normal
    let l := (CallScene.mk 2 (luminaire 2000)).state .normal
    let f := (CallScene.mk 5 shade).state .alarm
    (h.cgu.actuators.get 4 = some { humidifier with target := some 480 }
        ∧ (callDecision 4 h).2 = some (.set 505 4#3))
      ∧ (l.cgu.actuators.get 2 = some (luminaire 2000)
        ∧ (callDecision 2 l).2 = some (.set 300 0#3))
      ∧ (f.cgu.actuators.get 5 = some shade ∧ shadeForced f.tbu.active f.cmu 2 = true
        ∧ (callDecision 5 f).2 = some (.set 100 0#3)) := by decide +kernel

/-- The steps of the decision: LOST; an ACTION in flight; an admissible SET in flight; nothing in
flight with an ACTION queued, nothing delivered, a value to reach, or nothing to do. -/
theorem test_witness_callDecisionFollowsItsSteps :
    let scene := fun (r : ActuatorRecord) => (CallScene.mk 4 r).state .normal
    let lost := { humidifier with link := .lost, sinceCall := 30 }
    let acting := { humidifier with inFlight := some ⟨7#3, .action .identify 40#16⟩ }
    let setting := { humidifier with
      target := some 480, inFlight := some ⟨3#3, .set 505 (some 301#16)⟩ }
    let queued := { humidifier with queue := [⟨40#16, .identify⟩], nextTag := 7#3 }
    let unheard := { humidifier with delivered := none }
    let asked := { humidifier with target := some 480 }
    [lost, acting, setting, queued, unheard, asked, humidifier].all
        (fun r => (settledSet (scene r) r).isNone && (scene r).cgu.actuators.get 4 == some r) = true
      ∧ lost.link = .lost
      ∧ (acting.link ≠ .lost ∧ acting.inFlight = some ⟨7#3, .action .identify 40#16⟩)
      ∧ (setting.inFlight = some ⟨3#3, .set 505 (some 301#16)⟩
        ∧ admissible (scene setting) setting 505 = true)
      ∧ (queued.inFlight = none ∧ queued.queue = [⟨40#16, .identify⟩])
      ∧ (unheard.inFlight = none ∧ unheard.queue = [] ∧ unheard.delivered = none)
      ∧ (asked.delivered = some 520 ∧ effectiveTarget (scene asked) asked = some 480
        ∧ (520 : Int) ≠ 480)
      ∧ effectiveTarget (scene humidifier) humidifier = some 520 := by decide +kernel

/-- An in-flight SET that is no longer admissible, with a value still to reach and with none; a fresh
SET of a luminaire and of a shade; a SET of each kind at its limit. -/
theorem test_witness_callDecisionFollowsItsSteps_inFlight :
    let scene := fun (r : ActuatorRecord) => (CallScene.mk r.slot r).state .normal
    let far := { humidifier with
      target := some 480, inFlight := some ⟨3#3, .set 900 (some 301#16)⟩ }
    let done := { humidifier with inFlight := some ⟨3#3, .set 900 (some 301#16)⟩ }
    let queued := { done with queue := [⟨40#16, .identify⟩] }
    let unheard := { done with delivered := none }
    let lit := luminaire 240
    let shaded := { shade with target := some 40 }
    [far, done, queued, unheard, lit, shaded].all
        (fun r => (settledSet (scene r) r).isNone && (scene r).cgu.actuators.get r.slot == some r)
        = true
      ∧ [far, done, queued, unheard].all (fun r => !admissible (scene r) r 900) = true
      ∧ (effectiveTarget (scene far) far = some 480 ∧ far.delivered = some 520)
      ∧ effectiveTarget (scene done) done = some 520
      ∧ (lit.inFlight = none ∧ lit.queue = [] ∧ lit.delivered = some 120
        ∧ effectiveTarget (scene lit) lit = some 240)
      ∧ (shaded.inFlight = none ∧ shaded.queue = [] ∧ shaded.delivered = some 0
        ∧ effectiveTarget (scene shaded) shaded = some 40)
      ∧ admissible (scene lit) lit 300 = true ∧ admissible (scene lit) lit 301 = false
      ∧ admissible (scene shaded) shaded 40 = true
      ∧ admissible (scene far) far 505 = true ∧ admissible (scene far) far 504 = false := by
  decide +kernel

/-- 6.12, cycle 952 (tag 3 answers the SET of 50) and cycle 951 (tag 2 does not). -/
theorem test_witness_echoEndsTheInFlightSet :
    let r := { luminaire 240 with inFlight := some ⟨3#3, .set 50 (some 77#16)⟩, miss := 1 }
    let s := settled 2 (.good (.echo 3#3 50 false)) (withActuator 2 r running)
    let s1 := settled 2 (.good (.echo 2#3 240 false)) (withActuator 2 r running)
    (s.flc.Ends 2 (.good (.echo 3#3 50 false)) ∧ s1.flc.Ends 2 (.good (.echo 2#3 240 false)))
      ∧ s.swapDue = false ∧ (s.tbu.active.slots.get 2).isActuator = true
      ∧ s.cgu.actuators.get 2 = some r ∧ r.inFlight = some ⟨3#3, .set 50 (some 77#16)⟩
      ∧ r.kind.accepts 50 = true ∧ r.kind.accepts 2000 = true
      ∧ ((2#3 : BitVec 3) ≠ 3#3 ∧ r.link ≠ .lost
        ∧ r.miss + 1 < num s1.tbu.active.bus.missLimit) := by
  refine ⟨⟨settled_ends _ _ _, settled_ends _ _ _⟩, by decide +kernel⟩

/-- The SET 77 owed is settled by its own ECHO of 50, and fails by an ECHO of 100; the outcomes are
enabled, with room, and slot 2 is not the last. -/
theorem test_witness_echoEndsTheInFlightSet_owed :
    let r := { luminaire 50 with
      inFlight := some ⟨3#3, .set 50 (some 77#16)⟩, latestSet := some 77#16 }
    let s := settled 2 (.good (.echo 3#3 50 true)) (withActuator 2 r running)
    let s1 := settled 2 (.good (.echo 3#3 100 false)) (withActuator 2 r running)
    (s.flc.Ends 2 (.good (.echo 3#3 50 true)) ∧ s1.flc.Ends 2 (.good (.echo 3#3 100 false)))
      ∧ ¬ s.flc.Last 2
      ∧ settledSet s { r with
          delivered := some 50, inFlight := none, link := .online, miss := 0, sinceCall := 0 }
        = some 77#16
      ∧ (r.latestSet = some 77#16 ∧ (100 : Int) ≠ 50 ∧ r.kind.accepts 100 = true)
      ∧ [CommandOutcome.done, .failed].all (fun x =>
          (Notice.commandOutcome 20 77#16 x).enabledBy s.tbu.active.bus.mask) = true
      ∧ keyedCount s.bli.board < 61
      ∧ (List.finRange 48).all (fun j => j == 2
          || (s.cgu.actuators.get j).all fun x => x.node != r.node) = true := by
  refine ⟨⟨settled_ends _ _ _, settled_ends _ _ _⟩, ?_, by decide +kernel⟩
  unfold Flc.Last
  decide

/-- The ECHO of an IDENTIFY in flight, with room for its outcome's notice; a STATUS; and a STATUS of 240
that settles the SET 77 owed. -/
theorem test_witness_echoEndsTheInFlightSet_actionAndStatus :
    let acting := { luminaire 240 with inFlight := some ⟨3#3, .action .identify 40#16⟩ }
    let done := { acting with delivered := some 50, inFlight := none }
    let s := settled 2 (.good (.echo 3#3 50 false)) (withActuator 2 acting running)
    let owed := { luminaire 240 with latestSet := some 77#16 }
    let s1 := settled 2 (.good (.status 240 true)) (withActuator 2 owed running)
    (s.flc.Ends 2 (.good (.echo 3#3 50 false)) ∧ s1.flc.Ends 2 (.good (.status 240 true)))
      ∧ ¬ s.flc.Last 2
      ∧ (s.swapDue = false ∧ (s.tbu.active.slots.get 2).isActuator = true
        ∧ s.cgu.actuators.get 2 = some acting ∧ acting.kind.accepts 50 = true
        ∧ settledSet s done = none
        ∧ (Notice.commandOutcome 20 40#16 .done).enabledBy s.tbu.active.bus.mask = true
        ∧ keyedCount s.bli.board < 63
        ∧ (List.finRange 48).all (fun j => j == 2
          || (s.cgu.actuators.get j).all fun x => x.node != acting.node) = true)
      ∧ (s1.swapDue = false ∧ s1.cgu.actuators.get 2 = some owed ∧ owed.kind.accepts 240 = true
        ∧ settledSet s1 { owed with delivered := some 240 } = some 77#16) := by
  refine ⟨⟨settled_ends _ _ _, settled_ends _ _ _⟩, ?_, by decide +kernel⟩
  unfold Flc.Last
  decide

theorem test_witness_missLimitLosesActuator :
    let r := { luminaire 240 with miss := 2, link := .suspect }
    let s := settled 2 .overlong (withActuator 2 r running)
    s.flc.Ends 2 .overlong ∧ s.swapDue = false ∧ (s.tbu.active.slots.get 2).isActuator = true
      ∧ s.cgu.actuators.get 2 = some r ∧ r.link ≠ .lost
      ∧ num s.tbu.active.bus.missLimit ≤ r.miss + 1 := by
  refine ⟨settled_ends _ _ _, by decide +kernel⟩

/-! ### Messages -/

/-- The running part takes a message in the event of its arrival. -/
theorem running_takesAtOnce : running.TakesAtOnce := ⟨by decide, rfl, rfl, rfl⟩

/-- The part in FALLBACK takes messages too, and its FLC is STOPPED. -/
def fallback : State :=
  { running with flc := Flc.reset, nvs := { running.nvs with start := .fallback } }

theorem test_witness_commandsAreJudgedFirst :
    (fallback.TakesAtOnce ∧ fallback.flc.state = .stopped)
      ∧ (running.TakesAtOnce ∧ running.flc.state ≠ .stopped
        ∧ (running.levelOf from40).allows .operate = false)
      ∧ ((running.levelOf from31).allows .operate = true
        ∧ (Instr.commandNeitherSetNorAction from31 []).wellFormed = true
        ∧ (Instr.commandNeitherSetNorAction from31 [0#8]).wellFormed = true
        ∧ (Instr.commandNeitherSetNorAction from40 [0#8, 9#8, 45#8]).wellFormed = true
        ∧ (Instr.commandNeitherSetNorAction from31
            [0#8, 9#8, 45#8, 3#8, 0#8, 200#8]).wellFormed = true) := by
  refine ⟨⟨⟨by decide, rfl, rfl, rfl⟩, by decide⟩, ⟨running_takesAtOnce, by decide, ?_⟩, ?_⟩
  · unfold State.levelOf
    decide +kernel
  · unfold State.levelOf
    decide +kernel

/-- The humidifier of 6.11 in a zone that follows the CURVE, whose band is absent. -/
def inCurve : State :=
  withActuator 4 humidifier (onTables { tables with
    zones := tables.zones.set 2 { zoneTwo with rhMode := some 1 } })

/-- Node 50 is in no used slot; node 11 is a sensor; then the ranges' first values out, the absent
band, the action codes about 1 to 3, a LOST link and a full queue. -/
theorem test_witness_commandsAreJudgedFirst_refusals :
    let s := withActuator 4 humidifier running
    let full := { humidifier with queue := List.replicate 4 ⟨1#16, .restart⟩ }
    let stands := fun (r : ActuatorRecord) => (withActuator 4 r running).cgu.actuators.get 4
    (∀ k, (s.tbu.active.slots.get k).isUsed = true → (s.tbu.active.slots.get k).node ≠ some 50)
      ∧ (s.tbu.active.slotOfNode 11 = some 0 ∧ s.cgu.actuators.get 0 = none)
      ∧ (s.tbu.active.slotOfNode 21 = some 4 ∧ s.cgu.actuators.get 4 = some humidifier
        ∧ 1000 < (1001#16 : Half).toNat)
      ∧ ((0xFFFF#16 : Half).toInt < 50 ∧ 350 < (351#16 : Half).toInt)
      ∧ (inCurve.tbu.active.slotOfNode 21 = some 4 ∧ inCurve.cgu.actuators.get 4 = some humidifier
        ∧ humidifier.kind = .humidifier
        ∧ (inCurve.tbu.active.zoneRec humidifier.zone).isCurve = true ∧ inCurve.cmu.band = none)
      ∧ ((0#16 : Half).toNat = 0 ∧ 3 < (4#16 : Half).toNat ∧ (1#16 : Half).toNat = 1
        ∧ (3#16 : Half).toNat ≤ 3)
      ∧ stands { humidifier with link := .lost } = some { humidifier with link := .lost }
      ∧ (stands full = some full ∧ full.link ≠ .lost ∧ 4 ≤ full.queue.length) := by
  decide +kernel

/-- The humidifier of 6.11, in a FIXED zone, asked for the top of its range. -/
theorem test_witness_setIsTakenWithItsTarget :
    let s := withActuator 4 humidifier running
    s.TakesAtOnce ∧ s.flc.state ≠ .stopped ∧ (s.levelOf from31).allows .operate = true
      ∧ s.tbu.active.slotOfNode 21 = some 4 ∧ s.cgu.actuators.get 4 = some humidifier
      ∧ humidifier.kind.accepts 1000 = true
      ∧ ¬ (humidifier.kind = .humidifier ∧ (s.tbu.active.zoneRec humidifier.zone).isCurve = true
        ∧ s.cmu.band = none) := by
  refine ⟨⟨by decide, rfl, rfl, rfl⟩, by decide, ?_, ?_⟩
  · unfold State.levelOf
    decide +kernel
  · decide +kernel

/-- SET 302 for a lower value supersedes 301, which is owed; one for the value delivered is settled at
once. -/
theorem test_witness_setIsTakenWithItsTarget_outcomes :
    let owing := { humidifier with target := some 480, latestSet := some 301#16 }
    let s := withActuator 4 owing running
    let lower := { owing with target := some 400, latestSet := some 302#16 }
    let same := { humidifier with target := some 520, latestSet := some 302#16 }
    (owing.latestSet = some 301#16 ∧ settledSet s lower = none)
      ∧ settledSet (withActuator 4 humidifier running) same = some 302#16
      ∧ [CommandOutcome.superseded, .done].all (fun x =>
          (Notice.commandOutcome 21 301#16 x).enabledBy s.tbu.active.bus.mask) = true
      ∧ keyedCount s.bli.board < 63 := by
  decide +kernel

theorem test_witness_actionJoinsItsQueue :
    let r := { humidifier with queue := [⟨1#16, .restart⟩, ⟨2#16, .restart⟩, ⟨3#16, .restart⟩] }
    let s := withActuator 4 r running
    s.TakesAtOnce ∧ s.flc.state ≠ .stopped ∧ (s.levelOf from31).allows .operate = true
      ∧ s.tbu.active.slotOfNode 21 = some 4 ∧ s.cgu.actuators.get 4 = some r
      ∧ ((3#16).toNat = ActionCode.selfTest.code ∧ r.link ≠ .lost ∧ r.queue.length < 4)
      ∧ ((0#16).toNat = 0 ∧ 3 < (4#16).toNat) := by
  refine ⟨⟨by decide, rfl, rfl, rfl⟩, by decide, ?_, ?_⟩
  · unfold State.levelOf
    decide +kernel
  · decide +kernel

/-- The notice mask's scene. -/
structure BoardScene where
  board : List BoardEntry
  mask : BitVec 16

/-- The part with a scene's board and mask. -/
def BoardScene.state (x : BoardScene) : State :=
  withBoard x.board { running with tbu := { running.tbu with
    active := { tables with bus := { tables.bus with mask := x.mask } } } }

/-- A kind that is masked; a key on a full board; room for one more; a full board with the BOARD_FULL
enable clear, with an entry, and without one. -/
theorem test_witness_postFollowsFirstRow :
    let n : Notice := .accessFault
    let masked := (BoardScene.mk [] 0x0000#16).state
    let held := (BoardScene.mk (⟨n, 255⟩ :: fullBoard.drop 2) 0xFFFF#16).state
    let room := (BoardScene.mk (fullBoard.drop 1) 0xFFFF#16).state
    let full := (BoardScene.mk fullBoard 0xFFFF#16).state
    let silent := (BoardScene.mk fullBoard 0x7FFF#16).state
    let first := (BoardScene.mk (fullBoard.take 63) 0xFFFF#16).state
    let on := fun (s : State) => n.enabledBy s.tbu.active.bus.mask
    let key := fun (s : State) => s.bli.board.any fun e => e.notice.key == n.key
    [masked, held, room, full, silent, first].all (fun s => !s.order.eager) = true
      ∧ on masked = false
      ∧ (on held = true ∧ key held = true)
      ∧ (on room = true ∧ key room = false ∧ n ≠ .boardFull ∧ keyedCount room.bli.board < 63)
      ∧ (on full = true ∧ key full = false ∧ 63 ≤ keyedCount full.bli.board)
      ∧ (on silent = true ∧ key silent = false ∧ 63 ≤ keyedCount silent.bli.board)
      ∧ (on first = true ∧ key first = false ∧ 63 ≤ keyedCount first.bli.board) := by
  decide +kernel

theorem test_witness_transmissionEndChoosesNext :
    let m : OutMsg := .answer ⟨33#8, .reply ⟨18#8, .ok, .nothing⟩⟩
    let s := { running with bli := { running.bli with tx := .sending m } }
    let due := { s with mrh := { s.mrh with restartPending := true } }
    let replying := { s with bli := { s.bli with
      replySlot := some ⟨31#8, .reply ⟨4#8, .ok, .nothing⟩⟩ } }
    let reporting := { s with bli := { s.bli with report := some ⟨416#16, []⟩ } }
    let noticing := withBoard [⟨.storeFault, 1⟩] s
    (s.bli.tx = .sending m ∧ s.bli.holding = [] ∧ s.bli.halted = false)
      ∧ (m.endsRestart && due.mrh.restartPending) = true
      ∧ ((m.endsRestart && s.mrh.restartPending) = false ∧ s.bli.replySlot = none
        ∧ s.bli.report = none ∧ s.bli.board = [])
      ∧ replying.bli.replySlot = some ⟨31#8, .reply ⟨4#8, .ok, .nothing⟩⟩
      ∧ (reporting.bli.replySlot = none ∧ reporting.bli.report = some ⟨416#16, []⟩)
      ∧ (noticing.bli.report = none ∧ noticing.bli.board = [⟨.storeFault, 1⟩]) := by decide

/-- R155: a REQUEST held with another behind it, and a TIME held alone, when the reply goes out. -/
theorem test_witness_transmissionEndChoosesNext_resume :
    let m : OutMsg := .answer ⟨33#8, .reply ⟨4#8, .ok, .nothing⟩⟩
    let r : ReplyMsg := ⟨31#8, .reply ⟨4#8, .ok, .nothing⟩⟩
    let time : Message := ⟨31#8, kindTime, [0x07#8, 0xEF#8, 0x00#8, 0x2E#8]⟩
    let s := fun (held : List Message) => { running with bli := { running.bli with
      tx := .sending m, replySlot := some r, holding := held } }
    let two := s [⟨40#8, kindRequest, [4#8]⟩, time]
    let one := s [time]
    (two.bli.halted = false ∧ two.bli.takingOpen = true ∧ two.bli.rx ≠ .disabled
        ∧ (m.endsRestart && two.mrh.restartPending) = false ∧ kindRequest ≠ kindTime)
      ∧ (one.bli.replySlot = some r ∧ one.bli.takingOpen = true ∧ one.bli.rx ≠ .disabled)
      ∧ arrivalOf (.time ⟨31#8, true⟩ time.body) = some (⟨31#8, true⟩, kindTime, time.body) := by
  decide

/-- The receiver inside a frame, with the characters held. -/
def inFrame (cs : List Byte) : State :=
  { running with bli := { running.bli with rx := .inFrame, frame := cs } }

/-- HUNTING; fewer than three characters; a length of 250; a body character that does not end the
frame; a length of 251. -/
theorem test_witness_receiverFollowsCharacters :
    running.bli.rx = .hunting
      ∧ ((inFrame [52#8, 31#8]).bli.rx = .inFrame ∧ (inFrame [52#8, 31#8]).bli.frame.length < 3)
      ∧ ((inFrame [52#8, 31#8, 3#8]).bli.frame.length = 3 ∧ (250#8 : Byte).toNat ≤ 250)
      ∧ (3 < (inFrame [52#8, 31#8, 3#8, 1#8]).bli.frame.length
        ∧ (inFrame [52#8, 31#8, 3#8, 1#8]).bli.frame.length + 1
          ≠ 6 + ((inFrame [52#8, 31#8, 3#8, 1#8]).bli.frame.getD 3 0#8).toNat)
      ∧ 250 < (251#8 : Byte).toNat := by decide

/-- All but the last character of a READ FAULT frame for the part, and of one for node 53: the CRC
agrees with the last character and disagrees with any other. -/
theorem test_witness_receiverFollowsCharacters_whole :
    let all := fun dest : Byte => ((frameOf dest 31#8 kindRequest [4#8]).drop 1).dropLast
    let last := fun dest : Byte => (frameOf dest 31#8 kindRequest [4#8]).getLastD 0#8
    let whole := fun s : State => s.bli.rx = .inFrame ∧ 3 < s.bli.frame.length
      ∧ s.bli.frame.length + 1 = 6 + (s.bli.frame.getD 3 0#8).toNat
    let agrees := fun (s : State) (c : Byte) =>
      be16 (crc16 (s.bli.frame.take (s.bli.frame.length - 1)))
        = s.bli.frame.drop (s.bli.frame.length - 1) ++ [c]
    (whole (inFrame (all 52#8)) ∧ ¬ agrees (inFrame (all 52#8)) (last 52#8 + 1#8))
      ∧ (whole (inFrame (all 53#8)) ∧ agrees (inFrame (all 53#8)) (last 53#8)
        ∧ ((inFrame (all 53#8)).bli.frame.take
            ((inFrame (all 53#8)).bli.frame.length - 1)).getD 0 0#8 ≠ (inFrame (all 53#8)).bli.own)
      ∧ (Notice.linkError .badCheck).enabledBy running.tbu.active.bus.mask = true
      ∧ keyedCount running.bli.board < 63 := by
  decide +kernel

/-- A TIME of the longest body, the shortest REQUEST, a SET, and a message of an unknown kind. -/
theorem test_witness_frameDeliversItsMessage :
    let long := Instr.time from31 (List.replicate 250 0#8)
    let short := Instr.readFault from40 []
    let set := Instr.commandSet from31 301#16 21#8 480#16
    let odd := Instr.unknownMessageKind from40 9#8 []
    (long.wellFormed && short.wellFormed && set.wellFormed && odd.wellFormed) = true
      ∧ arrivalOf long = some (from31, kindTime, List.replicate 250 0#8)
      ∧ arrivalOf short = some (from40, kindRequest, [4#8])
      ∧ arrivalOf set = some (from31, kindCommand, [0x01#8, 0x2D#8, 21#8, 1#8, 0x01#8, 0xE0#8])
      ∧ arrivalOf odd = some (from40, 9#8, [])
      ∧ running.bli.rx = .hunting ∧ running.bli.frame = []
      ∧ running.bli.arbitrate = running.bli ∧ running.schedule = []
      ∧ running.pins.commission = from31.commission := by
  refine ⟨by decide +kernel, rfl, by decide, by decide, rfl, by decide, rfl, by decide +kernel, rfl,
    rfl⟩

theorem test_witness_linkDiscardsOrAnswersByItself :
    let m : Message := ⟨31#8, kindRequest, [4#8]⟩
    let s := { running with bli := { running.bli with
      holding := [m, m, m, m], replySlot := some ⟨31#8, .reply ⟨4#8, .ok, .nothing⟩⟩ } }
    (s.bli.rx ≠ .disabled ∧ s.bli.holding.length = 4 ∧ s.bli.replySlot ≠ none
        ∧ s.order.eager = false
        ∧ arrivalOf (.restart from33 []) = some (from33, kindRequest, [18#8]))
      ∧ (running.TakesAtOnce ∧ (Instr.unknownMessageKind from40 0#8 []).wellFormed = true
        ∧ (Instr.unknownMessageKind from40 4#8 (List.replicate 250 0#8)).wellFormed = true)
      ∧ ((Instr.unknownRequest from40 []).wellFormed = true
        ∧ (Instr.unknownRequest from40 [0#8]).wellFormed = true
        ∧ (Instr.unknownRequest from40 [19#8]).wellFormed = true) := by
  refine ⟨by decide +kernel, ⟨running_takesAtOnce, by decide +kernel⟩, by decide +kernel⟩

/-! ### Requests -/

/-- A requester of 8.9 with the fields it sends. -/
structure RequestScene where
  origin : Origin
  fields : List Byte

/-- The level of a scene's request, and whether it has the length of its kind. -/
def RequestScene.judged (x : RequestScene) (k : ReqKind) : Bool × Bool :=
  ((running.level x.origin.source).allows (k.needs x.fields), k.shapeOk x.fields)

/-- The levels of 8.9's requesters. -/
theorem levels_of_requesters :
    running.levelOf from31 = .operate ∧ running.levelOf from33 = .commission
      ∧ running.levelOf from40 = .observe := by
  unfold State.levelOf
  decide +kernel

/-- HOLD OCCUPIED from 40 is below its level; from 31 with two field bytes it has the wrong length. -/
theorem test_witness_requestsAreJudgedFirst :
    running.TakesAtOnce
      ∧ (RequestScene.mk from40 [4#8, 0#8, 30#8]).judged .holdOccupied = (false, true)
      ∧ (RequestScene.mk from31 [4#8, 0#8]).judged .holdOccupied = (true, false) := by
  refine ⟨running_takesAtOnce, by decide +kernel⟩

/-- The lengths of R205 hold for bodies of those lengths, and READ RECORD of the Requester Table alone
needs COMMISSION. -/
theorem test_witness_requestsAreJudgedFirst_tables :
    ReqKind.needs .readRecord [5#8, 0#8, 1#8, 0#8] = .commission
      ∧ ReqKind.needs .readRecord [4#8, 0#8, 1#8, 0#8] = .observe
      ∧ ReqKind.shapeOk .statsControl (List.replicate 7 0#8) = true
      ∧ ReqKind.shapeOk .seedAccount (List.replicate 5 0#8) = true
      ∧ ReqKind.shapeOk .restart [] = true ∧ ReqKind.shapeOk .restart [0#8] = false := by
  decide

/-- A run to the last record, and the runs that do not exist: no such table, no count, a count of 9,
no such copy, a run past the end. -/
theorem test_witness_readRecordReturnsTheRun :
    running.TakesAtOnce
      ∧ (running.levelOf from31).allows (ReqKind.needs .readRecord [1#8, 40#8, 8#8, 1#8]) = true
      ∧ (TableId.ofCode (1#8 : Byte).toNat = some .slotMap
        ∧ (40#8 : Byte).toNat + (8#8 : Byte).toNat ≤ TableId.slotMap.size)
      ∧ (TableId.ofCode (6#8 : Byte).toNat = none ∧ (0#8 : Byte).toNat = 0
        ∧ 8 < (9#8 : Byte).toNat ∧ 1 < (2#8 : Byte).toNat
        ∧ TableId.slotMap.size < (41#8 : Byte).toNat + (8#8 : Byte).toNat) := by
  refine ⟨running_takesAtOnce, ?_, by decide⟩
  rw [levels_of_requesters.1]
  decide

theorem test_witness_writeRecordReplacesStagedRun :
    let s := { running with tbu := { running.tbu with commit := .pendingSwap } }
    (s.TakesAtOnce ∧ s.tbu.commit = .pendingSwap)
      ∧ (running.TakesAtOnce ∧ (running.levelOf from33).allows .commission = true
        ∧ running.tbu.commit ≠ .pendingSwap ∧ TableId.ofCode (2#8 : Byte).toNat = some .zone
        ∧ (5#8 : Byte).toNat ≤ 8 ∧ (5#8 : Byte).toNat ≤ 5
        ∧ (11#8 : Byte).toNat + (5#8 : Byte).toNat ≤ TableId.zone.size
        ∧ (List.replicate 230 0#8).length = (5#8 : Byte).toNat * TableId.zone.recordBytes) := by
  refine ⟨⟨⟨by decide, rfl, rfl, rfl⟩, by decide⟩, running_takesAtOnce, ?_, by decide +kernel⟩
  rw [levels_of_requesters.2.1]
  decide

theorem test_witness_discardStagedCopiesActive :
    running.TakesAtOnce ∧ (running.levelOf from33).allows .commission = true
      ∧ running.tbu.commit = .idle ∧ running.tbu.staged = running.tbu.active := by
  refine ⟨running_takesAtOnce, ?_, rfl, rfl⟩
  rw [levels_of_requesters.2.1]
  decide

/-- IDLE with valid tables while it cycles, in FALLBACK, and with the blank tables staged; STORING. -/
theorem test_witness_commitJudgesStagedCopy :
    let bad := { running with tbu := { running.tbu with staged := Tables.blank } }
    let busy := { running with tbu := { running.tbu with commit := .storing } }
    (running.TakesAtOnce ∧ (running.levelOf from33).allows .commission = true)
      ∧ (running.tbu.commit = .idle ∧ validate running.tbu.staged = none
        ∧ running.flc.state ≠ .stopped)
      ∧ (validate fallback.tbu.staged = none ∧ fallback.flc.state = .stopped)
      ∧ validate bad.tbu.staged = some (.slotMap, 0, .noSlots)
      ∧ busy.tbu.commit ≠ .idle := by
  refine ⟨⟨running_takesAtOnce, ?_⟩, by decide +kernel⟩
  rw [levels_of_requesters.2.1]
  decide

/-- Valid tables, and a part that cycles on them with a swap awaited, about to close the cycle. -/
theorem test_witness_validTablesAreSound :
    let s := waiting .slotEnd (settled 5 .skipped { running with
      tbu := { running.tbu with commit := .pendingSwap, swapCycle := some 416#16 } })
    (validate tables = none ∧ tables.zoneEnabled 2 = true
        ∧ (tables.slots.get 5).isUsed = true)
      ∧ s.StartsClean ∧ s.TablesValid ∧ s.RecordsFollowSlots ∧ ∃ t, step s = .next t := by
  have valid : validate tables = none := by decide +kernel
  refine ⟨⟨valid, by decide +kernel⟩, ?_, ⟨fun _ => valid, fun _ => valid, fun h => ?_⟩,
    fun _ => by decide +kernel, _, rfl⟩
  · constructor <;> exact fun h => absurd h (by decide)
  · exact absurd h (by decide)

/-- Kinds 0, 6, 9 and 15, with the last account, zone and quantity, and account 64. -/
theorem test_witness_readStateShowsAndChangesNothing :
    running.TakesAtOnce ∧ 14 < (15#8 : Byte).toNat ∧ (0#8 : Byte).toNat = 0
      ∧ ((6#8 : Byte).toNat = 6 ∧ (63#8 : Byte).toNat = (63 : Fin 64).val)
      ∧ ((9#8 : Byte).toNat = 9 ∧ (15#8 : Byte).toNat = (15 : Fin 16).val
        ∧ (3#8 : Byte).toNat = CondQ.uv.code)
      ∧ 63 < (64#8 : Byte).toNat := ⟨running_takesAtOnce, by decide⟩

theorem test_witness_readFaultShowsRecord : running.TakesAtOnce := running_takesAtOnce

/-- LOW of UV; a zone that is not enabled; a side in ALARM; a latch to clear. -/
theorem test_witness_clearLatchClearsOneLatch :
    let alarmed := withRh (rhRecord (some .alarmHi) none 0)
      ⟨.normal, .alarm, .live, false, true⟩ running
    let latched := withRh (rhRecord (some .normal) none 0)
      ⟨.normal, .normal, .live, false, true⟩ running
    (running.TakesAtOnce ∧ (running.levelOf from31).allows .operate = true)
      ∧ (Side.low = .low ∧ (CondQ.uv = .lux ∨ CondQ.uv = .uv))
      ∧ (¬ (Side.high = .low ∧ (CondQ.uv = .lux ∨ CondQ.uv = .uv))
        ∧ running.tbu.active.zoneEnabled 15 = false)
      ∧ (alarmed.tbu.active.zoneEnabled 2 = true ∧ (alarmed.cmu.cond 2 .rh).side .high = .alarm)
      ∧ (latched.cmu.cond 2 .rh).side .high ≠ .alarm := by
  refine ⟨⟨running_takesAtOnce, ?_⟩, by decide +kernel⟩
  rw [levels_of_requesters.1]
  decide

/-- 1 and 720 minutes; no dose rest, a dose rest, and a VACANT zone that rests on vacancy. -/
theorem test_witness_holdsAreTakenAndReleased :
    let spent := withAccount spentSeven running
    let vacant := { running with zcu := { running.zcu with
      zones := running.zcu.zones.set 2 ⟨.vacant, 3, some 60, some 300, some .table⟩ } }
    (running.TakesAtOnce ∧ (running.levelOf from31).allows .operate = true
        ∧ running.tbu.active.zoneEnabled 2 = true)
      ∧ (1 ≤ (1#16 : Half).toNat ∧ (720#16 : Half).toNat ≤ 720)
      ∧ (15 < (16#8 : Byte).toNat ∧ (0#16 : Half).toNat < 1 ∧ 720 < (721#16 : Half).toNat)
      ∧ running.tbu.active.zoneEnabled 3 = false
      ∧ (¬ running.dau.RestsZone running.tbu.active 2
        ∧ (running.zcu.zones.get 2).presence ≠ .vacant)
      ∧ spent.dau.RestsZone spent.tbu.active 2
      ∧ (¬ vacant.dau.RestsZone vacant.tbu.active 2
        ∧ (vacant.tbu.active.zoneRec 2).restsOnVacancy = true
        ∧ (vacant.zcu.zones.get 2).presence = .vacant) := by
  simp only [← doseRest_eq_true_iff]
  refine ⟨⟨running_takesAtOnce, ?_, by decide +kernel⟩, by decide +kernel⟩
  rw [levels_of_requesters.1]
  decide

/-- The running part with a link monitor table. -/
def withMonitors (m0 m1 m2 m3 : Monitor) : State :=
  { running with dau := { running.dau with
      monitors := (((Dau.reset.monitors.set 0 m0).set 1 m1).set 2 m2).set 3 m3 } }

/-- A table is sound if its entries pass a check that can be run. -/
theorem monitorsSound_of (d : Dau)
    (apart : ∀ i j : Fin 4, (d.monitors.get i).entry?.all (fun e => 1 ≤ e.order
      && e.order ≤ heldMonitors d.monitors && (d.monitors.get j).entry?.all fun f =>
        i == j || (e.requester != f.requester && e.order != f.order)) = true)
    (current : ∀ i : Fin 4, (match d.monitors.get i with
      | .open_ e => e.revision == (d.accounts.get e.account).revision
      | .lapsed _ | .free => true) = true) : d.MonitorsSound where
  one_each i j e f he hf same := by
    have h := apart i j
    simp only [he, hf, Option.all_some, Bool.and_eq_true, Bool.or_eq_true, beq_iff_eq,
      bne_iff_ne] at h
    exact h.2.resolve_right fun x => x.1 same
  current i e he := by
    have h := current i
    simp only [he, beq_iff_eq] at h
    exact h
  ranked i e he := by
    have h := apart i i
    simp only [he, Option.all_some, Bool.and_eq_true, decide_eq_true_eq] at h
    exact h.1
  ranks_distinct i j e f he hf same := by
    have h := apart i j
    simp only [he, hf, Option.all_some, Bool.and_eq_true, Bool.or_eq_true, beq_iff_eq,
      bne_iff_ne] at h
    exact h.2.resolve_right fun x => x.2 same

/-- Account 64; then, of sound tables, requester 31's own entry with FREE ones, all four held by others
with two LAPSED, and all four held by others and OPEN. -/
theorem test_witness_linkReadOpensMonitor :
    let e := fun (q : Byte) (order : Nat) => MonitorEntry.mk q 7 0#16 order
    let own := withMonitors .free (.open_ (e 33#8 2)) (.lapsed (e 31#8 1)) .free
    let lapsed := withMonitors (.open_ (e 32#8 1)) (.lapsed (e 33#8 4)) (.lapsed (e 34#8 2))
      (.open_ (e 35#8 3))
    let full := withMonitors (.open_ (e 32#8 4)) (.open_ (e 33#8 1)) (.open_ (e 34#8 2))
      (.open_ (e 35#8 3))
    (running.TakesAtOnce ∧ own.TakesAtOnce ∧ lapsed.TakesAtOnce ∧ full.TakesAtOnce)
      ∧ (own.dau.MonitorsSound ∧ lapsed.dau.MonitorsSound ∧ full.dau.MonitorsSound)
      ∧ 63 < (64#8 : Byte).toNat
      ∧ running.tbu.active.accountEnabled 7 = true
      ∧ running.tbu.active.accountEnabled 63 = false
      ∧ (own.dau.monitors.get 0 = .free ∧ own.dau.monitors.get 2 = .lapsed (e 31#8 1))
      ∧ (List.finRange 4).all (fun j => (lapsed.dau.monitors.get j).entry?.any
          (·.requester != 31#8)) = true
      ∧ lapsed.dau.monitors.get 2 = .lapsed (e 34#8 2)
      ∧ (List.finRange 4).all (fun j => (full.dau.monitors.get j).isOpen
        && (full.dau.monitors.get j).entry?.any (·.requester != 31#8)) = true := by
  have takes : ∀ a b c d, (withMonitors a b c d).TakesAtOnce := fun _ _ _ _ => running_takesAtOnce
  refine ⟨⟨running_takesAtOnce, takes _ _ _ _, takes _ _ _ _, takes _ _ _ _⟩, ⟨?_, ?_, ?_⟩,
    by decide +kernel⟩ <;>
  exact monitorsSound_of _ (by decide +kernel) (by decide +kernel)

/-- 4.13: requester 31's entry, OPEN and LAPSED; a grant of all of the allowance of 200, which makes account 7
OPEN again. -/
theorem test_witness_grantNeedsItsOwnOpenMonitor :
    let e : MonitorEntry := ⟨31#8, 7, 12#16, 1⟩
    let lapsed := (RaceScene.mk spentSeven (.lapsed e)).state
    (beforeRace.TakesAtOnce ∧ (beforeRace.levelOf from31).allows .operate = true)
      ∧ (beforeRace.tbu.active.accountEnabled 7 = true
        ∧ (beforeRace.dau.accounts.get 7).state ≠ .suspended ∧ (200#16 : Half) ≠ 0#16
        ∧ e.requester = from31.source ∧ e.account = 7)
      ∧ (∀ j : Fin 4, j ≠ 0 → (beforeRace.dau.monitors.get j).entry? = none)
      ∧ (beforeRace.dau.monitors.get 0 = .open_ e
        ∧ (beforeRace.dau.accounts.get 7).extension + (200#16 : Half).toNat
          ≤ num (beforeRace.tbu.active.accounts.get 7).allowance)
      ∧ lapsed.dau.monitors.get 0 = .lapsed e
      ∧ ((beforeRace.tbu.active.accounts.get 7).zoneIndex.any fun z =>
        beforeRace.tbu.active.zoneEnabled z) = true
      ∧ (beforeRace.dau.accounts.get 7).state = .dailySpent
      ∧ (beforeRace.dau.accounts.get 7).usedToday
        < (num (beforeRace.tbu.active.accounts.get 7).allowance + 200) * 3600
      ∧ (beforeRace.dau.accounts.get 7).usedYear
        < (beforeRace.tbu.active.accounts.get 7).budgetLuxSeconds := by
  refine ⟨⟨⟨by decide, rfl, rfl, rfl⟩, ?_⟩, by decide +kernel⟩
  unfold State.levelOf
  decide +kernel

/-- Beside requester 31's entry on account 7, older than theirs: 33's OPEN on account 7, 34's OPEN on
account 9, and 35's LAPSED. -/
theorem test_witness_grantNeedsItsOwnOpenMonitor_others :
    let e : MonitorEntry := ⟨31#8, 7, 0#16, 1⟩
    let s := withMonitors (.open_ e) (.open_ ⟨33#8, 7, 0#16, 2⟩) (.open_ ⟨34#8, 9, 0#16, 3⟩)
      (.lapsed ⟨35#8, 7, 5#16, 4⟩)
    (s.TakesAtOnce ∧ s.dau.monitors.get 0 = .open_ e)
      ∧ (∀ j : Fin 4, j ≠ 0 →
        ((s.dau.monitors.get j).entry?.all fun f => f.requester != 31#8) = true)
      ∧ (s.tbu.active.accountEnabled 7 = true ∧ (s.dau.accounts.get 7).state ≠ .suspended)
      ∧ (s.dau.accounts.get 7).extension + (200#16 : Half).toNat
        ≤ num (s.tbu.active.accounts.get 7).allowance
      ∧ s.nvs.state ≠ .failed := by
  refine ⟨⟨running_takesAtOnce, ?_⟩, ?_⟩ <;> decide +kernel

/-- The rows before the monitor and the row after it: no amount, account 64, account 63 not enabled,
account 7 SUSPENDED, requester 31 without an entry, and a grant of 201 on an allowance of 200. -/
theorem test_witness_grantNeedsItsOwnOpenMonitor_rows :
    let held := withAccount { spentSeven with state := .suspended } beforeRace
    let none_ := (RaceScene.mk spentSeven .free).state
    (0#16 : Half) = 0#16 ∧ 63 < (64#8 : Byte).toNat
      ∧ beforeRace.tbu.active.accountEnabled 63 = false
      ∧ (held.tbu.active.accountEnabled 7 = true ∧ (held.dau.accounts.get 7).state = .suspended)
      ∧ (none_.tbu.active.accountEnabled 7 = true
        ∧ (none_.dau.accounts.get 7).state ≠ .suspended
        ∧ ∀ j : Fin 4, (none_.dau.monitors.get j).entry? = none)
      ∧ num (beforeRace.tbu.active.accounts.get 7).allowance
        < (beforeRace.dau.accounts.get 7).extension + (201#16 : Half).toNat := by
  decide +kernel

/-- Account 7 not SUSPENDED and SUSPENDED, and a seed no less than used today. -/
theorem test_witness_accountsAreSuspendedResumedSeeded :
    let held := withAccount { spentSeven with state := .suspended } running
    (beforeRace.TakesAtOnce ∧ held.TakesAtOnce ∧ (running.levelOf from33).allows .commission = true)
      ∧ (beforeRace.tbu.active.accountEnabled 7 = true
        ∧ (beforeRace.dau.accounts.get 7).state ≠ .suspended)
      ∧ (held.tbu.active.accountEnabled 7 = true ∧ (held.dau.accounts.get 7).state = .suspended)
      ∧ (beforeRace.dau.accounts.get 7).usedToday
        ≤ ((0xFFFF#16 : Half) ++ (0xFFFF#16 : Half)).toNat * 3600 := by
  refine ⟨⟨⟨by decide, rfl, rfl, rfl⟩, ⟨by decide, rfl, rfl, rfl⟩, ?_⟩, by decide +kernel⟩
  rw [levels_of_requesters.2.1]
  decide

/-- The ledger absent; a later day, a later year and an earlier day than 2031, day 45. -/
theorem test_witness_timeMovesTheLedger :
    (running.TakesAtOnce ∧ (running.levelOf from31).allows .operate = true
        ∧ running.dau.ledger = none)
      ∧ (2000 ≤ (2000#16 : Half).toNat ∧ (2099#16 : Half).toNat ≤ 2099 ∧ 1 ≤ (1#16 : Half).toNat
        ∧ (366#16 : Half).toNat ≤ 366)
      ∧ beforeRace.dau.ledger = some ⟨2031, 45⟩
      ∧ (2031 < (2032#16 : Half).toNat ∧ 45 < (46#16 : Half).toNat
        ∧ (44#16 : Half).toNat < 45) := by
  refine ⟨⟨running_takesAtOnce, ?_, rfl⟩, by decide +kernel⟩
  rw [levels_of_requesters.1]
  decide

/-- Requester 40 is below OPERATE; a body of one byte, and the years and days next to their ranges; a
store that has not failed, with account 7 enabled; CLOCK REGRESS and ACCESS_FAULT are enabled. -/
theorem test_witness_timeMovesTheLedger_turnedAway :
    (running.levelOf from40).allows .operate = false
      ∧ [0#8].length ≠ 4
      ∧ ((1999#16 : Half).toNat < 2000 ∧ 2099 < (2100#16 : Half).toNat ∧ (0#16 : Half).toNat < 1
        ∧ 366 < (367#16 : Half).toNat)
      ∧ (running.nvs.state ≠ .failed ∧ running.tbu.active.accountEnabled 7 = true
        ∧ running.tbu.active.accountEnabled 8 = false)
      ∧ [Notice.clock .regress, .accessFault].all
          (·.enabledBy running.tbu.active.bus.mask) = true
      ∧ keyedCount running.bli.board < 63 := by
  rw [levels_of_requesters.2.2]
  decide +kernel

theorem test_witness_statisticsAreSetAndCleared :
    running.TakesAtOnce ∧ (running.levelOf from31).allows .operate = true
      ∧ (1#8 : Byte).toNat ≤ 1 ∧ 1 < (2#8 : Byte).toNat := by
  refine ⟨running_takesAtOnce, ?_, by decide⟩
  rw [levels_of_requesters.1]
  decide

theorem test_witness_clearFaultAndRestartActOnTheHandler :
    running.TakesAtOnce ∧ (running.levelOf from31).allows .operate = true
      ∧ (running.levelOf from33).allows .commission = true := by
  refine ⟨running_takesAtOnce, ?_⟩
  rw [levels_of_requesters.1, levels_of_requesters.2.1]
  decide

/-! ### Resets, start-up and the store -/

theorem test_witness_resetsLeaveResetValues :
    let due : State := { running with
      mrh := { running.mrh with restartPending := true }, bli := { running.bli with halted := true } }
    running.pins.resetAsserted = false
      ∧ { running.pins with resetAsserted := true }.resetAsserted = true
      ∧ (due.mrh.restartPending = true ∧ due.bli.halted = true ∧ due.nvs.write = none)
      ∧ ((recordWrite 63).on running).nvs.write = some (.record 63 (item 63))
      ∧ ((WriteScene.mk .writingConfig (.config tables)).on running).nvs.write
        = some (.config tables) := by decide +kernel

/-- An image just written, with its own check code, is valid where its tables are (R199). -/
theorem validImage_imageItem (t : Tables) (h : validate t = none) :
    validImage (imageItem t) = some t := by
  simp [validImage, imageItem, checkedImage, h]

/-- A part that starts up: what it reads next. -/
structure StartScene where
  reading : ReadStep

/-- The part of a scene, its image the tables of these tests. -/
def StartScene.state (x : StartScene) : State :=
  { State.reset with
    tbu := { Tbu.reset with active := tables, staged := tables }
    nvs := { Nvs.reset .pin with reading := x.reading }
    store := { Store.unwritten with image := imageItem tables } }

/-- A store never written, a valid image, the first and the last records. -/
theorem test_witness_startUpEndsRunningOrFallback :
    let written := (StartScene.mk .image).state
    let first := (StartScene.mk (.record 0)).state
    let last := (StartScene.mk (.record 63)).state
    (startingUp.nvs.start = .starting ∧ startingUp.pins.resetAsserted = false
        ∧ startingUp.StartsClean ∧ startingUp.nvs.reading = .image
        ∧ validImage startingUp.store.image = none)
      ∧ (written.StartsClean ∧ written.nvs.reading = .image
        ∧ validImage written.store.image = some tables)
      ∧ (first.StartsClean ∧ first.nvs.reading = .record 0 ∧ (0 : Fin 64).val < 63)
      ∧ (last.StartsClean ∧ last.nvs.reading = .record 63) := by
  have clean : ∀ r, (StartScene.mk r).state.StartsClean := fun r => by
    constructor <;> intro _ <;> first | rfl | exact ⟨rfl, rfl⟩
  refine ⟨⟨rfl, rfl, ?_, rfl, rfl⟩, ⟨clean _, rfl, validImage_imageItem tables ?_⟩,
    ⟨clean _, rfl, by decide⟩, clean _, rfl⟩
  · constructor <;> intro _ <;> first | rfl | exact ⟨rfl, rfl⟩
  · decide +kernel

/-- Account 7's record with a date, and account 9's of day 45 of 2031, at the last read; account 9 is
enabled too. -/
def readRecords (d : Option Date) : State :=
  let seven : AccountItem := { item 7 with date := d }
  { (StartScene.mk (.record 63)).state with
    tbu := { Tbu.reset with active := swapped, staged := swapped }
    store := { Store.unwritten with
      records := (Store.unwritten.records.set 7 (.held seven (crc16 seven.bytes))).set 9
        (.held (item 9) (crc16 (item 9).bytes)) } }

/-- Of account 7, a record of the ledger date, of an earlier day, of an earlier year, and without a
date; and one that fails its check. Account 8 is not enabled. -/
theorem test_witness_startUpEndsRunningOrFallback_records :
    [some ⟨2031, 45⟩, some ⟨2031, 44⟩, some ⟨2030, 366⟩, none].all (fun d =>
        validRecord 7 ((readRecords d).store.records.get 7) == some { item 7 with date := d }
          && restoredLedger swapped (readRecords d).store.records == some ⟨2031, 45⟩) = true
      ∧ (readRecords none).tbu.active.accountEnabled 7 = true
      ∧ (readRecords none).tbu.active.accountEnabled 8 = false
      ∧ ∀ r, ¬ RecordValid 7 (Store.unwritten.records.get 7) r := by
  refine ⟨by decide +kernel, by decide +kernel, by decide +kernel, fun r h => ?_⟩
  have none_valid : validRecord 7 (Store.unwritten.records.get 7) = none := by decide +kernel
  simp [← validRecord_eq_some_iff, none_valid] at h

/-- A configuration write with nothing pending, with a RESTART that holds the store, with another
configuration pending, and with accounts 7 and 9 pending; COMMIT and STORE FAULT are enabled. -/
theorem test_witness_configurationWriteEndsCommit :
    let s := (WriteScene.mk .writingConfig (.config tables)).on running
    let held := { s with
      mrh := { s.mrh with restartPending := true }, bli := { s.bli with halted := true } }
    let again := { s with nvs := { s.nvs with pendingConfig := true } }
    let owing := { s with nvs := { s.nvs with
      pendingAccounts := (s.nvs.pendingAccounts.set 7 true).set 9 true } }
    s.nvs.write = some (.config tables)
      ∧ (s.nvs.pendingConfig = false ∧ ∀ a, s.nvs.pendingAccounts.get a = false)
      ∧ (held.mrh.restartPending = true ∧ held.bli.halted = true)
      ∧ (¬ (again.mrh.restartPending = true ∧ again.bli.halted = true)
        ∧ again.nvs.pendingConfig = true)
      ∧ (owing.nvs.pendingConfig = false ∧ owing.nvs.pendingAccounts.get 7 = true
        ∧ ∀ b : Fin 64, b < 7 → owing.nvs.pendingAccounts.get b = false)
      ∧ [Notice.commit .done, .commit .storeFailed, .storeFault].all
          (·.enabledBy s.tbu.active.bus.mask) = true
      ∧ keyedCount s.bli.board < 62 := by
  decide +kernel

/-- 10.5, order A: record 3 with nothing pending, with a RESTART that holds the store, with the
configuration owed, and with accounts 7 and 9 pending; STORE FAULT and COMMIT are enabled. -/
theorem test_witness_recordWriteFreesOrFailsStore :
    let s := (recordWrite 3).on running
    let held := { s with
      mrh := { s.mrh with restartPending := true }, bli := { s.bli with halted := true } }
    let owed := { s with nvs := { s.nvs with pendingConfig := true } }
    let owing := { s with nvs := { s.nvs with
      pendingAccounts := (s.nvs.pendingAccounts.set 7 true).set 9 true } }
    [s, held, owed, owing].all (·.nvs.write == some (.record 3 (item 3))) = true
      ∧ (s.nvs.pendingConfig = false ∧ ∀ b, s.nvs.pendingAccounts.get b = false)
      ∧ (held.mrh.restartPending = true ∧ held.bli.halted = true)
      ∧ (¬ (owed.mrh.restartPending = true ∧ owed.bli.halted = true)
        ∧ owed.nvs.pendingConfig = true)
      ∧ (owing.nvs.pendingConfig = false ∧ owing.nvs.pendingAccounts.get 7 = true
        ∧ ∀ x : Fin 64, x < 7 → owing.nvs.pendingAccounts.get x = false)
      ∧ [Notice.storeFault, .commit .notStored].all (·.enabledBy s.tbu.active.bus.mask) = true
      ∧ keyedCount s.bli.board < 62 := by
  decide +kernel

end Sys2Proof.Tests
end

/-! PROOFS. Requests taken in the event of their arrival (R154 to R156, R171), and the statements on
the configuration tables (R36 to R40). -/

namespace Sys2Proof.Machine

open Sys2Proof

/-! ## A message taken in the event of its arrival -/

/-- The arbiter's turn before the end of an event is the one at its end. -/
@[simp] theorem finish_arbitrate (s : State) : finish (arbitrate s) = finish s := by
  simp only [finish, arbitrate, State.setBli_bli, Bli.arbitrate_twice, State.setBli_setBli,
    State.setBli_schedule]

/-- What a message finds does not depend on the COMMISSION level that comes with it. -/
theorem State.TakesAtOnce.setCommission {s : State} (h : s.TakesAtOnce) (level : Bool) :
    (setCommission level s).TakesAtOnce := h

/-- Taking the one message held empties the buffer and answers the message (R155). -/
theorem takeHead_single {s : State} (empty : s.bli.holding = []) (m : Message) :
    takeHead (s.setBli { s.bli with holding := [m] }) = arbitrate (dispatch m s) := by
  change arbitrate (dispatch m (s.setBli { s.bli with holding := [] })) = _
  rw [← empty, State.setBli_self]

/-- A message that is taken at once passes through the holding buffer alone (R154, R155). -/
theorem arrive_of_takesAtOnce {s : State} (h : s.TakesAtOnce) (m : Message) :
    arrive m s = arbitrate (dispatch m s) := by
  obtain ⟨-, takingOpen, empty, free⟩ := h
  let held : State := s.setBli { s.bli with holding := [m] }
  have offered : offer m s = held := by simp [held, offer, empty, Config.holdingCapacity]
  have canTake : held.bli.canTake = true := by simp [held, Bli.canTake, takingOpen, free]
  calc arrive m s = takeUpTo 1 held := by rw [arrive, offered]; rfl
    _ = takeHead held := by simp only [takeUpTo, canTake, if_true]
    _ = arbitrate (dispatch m s) := takeHead_single empty m

/-- The event of a message that is taken at once: the pin, the message's work, the arbiter. -/
theorem messageArrives_of_takesAtOnce {s : State} (h : s.TakesAtOnce) (o : Origin) (kind : Byte)
    (body : List Byte) :
    messageArrives o kind body s
      = finish (dispatch ⟨o.source, kind, body⟩ (setCommission o.commission s)) := by
  have enabled : s.bli.rx ≠ .disabled := h.1
  simp [messageArrives, enabled, arrive_of_takesAtOnce (h.setCommission o.commission)]

/-! ## A request and its REPLY -/

/-- The byte of a request code names its kind (R172). -/
theorem ReqKind.ofCode_byte_code (k : ReqKind) :
    ReqKind.ofCode (byte k.code).toNat = some k := by
  cases k <;> rfl

/-- A REQUEST of a kind is dispatched to steps 2 to 4 of R171, and its REPLY placed. -/
theorem dispatch_request (k : ReqKind) (source : Byte) (fields : List Byte) (s : State) :
    dispatch ⟨source, kindRequest, byte k.code :: fields⟩ s
      = placeReply source k (handleRequest k source fields s) := by
  have taken : dispatch ⟨source, kindRequest, byte k.code :: fields⟩ s
      = takeRequest source (byte k.code :: fields) s := by
    simp [dispatch, kindCommand, kindTime, kindRequest]
  simp only [taken, takeRequest, ReqKind.ofCode_byte_code]

/-- The level at which a message is judged is that of its origin (R170). -/
theorem level_setCommission (s : State) (o : Origin) :
    (setCommission o.commission s).level o.source = s.levelOf o := rfl

/-- A request that passes steps 2 and 3 of R171 has the effect of its owning block. -/
theorem handleRequest_of_allowed {k : ReqKind} {source : Byte} {fields : List Byte} {s : State}
    (level : (s.level source).allows (k.needs fields) = true) (shape : k.shapeOk fields = true) :
    handleRequest k source fields s = requestEffect k source fields s := by
  simp [handleRequest, level, shape]

/-- The command of a request kind is the arrival of that request (R172). -/
theorem exec_toInstr (k : ReqKind) (o : Origin) (fields : List Byte) (s : State) :
    exec (k.toInstr o fields) s
      = .next (messageArrives o kindRequest (byte k.code :: fields) s) := by
  cases k <;> exact Laws.exec_arrival s rfl

/-- The arbiter may choose an answer that waits, and loses none that stands (R165). -/
theorem State.Answers.finish {s : State} {dest : Byte} {a : Answering} (h : s.Answers dest a) :
    (finish s).Answers dest a := by
  simp only [State.Answers, finish_bli]
  by_cases idle : s.bli.tx = .idle ∧ s.bli.halted = false
  · have waits : s.bli.replySlot = some ⟨dest, a⟩ := by simpa [State.Answers, idle.1] using h
    simp [Bli.arbitrate, idle, waits]
  · rw [Bli.arbitrate, if_neg idle]
    exact h

/-- An answer placed stands, whether or not the arbiter acts at the placement (R156, R165). -/
theorem placeAnswer_answers (dest : Byte) (a : Answering) (s : State) :
    (placeAnswer dest a s).Answers dest a := by
  have waits : (s.setBli { s.bli with replySlot := some ⟨dest, a⟩ }).Answers dest a := .inl rfl
  unfold placeAnswer State.settlePlacement
  split
  · exact waits.finish
  · exact waits

/-- The REPLY of a request stands at the end of the event. -/
theorem finish_placeReply_replies (dest : Byte) (k : ReqKind) (h : Handled) :
    (finish (placeReply dest k h)).Replies dest k h.2.1 h.2.2 :=
  (placeAnswer_answers dest _ h.1).finish

/-- Placing the REPLY and ending the event change the building link and the schedule alone. -/
theorem finish_placeReply_eq (dest : Byte) (k : ReqKind) (h : Handled) :
    finish (placeReply dest k h) = { h.1 with
      bli := (finish (placeReply dest k h)).bli
      schedule := (finish (placeReply dest k h)).schedule } := rfl

/-- A request that is taken at once and passes steps 2 and 3 of R171 leaves what its owning block
gives back, but for the building link and the schedule, and its REPLY stands. -/
theorem exec_request_of_takesAtOnce {s : State} {o : Origin} {k : ReqKind} {fields : List Byte}
    (takes : s.TakesAtOnce) (level : (s.levelOf o).allows (k.needs fields) = true)
    (shape : k.shapeOk fields = true) :
    let h := requestEffect k o.source fields (setCommission o.commission s)
    ∃ t, exec (k.toInstr o fields) s = .next t
      ∧ t = { h.1 with bli := t.bli, schedule := t.schedule }
      ∧ t.Replies o.source k h.2.1 h.2.2 := by
  rw [← level_setCommission] at level
  refine ⟨_, ?_, finish_placeReply_eq o.source k _, finish_placeReply_replies o.source k _⟩
  rw [exec_toInstr, messageArrives_of_takesAtOnce takes, dispatch_request,
    handleRequest_of_allowed level shape]

/-! ## DISCARD STAGED -/

@[simp] theorem requestEffect_discardStaged (source : Byte) (fields : List Byte) (s : State) :
    requestEffect .discardStaged source fields s = discardStaged s := rfl

/-- In PENDING_SWAP a DISCARD STAGED is answered BUSY with no effect (R38). -/
theorem discardStaged_of_pendingSwap {s : State} (h : s.tbu.commit = .pendingSwap) :
    discardStaged s = (s, .busy, .nothing) := by
  simp [discardStaged, h, refuse]

/-- Outside PENDING_SWAP a DISCARD STAGED copies the active tables (R38). -/
theorem discardStaged_of_not_pendingSwap {s : State} (h : s.tbu.commit ≠ .pendingSwap) :
    discardStaged s = (s.setTbu { s.tbu with staged := s.tbu.active }, .ok, .nothing) := by
  simp [discardStaged, h]

/-- Where the copies agree, a DISCARD STAGED leaves the Table Unit as it is. -/
theorem discardStaged_tbu_of_agree {s : State} (h : s.tbu.staged = s.tbu.active) :
    (discardStaged s).1.tbu = s.tbu := by
  by_cases pending : s.tbu.commit = .pendingSwap
  · rw [discardStaged_of_pendingSwap pending]
  · rw [discardStaged_of_not_pendingSwap pending, State.setTbu_tbu, ← h]

/-- Settles O44, by the Table Unit's `discardStaged` in each commit state. -/
theorem discardStagedCopiesActive : Obligations.DiscardStagedCopiesActive := by
  unfold Obligations.DiscardStagedCopiesActive
  intro s o takes level
  obtain ⟨t, run, same, replies⟩ :=
    exec_request_of_takesAtOnce (k := .discardStaged) (fields := []) takes level rfl
  rw [requestEffect_discardStaged] at same replies
  refine ⟨t, run, fun taken => ?_, fun pending => ?_, fun agree => ?_⟩
  · have notPending : (setCommission o.commission s).tbu.commit ≠ .pendingSwap := by
      rcases taken with idle | storing
      · simp [idle]
      · simp [storing]
    rw [discardStaged_of_not_pendingSwap notPending] at same replies
    exact ⟨same, replies⟩
  · have pending' : (setCommission o.commission s).tbu.commit = .pendingSwap := pending
    rw [discardStaged_of_pendingSwap pending'] at same replies
    exact ⟨same, replies⟩
  · have agree' : (setCommission o.commission s).tbu.staged
        = (setCommission o.commission s).tbu.active := agree
    rw [same]
    exact discardStaged_tbu_of_agree agree'

end Sys2Proof.Machine

/-! PROOFS. READ FAULT (R178): a request at the OBSERVE level, which every requester has. -/

namespace Sys2Proof.Machine

open Sys2Proof

/-- OBSERVE is the lowest access level, so each level gives it (R170). -/
@[simp] theorem Level.allows_observe (have_ : Level) : have_.allows .observe = true :=
  decide_eq_true (Nat.zero_le have_.code)

/-- READ FAULT needs OBSERVE, whatever its fields (R178). -/
@[simp] theorem ReqKind.needs_readFault (fields : List Byte) :
    ReqKind.needs .readFault fields = .observe := rfl

/-- READ FAULT shows the access fault record, and its owning block changes nothing (R178). -/
@[simp] theorem requestEffect_readFault (source : Byte) (fields : List Byte) (s : State) :
    requestEffect .readFault source fields s = (s, .ok, .fault s.mrh.fault) := rfl

/-- A change of the COMMISSION level is a change of that pin alone (R170). -/
theorem setCommission_eq_pinsOf (s : State) (o : Origin) :
    setCommission o.commission s = { s with pins := s.pinsOf o } := rfl

/-- Settles O48: step 2 of R171 passes because every level allows OBSERVE, and step 4 gives back the
state it found. -/
theorem readFaultShowsRecord : Obligations.ReadFaultShowsRecord := by
  unfold Obligations.ReadFaultShowsRecord
  intro s o takes
  have level : (s.levelOf o).allows (ReqKind.needs .readFault []) = true := by
    rw [ReqKind.needs_readFault, Level.allows_observe]
  obtain ⟨t, run, same, replies⟩ :=
    exec_request_of_takesAtOnce (k := .readFault) (fields := []) takes level rfl
  rw [requestEffect_readFault, setCommission_eq_pinsOf] at same replies
  exact ⟨t, run, same, replies⟩

end Sys2Proof.Machine

/-! PROOFS. The notice board under posts and the arbiter (R161 to R165). -/

namespace Sys2Proof.Machine

open Sys2Proof

/-! ## Keys -/

/-- Only BOARD_FULL has its key: no other notice has its kind. -/
theorem Notice.key_eq_boardFull_iff (n : Notice) :
    n.key = Notice.key .boardFull ↔ n = .boardFull := by
  cases n <;> simp [Notice.key, Notice.code]

/-- A keyed entry is one of any notice but BOARD_FULL (R161). -/
@[simp] theorem BoardEntry.keyed_eq_true_iff (e : BoardEntry) :
    e.keyed = true ↔ e.notice ≠ .boardFull := by
  simp [BoardEntry.keyed]

/-- Two notices with one key are both keyed entries or both BOARD_FULL. -/
theorem BoardEntry.keyed_eq_of_key_eq {e : BoardEntry} {n : Notice} {m : Nat}
    (h : e.notice.key = n.key) : BoardEntry.keyed ⟨n, m⟩ = e.keyed := by
  have same : n = .boardFull ↔ e.notice = .boardFull := by
    rw [← Notice.key_eq_boardFull_iff, ← Notice.key_eq_boardFull_iff e.notice, h]
  rw [Bool.eq_iff_iff]
  simp [same]

/-- A board holds a notice's key exactly when an entry has it. -/
theorem holdsKey_eq_true_iff (board : List BoardEntry) (n : Notice) :
    holdsKey board n = true ↔ ∃ e ∈ board, e.notice.key = n.key := by
  simp [holdsKey]

/-- A board does not hold a notice's key exactly when no entry has it. -/
theorem holdsKey_eq_false_iff (board : List BoardEntry) (n : Notice) :
    holdsKey board n = false ↔ ∀ e ∈ board, e.notice.key ≠ n.key := by
  simp [holdsKey]

/-! ## A board within its bounds -/

/-- The bounds of R161, of a list of entries; the bound on all entries follows from the others. -/
structure BoardBounds (board : List BoardEntry) : Prop where
  keys : (board.map fun e => e.notice.key).Nodup
  keyed : keyedCount board ≤ 63
  merges : ∀ e ∈ board, 1 ≤ e.merge ∧ e.merge ≤ 255

/-- With no two entries of one key, at most one entry is not a keyed one. -/
theorem length_le_keyedCount {board : List BoardEntry}
    (keys : (board.map fun e => e.notice.key).Nodup) : board.length ≤ keyedCount board + 1 := by
  have split : board.length
      = keyedCount board + (board.filter fun e => !e.keyed).length := by
    simpa [keyedCount] using List.length_eq_length_filter_add (l := board) BoardEntry.keyed
  have unkeyed : ∀ k ∈ (board.filter fun e => !e.keyed).map fun e => e.notice.key,
      k = Notice.key .boardFull := by
    simp only [List.mem_map, List.mem_filter]
    rintro k ⟨e, ⟨-, full⟩, rfl⟩
    rw [Notice.key_eq_boardFull_iff]
    simpa [BoardEntry.keyed] using full
  have nodup : ((board.filter fun e => !e.keyed).map fun e => e.notice.key).Nodup :=
    keys.sublist (List.filter_sublist.map _)
  have atMostOne := List.nodup_replicate.mp (List.eq_replicate_of_mem unkeyed ▸ nodup)
  simp only [List.length_map] at atMostOne
  omega

/-- The board of a building link is within its bounds exactly as R161 says it. -/
theorem Bli.boardWf_iff (b : Bli) : b.BoardWf ↔ BoardBounds b.board := by
  constructor
  · rintro ⟨keys, keyed, -, merges⟩
    exact ⟨keys, keyed, merges⟩
  · rintro ⟨keys, keyed, merges⟩
    have := length_le_keyedCount keys
    exact ⟨keys, keyed, by omega, merges⟩

/-- An entry that leaves its place leaves the board within its bounds. -/
theorem BoardBounds.sublist {b b' : List BoardEntry} (h : BoardBounds b) (sub : b'.Sublist b) :
    BoardBounds b' where
  keys := h.keys.sublist (sub.map _)
  keyed := (sub.filter BoardEntry.keyed).length_le.trans h.keyed
  merges e he := h.merges e (sub.subset he)

/-! ## A post -/

/-- A merge keeps every key. -/
theorem mergeInto_keys (board : List BoardEntry) (n : Notice) :
    (mergeInto board n).map (fun e => e.notice.key) = board.map fun e => e.notice.key := by
  simp only [mergeInto, List.map_map]
  refine List.map_congr_left fun e _ => ?_
  by_cases h : e.notice.key = n.key <;> simp [h]

/-- A merge keeps the number of keyed entries. -/
theorem keyedCount_mergeInto (board : List BoardEntry) (n : Notice) :
    keyedCount (mergeInto board n) = keyedCount board := by
  simp only [keyedCount, mergeInto, List.filter_map, List.length_map]
  congr 1
  refine List.filter_congr fun e _ => ?_
  by_cases h : e.notice.key = n.key
  · simp [h, BoardEntry.keyed_eq_of_key_eq h]
  · simp [h]

/-- A merge keeps the board within its bounds. -/
theorem BoardBounds.mergeInto {board : List BoardEntry} (h : BoardBounds board) (n : Notice) :
    BoardBounds (mergeInto board n) where
  keys := by rw [mergeInto_keys]; exact h.keys
  keyed := by rw [keyedCount_mergeInto]; exact h.keyed
  merges := by
    simp only [Machine.mergeInto, List.mem_map]
    rintro _ ⟨e, he, rfl⟩
    by_cases hk : e.notice.key = n.key
    · simp [hk, saturate, Config.mergeMax]
    · simpa [hk] using h.merges e he

/-- A new key at the tail keeps the board within its bounds, where a keyed entry finds room. -/
theorem BoardBounds.atTail {board : List BoardEntry} (h : BoardBounds board) {n : Notice}
    (new : holdsKey board n = false) (room : n = .boardFull ∨ keyedCount board < 63) :
    BoardBounds (atTail board n) where
  keys := by
    rw [holdsKey_eq_false_iff] at new
    simp only [Machine.atTail, List.map_append, List.map_cons, List.map_nil]
    refine h.keys.append (by simp) ?_
    simpa using fun e he => (new e he)
  keyed := by
    have count : keyedCount (Machine.atTail board n)
        = keyedCount board + if n = .boardFull then 0 else 1 := by
      by_cases hn : n = .boardFull <;> simp [keyedCount, Machine.atTail, hn]
    have := h.keyed
    rw [count]
    split
    · omega
    · have := room.resolve_left ‹_›
      omega
  merges := by
    simp only [Machine.atTail, List.mem_append, List.mem_singleton]
    rintro e (he | rfl)
    · exact h.merges e he
    · simp

/-- The BOARD_FULL post keeps the board within its bounds (R163). -/
theorem BoardBounds.boardFullPost {board : List BoardEntry} (h : BoardBounds board)
    (mask : BitVec 16) : BoardBounds (boardFullPost mask board) := by
  unfold Machine.boardFullPost
  split
  · exact h
  · split
    · exact h.mergeInto _
    · next new => exact h.atTail (by simpa using new) (.inl rfl)

/-- A post keeps the board within its bounds (R161, R162). -/
theorem BoardBounds.boardPost {board : List BoardEntry} (h : BoardBounds board)
    (mask : BitVec 16) (n : Notice) : BoardBounds (boardPost mask n board) := by
  unfold Machine.boardPost
  split
  · exact h
  · split
    · exact h.mergeInto n
    · next new =>
      split
      · next room =>
        refine h.atTail (by simpa using new) (.inr ?_)
        exact of_decide_eq_true (Bool.and_eq_true_iff.mp room).2
      · exact h.boardFullPost mask

/-- A post judged against any mask keeps a board well formed. -/
theorem Bli.BoardWf.post {b : Bli} (h : b.BoardWf) (mask : BitVec 16) (n : Notice) :
    Bli.BoardWf { b with board := Machine.boardPost mask n b.board } :=
  (Bli.boardWf_iff _).mpr (((Bli.boardWf_iff b).mp h).boardPost mask n)

/-- What the arbiter leaves on the board is what was there, or all but its oldest entry. -/
theorem Bli.arbitrate_board (b : Bli) :
    b.arbitrate.board = b.board ∨ b.arbitrate.board = b.board.tail := by
  unfold Bli.arbitrate
  split
  · split
    · exact .inl rfl
    · split
      · exact .inl rfl
      · split
        · next h => exact .inr (by rw [h]; rfl)
        · exact .inl rfl
  · exact .inl rfl

/-- The arbiter keeps a board well formed. -/
theorem Bli.BoardWf.arbitrate {b : Bli} (h : b.BoardWf) : b.arbitrate.BoardWf := by
  rw [Bli.boardWf_iff] at h ⊢
  rcases b.arbitrate_board with same | tail
  · rwa [same]
  · rw [tail]; exact h.sublist (List.tail_sublist _)

end Sys2Proof.Machine

/-! PROOFS. The link monitor table (R80, R92, R93): entries, ranks, and what keeps it sound. -/

namespace Sys2Proof.Machine

open Sys2Proof

/-! ## Entries -/

@[simp] theorem Monitor.entry?_free : Monitor.entry? .free = none := rfl
@[simp] theorem Monitor.entry?_open (e : MonitorEntry) : Monitor.entry? (.open_ e) = some e := rfl
@[simp] theorem Monitor.entry?_lapsed (e : MonitorEntry) :
    Monitor.entry? (.lapsed e) = some e := rfl

/-- Only a FREE entry has no fields. -/
@[simp] theorem Monitor.entry?_eq_none_iff (m : Monitor) : m.entry? = none ↔ m = .free := by
  cases m <;> simp

/-- Lapsing keeps an entry's fields (R92). -/
@[simp] theorem Monitor.entry?_lapse (a : Fin 64) (m : Monitor) : (m.lapse a).entry? = m.entry? := by
  cases m with
  | open_ e => simp only [Monitor.lapse]; split <;> rfl
  | free => rfl
  | lapsed e => rfl

/-- Lapsing at a swap keeps an entry's fields (R105). -/
@[simp] theorem Monitor.entry?_lapseAny (m : Monitor) : m.lapseAny.entry? = m.entry? := by
  cases m <;> rfl

/-- Lapsing frees no entry. -/
@[simp] theorem Monitor.lapse_eq_free_iff (a : Fin 64) (m : Monitor) :
    m.lapse a = .free ↔ m = .free := by
  rw [← Monitor.entry?_eq_none_iff, Monitor.entry?_lapse, Monitor.entry?_eq_none_iff]

/-- Lapsing at a swap frees no entry. -/
@[simp] theorem Monitor.lapseAny_eq_free_iff (m : Monitor) : m.lapseAny = .free ↔ m = .free := by
  cases m <;> simp [Monitor.lapseAny]

/-- An entry OPEN after a lapse was OPEN before it, on another account (R92). -/
theorem Monitor.lapse_eq_open_iff (a : Fin 64) (m : Monitor) (e : MonitorEntry) :
    m.lapse a = .open_ e ↔ m = .open_ e ∧ e.account ≠ a := by
  cases m with
  | open_ f =>
    by_cases h : f.account = a
    · simp only [Monitor.lapse, h, if_true, reduceCtorEq, false_iff, not_and, Monitor.open_.injEq]
      rintro rfl
      simpa using h
    · simp only [Monitor.lapse, h, if_false, Monitor.open_.injEq]
      exact ⟨fun q => ⟨q, q ▸ h⟩, And.left⟩
  | free => simp [Monitor.lapse]
  | lapsed f => simp [Monitor.lapse]

/-- No entry is OPEN after a swap (R105). -/
theorem Monitor.lapseAny_ne_open (m : Monitor) (e : MonitorEntry) : m.lapseAny ≠ .open_ e := by
  cases m <;> simp [Monitor.lapseAny]

/-- Closing up the ranks moves an entry's rank alone (R80). -/
theorem Monitor.closeRank_eq (gone : Nat) (m : Monitor) : m.closeRank gone = match m with
    | .free => .free
    | .open_ e => .open_ (e.closedUp gone)
    | .lapsed e => .lapsed (e.closedUp gone) := by
  cases m <;> rfl

/-- The fields of an entry after the ranks close up. -/
@[simp] theorem Monitor.entry?_closeRank (gone : Nat) (m : Monitor) :
    (m.closeRank gone).entry? = m.entry?.map (·.closedUp gone) := by
  cases m <;> rfl

@[simp] theorem MonitorEntry.closedUp_requester (gone : Nat) (e : MonitorEntry) :
    (e.closedUp gone).requester = e.requester := by
  unfold MonitorEntry.closedUp; split <;> rfl

@[simp] theorem MonitorEntry.closedUp_account (gone : Nat) (e : MonitorEntry) :
    (e.closedUp gone).account = e.account := by
  unfold MonitorEntry.closedUp; split <;> rfl

@[simp] theorem MonitorEntry.closedUp_revision (gone : Nat) (e : MonitorEntry) :
    (e.closedUp gone).revision = e.revision := by
  unfold MonitorEntry.closedUp; split <;> rfl

/-- The rank of an entry after the ranks close up (R80). -/
theorem MonitorEntry.closedUp_order (gone : Nat) (e : MonitorEntry) :
    (e.closedUp gone).order = if gone < e.order then e.order - 1 else e.order := by
  unfold MonitorEntry.closedUp; split <;> rfl

/-! ## The table -/

/-- The number of entries held as a cardinality. -/
theorem heldMonitors_eq_card (ms : Tab Monitor 4) :
    heldMonitors ms = (Finset.univ.filter fun i => ms.get i ≠ .free).card := by
  simp [heldMonitors, Tab.indices, Finset.card, Finset.filter, Finset.univ, Fintype.elems, bne,
    beq_eq_decide]

/-- Tables that are FREE at the same indices hold as many entries. -/
theorem heldMonitors_congr {ms ns : Tab Monitor 4}
    (h : ∀ i, ms.get i = .free ↔ ns.get i = .free) : heldMonitors ms = heldMonitors ns := by
  simp only [heldMonitors_eq_card, ne_eq, h]

/-- A held entry that becomes FREE leaves one entry fewer. -/
theorem heldMonitors_of_freed {ms ns : Tab Monitor 4} {i : Fin 4} (held : ms.get i ≠ .free)
    (freed : ns.get i = .free) (rest : ∀ j, j ≠ i → (ns.get j = .free ↔ ms.get j = .free)) :
    heldMonitors ns + 1 = heldMonitors ms := by
  simp only [heldMonitors_eq_card]
  have erased : (Finset.univ.filter fun j => ns.get j ≠ .free)
      = (Finset.univ.filter fun j => ms.get j ≠ .free).erase i := by
    ext j
    by_cases hj : j = i
    · simp [hj, freed]
    · simp [hj, rest j hj]
  rw [erased, Finset.card_erase_add_one (by simpa using held)]

/-- The entry that becomes FREE (R80). -/
@[simp] theorem freeMonitor_self (ms : Tab Monitor 4) (i : Fin 4) :
    (freeMonitor ms i).get i = .free := by
  unfold freeMonitor
  split
  · simpa using ‹(ms.get i).entry? = none›
  · simp [Monitor.closeRank]

/-- Every other entry after one becomes FREE: the higher ranks close up (R80). -/
theorem freeMonitor_other {ms : Tab Monitor 4} {i j : Fin 4} {e : MonitorEntry}
    (held : (ms.get i).entry? = some e) (h : j ≠ i) :
    (freeMonitor ms i).get j = (ms.get j).closeRank e.order := by
  simp [freeMonitor, held, Tab.get_set, h]

/-- An entry that is FREE already is left so. -/
theorem freeMonitor_of_free {ms : Tab Monitor 4} {i : Fin 4} (free : ms.get i = .free) :
    freeMonitor ms i = ms := by
  simp [freeMonitor, free]

/-- No other entry becomes FREE. -/
theorem freeMonitor_eq_free_iff (ms : Tab Monitor 4) (i j : Fin 4) (h : j ≠ i) :
    (freeMonitor ms i).get j = .free ↔ ms.get j = .free := by
  cases held : (ms.get i).entry? with
  | none => rw [freeMonitor_of_free (by simpa using held)]
  | some e =>
    rw [freeMonitor_other held h]
    cases ms.get j <;> simp [Monitor.closeRank]

/-- An entry held after another became FREE. -/
theorem freeMonitor_entry {ms : Tab Monitor 4} {i j : Fin 4} {e f : MonitorEntry}
    (held : (ms.get i).entry? = some e) (h : ((freeMonitor ms i).get j).entry? = some f) :
    j ≠ i ∧ ∃ g, (ms.get j).entry? = some g ∧ f = g.closedUp e.order := by
  have ne : j ≠ i := by
    rintro rfl
    simp at h
  rw [freeMonitor_other held ne, Monitor.entry?_closeRank, Option.map_eq_some_iff] at h
  obtain ⟨g, hg, rfl⟩ := h
  exact ⟨ne, g, hg, rfl⟩

/-! ## Sound tables -/

/-- Soundness rests on the monitors and the revisions alone. -/
theorem Dau.MonitorsSound.congr {d d' : Dau} (h : d.MonitorsSound)
    (monitors : d'.monitors = d.monitors)
    (revisions : ∀ a, (d'.accounts.get a).revision = (d.accounts.get a).revision) :
    d'.MonitorsSound where
  one_each := by rw [monitors]; exact h.one_each
  current i e := by rw [monitors, revisions]; exact h.current i e
  ranked := by rw [monitors]; exact h.ranked
  ranks_distinct := by rw [monitors]; exact h.ranks_distinct

/-- Entries that keep their fields, with the OPEN ones among them current, are a sound table. -/
theorem Dau.MonitorsSound.of_entries {d d' : Dau} (h : d.MonitorsSound)
    (entries : ∀ i, (d'.monitors.get i).entry? = (d.monitors.get i).entry?)
    (current : ∀ i e, d'.monitors.get i = .open_ e →
      d.monitors.get i = .open_ e
        ∧ (d'.accounts.get e.account).revision = (d.accounts.get e.account).revision) :
    d'.MonitorsSound where
  one_each i j e f := by rw [entries, entries]; exact h.one_each i j e f
  current i e open' := by
    obtain ⟨wasOpen, same⟩ := current i e open'
    rw [same]
    exact h.current i e wasOpen
  ranked i e := by
    have held : heldMonitors d'.monitors = heldMonitors d.monitors :=
      heldMonitors_congr fun j => by
        rw [← Monitor.entry?_eq_none_iff, entries, Monitor.entry?_eq_none_iff]
    rw [entries, held]
    exact h.ranked i e
  ranks_distinct i j e f := by rw [entries, entries]; exact h.ranks_distinct i j e f

/-- Lapsing the entries on an account whose revision moves keeps the table sound (R92). -/
theorem Dau.MonitorsSound.lapse {d d' : Dau} (h : d.MonitorsSound) (a : Fin 64)
    (monitors : ∀ i, d'.monitors.get i = (d.monitors.get i).lapse a)
    (revisions : ∀ b, b ≠ a → (d'.accounts.get b).revision = (d.accounts.get b).revision) :
    d'.MonitorsSound := by
  refine h.of_entries (fun i => by rw [monitors, Monitor.entry?_lapse]) fun i e open' => ?_
  rw [monitors, Monitor.lapse_eq_open_iff] at open'
  exact ⟨open'.1, revisions _ open'.2⟩

/-- An entry that becomes FREE keeps the table sound (R80). -/
theorem Dau.MonitorsSound.free {d : Dau} (h : d.MonitorsSound) (i : Fin 4) :
    Dau.MonitorsSound { d with monitors := freeMonitor d.monitors i } := by
  cases held : (d.monitors.get i).entry? with
  | none => rwa [freeMonitor_of_free (by simpa using held)]
  | some e =>
    have fewer : heldMonitors (freeMonitor d.monitors i) + 1 = heldMonitors d.monitors :=
      heldMonitors_of_freed (by rw [ne_eq, ← Monitor.entry?_eq_none_iff, held]; simp)
        (freeMonitor_self _ _) (freeMonitor_eq_free_iff _ _)
    refine ⟨fun j k f g hf hg same => ?_, fun j f open' => ?_, fun j f hf => ?_,
      fun j k f g hf hg same => ?_⟩
    · obtain ⟨-, f', hf', rfl⟩ := freeMonitor_entry held hf
      obtain ⟨-, g', hg', rfl⟩ := freeMonitor_entry held hg
      exact h.one_each j k f' g' hf' hg' (by simpa using same)
    · have ne : j ≠ i := by rintro rfl; simp at open'
      rw [freeMonitor_other held ne, Monitor.closeRank_eq] at open'
      cases hj : d.monitors.get j with
      | open_ f' =>
        rw [hj] at open'
        obtain rfl := Monitor.open_.inj open'
        simpa using h.current j f' hj
      | free => simp [hj] at open'
      | lapsed f' => simp [hj] at open'
    · obtain ⟨ne, f', hf', rfl⟩ := freeMonitor_entry held hf
      have rank := h.ranked j f' hf'
      have gone := h.ranked i e held
      have apart : f'.order ≠ e.order := fun same => ne (h.ranks_distinct j i f' e hf' held same)
      rw [MonitorEntry.closedUp_order]
      dsimp only
      split <;> omega
    · obtain ⟨jne, f', hf', rfl⟩ := freeMonitor_entry held hf
      obtain ⟨kne, g', hg', rfl⟩ := freeMonitor_entry held hg
      have fApart : f'.order ≠ e.order := fun q => jne (h.ranks_distinct j i f' e hf' held q)
      have gApart : g'.order ≠ e.order := fun q => kne (h.ranks_distinct k i g' e hg' held q)
      rw [MonitorEntry.closedUp_order, MonitorEntry.closedUp_order] at same
      refine h.ranks_distinct j k f' g' hf' hg' ?_
      split at same <;> split at same <;> omega

/-- A new OPEN entry of the highest rank, for a requester that holds none, keeps the table sound
(R93). -/
theorem Dau.MonitorsSound.open {d : Dau} (h : d.MonitorsSound) {i : Fin 4} {e : MonitorEntry}
    (free : d.monitors.get i = .free) (current : e.revision = (d.accounts.get e.account).revision)
    (order : e.order = heldMonitors d.monitors + 1)
    (none_held : ∀ j f, (d.monitors.get j).entry? = some f → f.requester ≠ e.requester) :
    Dau.MonitorsSound { d with monitors := d.monitors.set i (.open_ e) } := by
  have more : heldMonitors d.monitors + 1 = heldMonitors (d.monitors.set i (.open_ e)) :=
    heldMonitors_of_freed (by simp) free fun j hj => by rw [Tab.get_set_ne _ _ hj]
  have entry : ∀ j f, ((d.monitors.set i (.open_ e)).get j).entry? = some f →
      (j = i ∧ f = e) ∨ (j ≠ i ∧ (d.monitors.get j).entry? = some f) := by
    intro j f hf
    by_cases hj : j = i
    · subst hj
      simp only [Tab.get_set_self, Monitor.entry?_open, Option.some.injEq] at hf
      exact .inl ⟨rfl, hf.symm⟩
    · rw [Tab.get_set_ne _ _ hj] at hf
      exact .inr ⟨hj, hf⟩
  refine ⟨fun j k f g hf hg same => ?_, fun j f open' => ?_, fun j f hf => ?_,
    fun j k f g hf hg same => ?_⟩
  · rcases entry j f hf with ⟨rfl, rfl⟩ | ⟨-, hf'⟩ <;> rcases entry k g hg with ⟨rfl, rfl⟩ | ⟨-, hg'⟩
    · rfl
    · exact absurd same.symm (none_held k g hg')
    · exact absurd same (none_held j f hf')
    · exact h.one_each j k f g hf' hg' same
  · by_cases hj : j = i
    · subst hj
      obtain rfl : e = f := by simpa using open'
      exact current
    · exact h.current j f (by rwa [← Tab.get_set_ne _ (.open_ e) hj])
  · change 1 ≤ f.order ∧ f.order ≤ heldMonitors (d.monitors.set i (.open_ e))
    rcases entry j f hf with ⟨-, rfl⟩ | ⟨-, hf'⟩
    · omega
    · have := h.ranked j f hf'
      omega
  · rcases entry j f hf with ⟨rfl, rfl⟩ | ⟨-, hf'⟩ <;> rcases entry k g hg with ⟨rfl, rfl⟩ | ⟨-, hg'⟩
    · rfl
    · have := h.ranked k g hg'
      omega
    · have := h.ranked j f hf'
      omega
    · exact h.ranks_distinct j k f g hf' hg' same

/-! ## The choice of an entry (R93) -/

/-- Where a requester holds an entry. -/
theorem monitorOf_eq_some {ms : Tab Monitor 4} {requester : Byte} {i : Fin 4}
    (h : monitorOf ms requester = some i) :
    ∃ e, (ms.get i).entry? = some e ∧ e.requester = requester := by
  have found := Tab.find?_some h
  simpa [Option.map_eq_some_iff] using found

/-- Where a requester holds none. -/
theorem monitorOf_eq_none_iff {ms : Tab Monitor 4} {requester : Byte} :
    monitorOf ms requester = none
      ↔ ∀ i e, (ms.get i).entry? = some e → e.requester ≠ requester := by
  simp [monitorOf, Tab.find?]

/-- The table after the requester's own entry, if any, became FREE (R93 step 1). -/
def ownFreed (ms : Tab Monitor 4) (requester : Byte) : Tab Monitor 4 :=
  match monitorOf ms requester with
  | some i => freeMonitor ms i
  | none => ms

/-- Opening a monitor: the own entry FREE, the chosen entry FREE, and the new entry in it (R93). -/
theorem openMonitor_eq (ms : Tab Monitor 4) (requester : Byte) (a : Fin 64) (revision : Half) :
    openMonitor ms requester a revision
      = let ms1 := ownFreed ms requester
        let i := chooseMonitor ms1
        let ms2 := freeMonitor ms1 i
        ms2.set i (.open_ ⟨requester, a, revision, heldMonitors ms2 + 1⟩) := rfl

/-- Opening a monitor at an account's revision keeps the table sound (R80, R93). -/
theorem Dau.MonitorsSound.openMonitor {d : Dau} (h : d.MonitorsSound) (requester : Byte)
    (a : Fin 64) : Dau.MonitorsSound { d with
      monitors := openMonitor d.monitors requester a (d.accounts.get a).revision } := by
  have own : Dau.MonitorsSound { d with monitors := ownFreed d.monitors requester } ∧
      ∀ j f, ((ownFreed d.monitors requester).get j).entry? = some f →
        f.requester ≠ requester := by
    unfold ownFreed
    cases held : monitorOf d.monitors requester with
    | none => exact ⟨h, monitorOf_eq_none_iff.mp held⟩
    | some i =>
      obtain ⟨e, he, rfl⟩ := monitorOf_eq_some held
      refine ⟨h.free i, fun j f hf => ?_⟩
      obtain ⟨ne, g, hg, rfl⟩ := freeMonitor_entry he hf
      rw [MonitorEntry.closedUp_requester]
      exact fun same => ne (h.one_each j i g e hg he same)
  obtain ⟨sound, none_held⟩ := own
  rw [openMonitor_eq]
  refine (sound.free (chooseMonitor _)).open (freeMonitor_self _ _) rfl rfl fun j f hf => ?_
  generalize hi : chooseMonitor (ownFreed d.monitors requester) = i at hf
  cases he : ((ownFreed d.monitors requester).get i).entry? with
  | none =>
    dsimp only at hf
    rw [freeMonitor_of_free (by simpa using he)] at hf
    exact none_held j f hf
  | some e =>
    obtain ⟨-, g, hg, rfl⟩ := freeMonitor_entry he hf
    rw [MonitorEntry.closedUp_requester]
    exact none_held j g hg

end Sys2Proof.Machine

/-! PROOFS. What work on one set of tables keeps: the invariants of each block, block by block, as
one relation between the state before and the state after. -/

namespace Sys2Proof.Machine

open Sys2Proof

/-! ## The invariants of a block under given tables -/

/-- An account's record stands as its counts give, or is SUSPENDED; IDLE where not enabled (R85). -/
def AccountDyn.Stands (cfg : AccountRec) (r : AccountDyn) : Prop :=
  if cfg.isEnabled then r.state = .suspended ∨ r.state = evaluated cfg r else r.state = .idle

/-- Every account stands under the tables (R78, R85). -/
def Dau.AccountsStand (d : Dau) (t : Tables) : Prop :=
  ∀ a, (d.accounts.get a).Stands (t.accounts.get a)

/-- The accounts follow their counts once start-up has ended (R78, R85). -/
theorem State.accountsFollow_iff (s : State) :
    s.AccountsFollow ↔ (s.nvs.start ≠ .starting → s.dau.AccountsStand s.tbu.active) := Iff.rfl

/-- A zone record's ceiling is one its tables give, and absent where the zone is not enabled
(R107, R115). -/
def ZoneDyn.CeilingIn (t : Tables) (z : Fin 16) (r : ZoneDyn) : Prop :=
  if t.zoneEnabled z then
    r.ceiling = some (num (t.zoneRec z).luxCeiling) ∨ r.ceiling = some (num (t.zoneRec z).restLevel)
  else r.ceiling = none

/-- Every zone's ceiling is one its tables give (R107, R115). -/
def Zcu.CeilingsIn (c : Zcu) (t : Tables) : Prop := ∀ z, (c.zones.get z).CeilingIn t z

/-- The ceilings follow the tables once start-up has ended. -/
theorem State.ceilingsFollow_iff (s : State) :
    s.CeilingsFollow ↔ (s.nvs.start ≠ .starting → s.zcu.CeilingsIn s.tbu.active) := Iff.rfl

/-- A commit state and swap cycle agree with the store controller's work (R39, R47, R194, R197). -/
structure StoreAgrees (commit : CommitState) (swapCycle : Option Half) (n : Nvs) : Prop where
  swap_cycle : swapCycle.isSome = true ↔ commit = .pendingSwap
  storing : commit = .storing ↔ (n.pendingConfig || n.writesConfig) = true
  not_both : (n.pendingConfig && n.writesConfig) = false
  config_state : n.state = .writingConfig ↔ n.writesConfig = true
  record_state : n.state = .writingRecord ↔ n.writesRecord = true
  failed_config : n.state = .failed → n.pendingConfig = false
  failed_accounts : n.state = .failed → n.pendingAccounts = Tab.fill 64 false

/-- The agreement of the commit state and the store rests on the Table Unit and the store controller
alone. -/
theorem State.storeCoherent_iff (s : State) :
    s.StoreCoherent ↔ StoreAgrees s.tbu.commit s.tbu.swapCycle s.nvs :=
  ⟨fun h => ⟨h.1, h.2, h.3, h.4, h.5, h.6, h.7⟩, fun h => ⟨h.1, h.2, h.3, h.4, h.5, h.6, h.7⟩⟩

/-- Work on the tables `t` that takes `s` to `u`: the Table Unit and the start-up state stand, the
records of sensors and actuators stand where they stood, and what held of each block still holds. -/
structure Keeps (t : Tables) (s u : State) : Prop where
  tables : u.tbu = s.tbu
  start : u.nvs.start = s.nvs.start
  reading : u.nvs.reading = s.nvs.reading
  schedule : u.schedule = s.schedule
  stopped : u.flc.state = .stopped ↔ s.flc.state = .stopped
  sensors : ∀ k, (u.cmu.sensors.get k).isSome = (s.cmu.sensors.get k).isSome
  actuators : ∀ k, (u.cgu.actuators.get k).isSome = (s.cgu.actuators.get k).isSome
  board : s.bli.BoardWf → u.bli.BoardWf
  fieldline : s.flc.Coherent → u.flc.Coherent
  alert : s.cmu.alert = alertLevel t s.cmu → u.cmu.alert = alertLevel t u.cmu
  year : s.dau.YearCoversToday → u.dau.YearCoversToday
  monitors : s.dau.MonitorsSound → u.dau.MonitorsSound
  accounts : s.dau.AccountsStand t → u.dau.AccountsStand t
  ceilings : s.zcu.CeilingsIn t → u.zcu.CeilingsIn t
  store : ∀ c x, StoreAgrees c x s.nvs → StoreAgrees c x u.nvs
  failed : u.nvs.state = .failed ↔ s.nvs.state = .failed
  sending : s.bli.tx ≠ .idle → u.bli.tx = s.bli.tx
  holding : u.bli.holding = s.bli.holding
  unanswered : s.bli.replySlot = none → u.bli.replySlot = none

variable {t : Tables} {s u v : State}

@[refl] theorem Keeps.refl (t : Tables) (s : State) : Keeps t s s where
  tables := rfl
  start := rfl
  reading := rfl
  schedule := rfl
  stopped := Iff.rfl
  sensors _ := rfl
  actuators _ := rfl
  board := id
  fieldline := id
  alert := id
  year := id
  monitors := id
  accounts := id
  ceilings := id
  store _ _ := id
  failed := Iff.rfl
  sending _ := rfl
  holding := rfl
  unanswered := id

@[trans] theorem Keeps.trans (h : Keeps t s u) (g : Keeps t u v) : Keeps t s v where
  tables := g.tables.trans h.tables
  start := g.start.trans h.start
  reading := g.reading.trans h.reading
  schedule := g.schedule.trans h.schedule
  stopped := g.stopped.trans h.stopped
  sensors k := (g.sensors k).trans (h.sensors k)
  actuators k := (g.actuators k).trans (h.actuators k)
  board := g.board ∘ h.board
  fieldline := g.fieldline ∘ h.fieldline
  alert := g.alert ∘ h.alert
  year := g.year ∘ h.year
  monitors := g.monitors ∘ h.monitors
  accounts := g.accounts ∘ h.accounts
  ceilings := g.ceilings ∘ h.ceilings
  store c x := g.store c x ∘ h.store c x
  failed := g.failed.trans h.failed
  sending busy := (g.sending (by rw [h.sending busy]; exact busy)).trans (h.sending busy)
  holding := g.holding.trans h.holding
  unanswered := g.unanswered ∘ h.unanswered

/-- A fold of work is work. -/
theorem Keeps.foldl {α : Type} {f : State → α → State} {l : List α}
    (each : ∀ a ∈ l, ∀ s, Keeps t s (f s a)) (s : State) : Keeps t s (l.foldl f s) := by
  induction l generalizing s with
  | nil => exact .refl t s
  | cons a l ih =>
    exact (each a (by simp) s).trans (ih (fun b hb => each b (by simp [hb])) (f s a))

/-- Steps of work are work. -/
theorem Keeps.runSteps {steps : List (State → State)} (each : ∀ f ∈ steps, ∀ s, Keeps t s (f s))
    (s : State) : Keeps t s (runSteps steps s) :=
  Keeps.foldl (fun f hf s => each f hf s) s

/-! ## One block replaced -/

theorem Keeps.setPins (s : State) (x : Pins) : Keeps t s (s.setPins x) := { Keeps.refl t s with }

theorem Keeps.setMrh (s : State) (x : Mrh) : Keeps t s (s.setMrh x) := { Keeps.refl t s with }

theorem Keeps.setXsu (s : State) (x : Xsu) : Keeps t s (s.setXsu x) := { Keeps.refl t s with }

theorem Keeps.setBli (s : State) {b : Bli} (h : s.bli.BoardWf → b.BoardWf)
    (sending : s.bli.tx ≠ .idle → b.tx = s.bli.tx) (holding : b.holding = s.bli.holding)
    (unanswered : s.bli.replySlot = none → b.replySlot = none) : Keeps t s (s.setBli b) :=
  { Keeps.refl t s with
    board := h, sending := sending, holding := holding, unanswered := unanswered }

theorem Keeps.setFlc (s : State) {f : Flc} (stopped : f.state = .stopped ↔ s.flc.state = .stopped)
    (coherent : s.flc.Coherent → f.Coherent) : Keeps t s (s.setFlc f) :=
  { Keeps.refl t s with stopped := stopped, fieldline := coherent }

theorem Keeps.setCmu (s : State) {c : Cmu}
    (sensors : ∀ k, (c.sensors.get k).isSome = (s.cmu.sensors.get k).isSome)
    (alert : s.cmu.alert = alertLevel t s.cmu → c.alert = alertLevel t c) :
    Keeps t s (s.setCmu c) := { Keeps.refl t s with sensors := sensors, alert := alert }

theorem Keeps.setDau (s : State) {d : Dau} (year : s.dau.YearCoversToday → d.YearCoversToday)
    (monitors : s.dau.MonitorsSound → d.MonitorsSound)
    (accounts : s.dau.AccountsStand t → d.AccountsStand t) : Keeps t s (s.setDau d) :=
  { Keeps.refl t s with year := year, monitors := monitors, accounts := accounts }

theorem Keeps.setZcu (s : State) {c : Zcu} (h : s.zcu.CeilingsIn t → c.CeilingsIn t) :
    Keeps t s (s.setZcu c) := { Keeps.refl t s with ceilings := h }

theorem Keeps.setCgu (s : State) {c : Cgu}
    (h : ∀ k, (c.actuators.get k).isSome = (s.cgu.actuators.get k).isSome) :
    Keeps t s (s.setCgu c) := { Keeps.refl t s with actuators := h }

/-! ## The building link -/

/-- The arbiter leaves a transmitter that is sending (R165). -/
theorem Bli.arbitrate_of_sending {b : Bli} (busy : b.tx ≠ .idle) : b.arbitrate = b := by
  simp [Bli.arbitrate, busy]

/-- The arbiter puts nothing in the reply slot (R165). -/
theorem Bli.arbitrate_replySlot {b : Bli} (empty : b.replySlot = none) :
    b.arbitrate.replySlot = none := by
  unfold Bli.arbitrate
  split
  · split
    · rfl
    · split
      · exact empty
      · split <;> exact empty
  · exact empty

/-- A placement is work where what is placed keeps the board and is no answer. -/
theorem Keeps.settlePlacement (s : State) {b : Bli} (h : s.bli.BoardWf → b.BoardWf)
    (tx : b.tx = s.bli.tx) (holding : b.holding = s.bli.holding)
    (slot : b.replySlot = s.bli.replySlot) : Keeps t s (s.settlePlacement b) := by
  refine Keeps.setBli s (fun wf => ?_) (fun busy => ?_) ?_ (fun empty => ?_) <;> split
  · exact (h wf).arbitrate
  · exact h wf
  · rw [Bli.arbitrate_of_sending (by rw [tx]; exact busy), tx]
  · exact tx
  · rw [(Bli.arbitrate_keeps b).2.2.2.1, holding]
  · exact holding
  · exact Bli.arbitrate_replySlot (slot.trans empty)
  · exact slot.trans empty

/-- A post is work (R162). -/
theorem post_work (n : Notice) (s : State) : Keeps t s (post n s) :=
  Keeps.settlePlacement s (fun wf => wf.post _ n) rfl rfl rfl

/-- A list of posts is work. -/
theorem postAll_work (ns : List Notice) (s : State) : Keeps t s (postAll ns s) :=
  Keeps.foldl (fun n _ s => post_work n s) s

/-- The arbiter's turn is work (R165). -/
theorem arbitrate_work (s : State) : Keeps t s (arbitrate s) :=
  Keeps.setBli s (fun wf => wf.arbitrate) (fun busy => by rw [Bli.arbitrate_of_sending busy])
    (Bli.arbitrate_keeps _).2.2.2.1 Bli.arbitrate_replySlot

theorem Keeps.setNvs (s : State) {n : Nvs} (start : n.start = s.nvs.start)
    (reading : n.reading = s.nvs.reading) (failed : n.state = .failed ↔ s.nvs.state = .failed)
    (h : ∀ c x, StoreAgrees c x s.nvs → StoreAgrees c x n) : Keeps t s (s.setNvs n) :=
  { Keeps.refl t s with start := start, reading := reading, failed := failed, store := h }

/-! ## The store controller -/

/-- A store that is not IDLE, or is held, begins no write (R195). -/
theorem serveStore_of_busy {s : State} (h : ¬ (s.nvs.state = .idle ∧ s.storeHeld = false)) :
    serveStore s = s := by
  simp only [serveStore, if_neg h]

/-- An IDLE store that is not held begins the configuration write first (R195). -/
theorem serveStore_of_config {s : State} (h : s.nvs.state = .idle ∧ s.storeHeld = false)
    (owed : s.nvs.pendingConfig = true) : serveStore s = s.setNvs { s.nvs with
      pendingConfig := false, state := .writingConfig, write := some (.config s.tbu.active) } := by
  simp only [serveStore, if_pos h, owed, if_true]

/-- An IDLE store that is not held and owes no configuration begins the lowest account (R195). -/
theorem serveStore_of_account {s : State} {a : Fin 64}
    (h : s.nvs.state = .idle ∧ s.storeHeld = false) (config : s.nvs.pendingConfig = false)
    (lowest : s.nvs.lowestPending = some a) : serveStore s = s.setNvs { s.nvs with
      pendingAccounts := s.nvs.pendingAccounts.set a false
      state := .writingRecord
      write := some (.record a (captureRecord s.dau a)) } := by
  simp [serveStore, if_pos h, config, lowest]

/-- A store that owes nothing begins nothing (R195). -/
theorem serveStore_of_nothing {s : State} (config : s.nvs.pendingConfig = false)
    (lowest : s.nvs.lowestPending = none) : serveStore s = s := by
  simp [serveStore, config, lowest]

/-- What the store controller's choice of work can be (R195). -/
theorem serveStore_cases (s : State) :
    serveStore s = s
      ∨ (s.nvs.state = .idle ∧ s.nvs.pendingConfig = true ∧ serveStore s = s.setNvs { s.nvs with
          pendingConfig := false, state := .writingConfig, write := some (.config s.tbu.active) })
      ∨ (s.nvs.state = .idle ∧ s.nvs.pendingConfig = false
          ∧ ∃ a, s.nvs.pendingAccounts.get a = true ∧ serveStore s = s.setNvs { s.nvs with
            pendingAccounts := s.nvs.pendingAccounts.set a false
            state := .writingRecord
            write := some (.record a (captureRecord s.dau a)) }) := by
  by_cases free : s.nvs.state = .idle ∧ s.storeHeld = false
  · cases owed : s.nvs.pendingConfig with
    | true => exact .inr (.inl ⟨free.1, rfl, serveStore_of_config free owed⟩)
    | false =>
      cases lowest : s.nvs.lowestPending with
      | none => exact .inl (serveStore_of_nothing owed lowest)
      | some a =>
        exact .inr (.inr ⟨free.1, rfl, a, Tab.find?_some lowest,
          serveStore_of_account free owed lowest⟩)
  · exact .inl (serveStore_of_busy free)

/-- An IDLE store that agrees with the commit state writes nothing. -/
theorem StoreAgrees.no_write {c : CommitState} {x : Option Half} {n : Nvs}
    (h : StoreAgrees c x n) (idle : n.state = .idle) :
    n.writesConfig = false ∧ n.writesRecord = false := by
  have config := h.config_state
  have record := h.record_state
  simp only [idle, reduceCtorEq, false_iff, Bool.not_eq_true] at config record
  exact ⟨config, record⟩

/-- The store controller's choice is work (R195). -/
theorem serveStore_work (s : State) : Keeps t s (serveStore s) := by
  rcases serveStore_cases s with same | ⟨idle, owed, config⟩ | ⟨idle, owed, a, -, record⟩
  · rw [same]
  · rw [config]
    refine Keeps.setNvs s rfl rfl (by simp [idle]) fun c x h => ?_
    have storing : c = .storing := h.storing.mpr (by simp [owed])
    exact ⟨h.swap_cycle, by simp [storing, Nvs.writesConfig], by simp,
      by simp [Nvs.writesConfig], by simp [Nvs.writesRecord], by simp, by simp⟩
  · rw [record]
    refine Keeps.setNvs s rfl rfl (by simp [idle]) fun c x h => ?_
    have quiet := (h.no_write idle).1
    have storing := h.storing
    rw [quiet] at storing
    exact ⟨h.swap_cycle, by simpa [Nvs.writesConfig] using storing, by simp [Nvs.writesConfig],
      by simp [Nvs.writesConfig], by simp [Nvs.writesRecord], by simp, by simp⟩

/-- A mark is work (R196). -/
theorem markAccount_work (a : Fin 64) (s : State) : Keeps t s (markAccount a s) := by
  unfold markAccount
  split
  · rfl
  · next working =>
    refine .trans ?_ (serveStore_work _)
    refine Keeps.setNvs s rfl rfl Iff.rfl fun c x h => ?_
    exact ⟨h.swap_cycle, h.storing, h.not_both, h.config_state, h.record_state,
      fun failed => absurd failed working, fun failed => absurd failed working⟩

/-- Marks are work (R196). -/
theorem markAccounts_work (as : List (Fin 64)) (s : State) : Keeps t s (markAccounts as s) :=
  Keeps.foldl (fun a _ s => markAccount_work a s) s

end Sys2Proof.Machine

/-! PROOFS. Each block's work on the active tables keeps the invariants: statistics, ceilings,
accounts, conditions, the Command Gate and the slots of the Fieldline. -/

namespace Sys2Proof.Machine

open Sys2Proof

variable {t : Tables} {s u v : State}

/-! ## Statistics -/

/-- Counting an excursion is work (R187, R188). -/
theorem countExcursion_work (z : Fin 16) (q : CondQ) (s : State) :
    Keeps t s (countExcursion z q s) := by
  simp only [countExcursion]
  split
  · split
    · exact (Keeps.setXsu s _).trans (post_work _ _)
    · exact Keeps.setXsu s _
  · exact Keeps.setXsu s _

/-- A change report is work (R185). -/
theorem changeReport_work (z : Fin 16) (q : CondQ) (e : ZoneCond) (s : State) :
    Keeps t s (changeReport z q e s) := by
  simp only [changeReport]
  split
  · split
    · exact Keeps.setXsu s _
    · rfl
  · split
    · exact Keeps.setXsu s _
    · split
      · exact countExcursion_work z q s
      · split
        · exact Keeps.setXsu s _
        · rfl

/-! ## Ceilings -/

/-- A zone's ceiling does not rest on its presence, its count or its hold. -/
theorem Zcu.CeilingsIn.setZone {c : Zcu} (h : c.CeilingsIn t) {z : Fin 16} {r : ZoneDyn}
    (new : r.CeilingIn t z) : (c.setZone z r).CeilingsIn t := by
  intro y
  rw [Zcu.setZone]
  by_cases hy : y = z
  · subst hy; simpa using new
  · rw [Tab.get_set_ne _ _ hy]; exact h y

/-- A ceiling computed is one the tables give (R115). -/
theorem ZoneDyn.computed_ceilingIn (d : Dau) {z : Fin 16} (r : ZoneDyn)
    (enabled : t.zoneEnabled z = true) : (r.computed t d z).CeilingIn t z := by
  simp only [ZoneDyn.CeilingIn, enabled, if_true, ZoneDyn.computed]
  cases ceilingReason t d z r
  · exact .inl rfl
  · exact .inr rfl
  · exact .inr rfl

/-- A recomputation is work (R117). -/
theorem recompute_work (z : Fin 16) (s : State) : Keeps t s (recompute t z s) := by
  simp only [recompute]
  split
  · next enabled =>
    split
    · rfl
    · exact .trans (Keeps.setZcu s fun h => h.setZone (ZoneDyn.computed_ceilingIn _ _ enabled))
        (post_work _ _)
  · rfl

/-- Every zone's recomputation is work (R120). -/
theorem recomputeAll_work (s : State) : Keeps t s (recomputeAll t s) :=
  Keeps.foldl (fun z _ s => recompute_work z s) s

/-- A presence sample is work (R109). -/
theorem presenceSample_work (k : Fin 48) (z : Fin 16) (vacant : Bool) (s : State)
    (active : s.tbu.active = t) : Keeps t s (presenceSample k z vacant s) := by
  simp only [presenceSample, active]
  split
  · exact Keeps.setZcu s id
  · split
    · rfl
    · refine .trans ?_ (recompute_work z _)
      exact Keeps.setZcu s fun h => h.setZone (h z)

/-- Votes combined and holds counted down are work (R110, R114). -/
theorem combineZones_work (s : State) : Keeps t s (combineZones t s) := by
  refine Keeps.setZcu s fun h z => ?_
  rw [Tab.get_mapIdx]
  unfold ZoneDyn.afterClose
  split
  · exact h z
  · exact h z

/-- A hold set or released is work (R112, R113). -/
theorem setHold_work (z : Fin 16) (h : Option Nat) (s : State) (active : s.tbu.active = t) :
    Keeps t s (setHold z h s) := by
  rw [setHold, active]
  refine .trans ?_ (recompute_work z _)
  exact Keeps.setZcu s fun h => h.setZone (h z)

/-! ## Accounts -/

/-- A record that takes an account's place with its counts covered and its state standing. -/
structure AccountKept (cfg : AccountRec) (r r' : AccountDyn) : Prop where
  year : r.usedToday ≤ r.usedYear → r'.usedToday ≤ r'.usedYear
  stands : r.Stands cfg → r'.Stands cfg

/-- What an account's counts give rests on its counts and its extension alone (R85). -/
theorem evaluated_congr (cfg : AccountRec) {r r' : AccountDyn} (year : r'.usedYear = r.usedYear)
    (today : r'.usedToday = r.usedToday) (extension : r'.extension = r.extension) :
    evaluated cfg r' = evaluated cfg r := by
  unfold evaluated effectiveAllowance
  rw [year, today, extension]

/-- An enabled account that takes the state its counts give stands (R85). -/
theorem AccountDyn.stands_of_evaluated {cfg : AccountRec} (enabled : cfg.isEnabled = true)
    {r : AccountDyn} {x : AccountState} (h : x = evaluated cfg r) :
    AccountDyn.Stands cfg { r with state := x } := by
  rw [AccountDyn.Stands, if_pos enabled]
  exact .inr (h.trans (evaluated_congr cfg rfl rfl rfl).symm)

/-- A SUSPENDED account is not evaluated (R85). -/
theorem AccountDyn.evaluate_of_suspended (cfg : AccountRec) {r : AccountDyn}
    (h : r.state = .suspended) : r.evaluate cfg = r := by
  rw [AccountDyn.evaluate, if_pos h]

/-- An account that is not SUSPENDED takes the state its counts give (R85). -/
theorem AccountDyn.evaluate_of_not_suspended (cfg : AccountRec) {r : AccountDyn}
    (h : r.state ≠ .suspended) : r.evaluate cfg = { r with state := evaluated cfg r } := by
  rw [AccountDyn.evaluate, if_neg h]

/-- An evaluated record stands under an enabled account (R85). -/
theorem AccountDyn.evaluate_stands {cfg : AccountRec} (enabled : cfg.isEnabled = true)
    (r : AccountDyn) : (r.evaluate cfg).Stands cfg := by
  by_cases h : r.state = .suspended
  · rw [AccountDyn.evaluate_of_suspended cfg h, AccountDyn.Stands, if_pos enabled]
    exact .inl h
  · rw [AccountDyn.evaluate_of_not_suspended cfg h]
    exact AccountDyn.stands_of_evaluated enabled rfl

/-- A record with the same state, counts and extension stands where the other does (R85). -/
theorem AccountDyn.Stands.congr {cfg : AccountRec} {r r' : AccountDyn} (h : r.Stands cfg)
    (state : r'.state = r.state) (year : r'.usedYear = r.usedYear)
    (today : r'.usedToday = r.usedToday) (extension : r'.extension = r.extension) :
    r'.Stands cfg := by
  rw [AccountDyn.Stands, evaluated_congr cfg year today extension, state]
  exact h

/-- Evaluation moves the state alone (R85). -/
@[simp] theorem AccountDyn.evaluate_keeps (cfg : AccountRec) (r : AccountDyn) :
    (r.evaluate cfg).usedToday = r.usedToday ∧ (r.evaluate cfg).usedYear = r.usedYear
      ∧ (r.evaluate cfg).extension = r.extension ∧ (r.evaluate cfg).peak = r.peak
      ∧ (r.evaluate cfg).last = r.last ∧ (r.evaluate cfg).revision = r.revision
      ∧ (r.evaluate cfg).restoreFailed = r.restoreFailed := by
  unfold AccountDyn.evaluate
  split <;> simp

/-- A raised revision moves nothing else (R92). -/
@[simp] theorem AccountDyn.revised_keeps (r : AccountDyn) :
    r.revised.state = r.state ∧ r.revised.usedToday = r.usedToday
      ∧ r.revised.usedYear = r.usedYear ∧ r.revised.extension = r.extension
      ∧ r.revised.peak = r.peak ∧ r.revised.last = r.last
      ∧ r.revised.revision = r.revision + 1#16 ∧ r.revised.restoreFailed = r.restoreFailed := by
  simp [AccountDyn.revised]

/-- What an account's counts give does not rest on its revision (R85). -/
theorem AccountDyn.Stands.revised {cfg : AccountRec} {r : AccountDyn} (h : r.Stands cfg) :
    r.revised.Stands cfg := by
  exact h.congr (by simp) (by simp) (by simp) (by simp)

/-- An account's record written at an unchanged revision is work. -/
theorem storeAccount_work {a : Fin 64} {r : AccountDyn}
    (kept : AccountKept (t.accounts.get a) (s.dau.accounts.get a) r)
    (revision : r.revision = (s.dau.accounts.get a).revision) :
    Keeps t s (storeAccount a r s) := by
  refine Keeps.setDau s (fun h b => ?_) (fun h => h.congr rfl fun b => ?_) (fun h b => ?_) <;>
    simp only [Dau.setAccount, Tab.get_set] <;> split
  · exact kept.year (h a)
  · exact h b
  · next same => rw [same, revision]
  · rfl
  · next same => subst same; exact kept.stands (h b)
  · exact h b

/-- An account's record written with the entries on it lapsed is work (R92). -/
theorem storeAccount_lapse_work {a : Fin 64} {r : AccountDyn}
    (kept : AccountKept (t.accounts.get a) (s.dau.accounts.get a) r) :
    Keeps t s (storeAccount a r (s.setDau (s.dau.lapse a))) := by
  refine Keeps.setDau s (fun h b => ?_) (fun h => h.lapse a (fun i => ?_) fun b hb => ?_)
    (fun h b => ?_)
  · simp only [Dau.setAccount, State.setDau_dau, Dau.lapse, Tab.get_set]
    split
    · exact kept.year (h a)
    · exact h b
  · simp [Dau.setAccount, Dau.lapse]
  · simp [Dau.setAccount, Dau.lapse, Tab.get_set_ne _ _ hb]
  · simp only [Dau.setAccount, State.setDau_dau, Dau.lapse, Tab.get_set]
    split
    · next same => subst same; exact kept.stands (h b)
    · exact h b

/-- Making an account's state known to the ZCU is work (R86). -/
theorem tellZone_work (a : Fin 64) (was : AccountState) (s : State) :
    Keeps t s (tellZone t a was s) := by
  simp only [tellZone]
  split
  · rfl
  · split
    · exact recompute_work _ s
    · rfl

/-- Posting an account's state is work (R86). -/
theorem tellState_work (a : Fin 64) (was : AccountState) (s : State) :
    Keeps t s (tellState a was s) := by
  simp only [tellState]
  split
  · rfl
  · exact post_work _ s

/-- The effects of an account's change of state are work after its record is written (R86). -/
theorem putAccount_work (a : Fin 64) (r : AccountDyn) (s : State) :
    Keeps t (storeAccount a r s) (putAccount t true a r s) := by
  simp only [putAccount, if_true]
  exact (tellZone_work a _ _).trans (tellState_work a _ _)

/-- The date watch's close work is work (R91). -/
theorem watchClose_work (s : State) : Keeps t s (watchClose t s) := by
  simp only [watchClose]
  split
  · refine .trans ?_ (post_work _ _)
    exact Keeps.setDau s id (fun h => h.congr rfl fun _ => rfl) id
  · exact Keeps.setDau s id (fun h => h.congr rfl fun _ => rfl) id

/-- The checkpoint's close work is work (R100). -/
theorem checkpointClose_work (s : State) : Keeps t s (checkpointClose t s) := by
  simp only [checkpointClose]
  split
  · refine .trans ?_ (markAccounts_work _ _)
    exact Keeps.setDau s id (fun h => h.congr rfl fun _ => rfl) id
  · exact Keeps.setDau s id (fun h => h.congr rfl fun _ => rfl) id

/-- Taking the peak moves no count and no state (R82). -/
@[simp] theorem AccountDyn.takePeak_keeps (r : AccountDyn) :
    r.takePeak.state = r.state ∧ r.takePeak.usedToday = r.usedToday
      ∧ r.takePeak.usedYear = r.usedYear ∧ r.takePeak.extension = r.extension
      ∧ r.takePeak.revision = r.revision ∧ r.takePeak.peak = none := by
  simp [AccountDyn.takePeak]

/-- Accrual leaves the revision and the extension (R83). -/
@[simp] theorem AccountDyn.accrued_keeps (t : Tables) (health : Tab (Option SensorRecord) 48)
    (a : Fin 64) (r : AccountDyn) :
    (r.accrued t health a).revision = r.revision
      ∧ (r.accrued t health a).extension = r.extension
      ∧ (r.accrued t health a).peak = none := by
  unfold AccountDyn.accrued
  split <;> simp

/-- Accrual keeps an enabled account's counts covered and its state standing (R83, R85). -/
theorem AccountDyn.accrued_kept {a : Fin 64} (enabled : (t.accounts.get a).isEnabled = true)
    (health : Tab (Option SensorRecord) 48) (r : AccountDyn) :
    AccountKept (t.accounts.get a) r (r.accrued t health a) := by
  unfold AccountDyn.accrued
  split
  · next suspended =>
    refine ⟨by simp, fun _ => ?_⟩
    rw [AccountDyn.Stands, if_pos enabled]
    exact .inl (by simpa using suspended)
  · refine ⟨fun covered => ?_, fun _ => AccountDyn.evaluate_stands enabled _⟩
    simp only [AccountDyn.evaluate_keeps, saturate]
    omega

/-- The accrual steps of an enabled account are work (R83, R86). -/
theorem accrueSteps_work {a : Fin 64} (enabled : (t.accounts.get a).isEnabled = true)
    (health : Tab (Option SensorRecord) 48) (was : AccountState) :
    ∀ f ∈ accrueSteps t health was a, ∀ s, Keeps t s (f s) := by
  simp only [accrueSteps, List.mem_cons, List.not_mem_nil, or_false]
  rintro f (rfl | rfl | rfl) s
  · exact storeAccount_work (AccountDyn.accrued_kept enabled health _)
      (AccountDyn.accrued_keeps ..).1
  · exact tellZone_work a was s
  · exact tellState_work a was s

/-- An account's record replaced with its entries lapsed, made known and marked, is work (R86,
R92). -/
theorem changed_work {a : Fin 64} {r : AccountDyn}
    (kept : AccountKept (t.accounts.get a) (s.dau.accounts.get a) r) :
    Keeps t s (markAccount a (putAccount t true a r (s.setDau (s.dau.lapse a)))) :=
  (storeAccount_lapse_work kept).trans ((putAccount_work a r _).trans (markAccount_work a _))

/-- A rollover's work on one enabled account is work (R88, R89). -/
theorem rollAccount_work {a : Fin 64} (enabled : (t.accounts.get a).isEnabled = true)
    (annual : Bool) (s : State) : Keeps t s (rollAccount t annual a s) := by
  refine changed_work ⟨fun _ => ?_, fun _ => AccountDyn.evaluate_stands enabled _⟩
  simp [AccountDyn.rolled]

/-- An account in the list of the enabled ones is enabled. -/
theorem Tables.mem_enabledAccounts (t : Tables) (a : Fin 64) :
    a ∈ t.enabledAccounts ↔ t.accountEnabled a = true := by
  simp [Tables.enabledAccounts, Tables.accountEnabled]

/-- A zone in the list of the enabled ones is enabled. -/
theorem Tables.mem_enabledZones (t : Tables) (z : Fin 16) :
    z ∈ t.enabledZones ↔ t.zoneEnabled z = true := by
  simp [Tables.enabledZones, Tables.zoneEnabled]

/-- A rollover is work (R88, R89). -/
theorem rollover_work (d : Date) (annual : Bool) (s : State) (active : s.tbu.active = t) :
    Keeps t s (rollover d annual s) := by
  simp only [rollover, active]
  refine .trans (Keeps.setDau s (d := { s.dau with ledger := some d }) id
    (fun h => h.congr rfl fun _ => rfl) id) (Keeps.foldl (fun a ha s => ?_) _)
  exact rollAccount_work ((t.mem_enabledAccounts a).mp ha) annual s

/-- An accepted TIME's reset of the watch is work (R91). -/
theorem acceptTime_work (s : State) : Keeps t s (acceptTime s) :=
  Keeps.setDau s id (fun h => h.congr rfl fun _ => rfl) id

/-- A TIME date taken is work (R87). -/
theorem takeDate_work (d : Date) (s : State) (active : s.tbu.active = t) :
    Keeps t s (takeDate d s) := by
  simp only [takeDate]
  split
  · refine .trans ?_ (markAccounts_work _ _)
    exact Keeps.setDau s id (fun h => h.congr rfl fun _ => rfl) id
  · split
    · exact acceptTime_work s
    · split
      · exact (rollover_work d _ s active).trans (acceptTime_work _)
      · exact post_work _ s

/-- A monitor entry that becomes FREE is work (R80). -/
theorem freeMonitor_work (i : Fin 4) (s : State) :
    Keeps t s (s.setDau { s.dau with monitors := freeMonitor s.dau.monitors i }) :=
  Keeps.setDau s id (fun h => h.free i) id

/-- An extension granted to an enabled account is work (R95). -/
theorem grantAccount_work {a : Fin 64} (enabled : (t.accounts.get a).isEnabled = true) (i : Fin 4)
    (amount : Nat) (s : State) (active : s.tbu.active = t) :
    Keeps t s (grantAccount a i amount s) := by
  simp only [grantAccount, active]
  refine (freeMonitor_work i s).trans (changed_work ⟨fun covered => ?_, fun _ => ?_⟩)
  · simpa using covered
  · exact AccountDyn.evaluate_stands enabled _

/-- A request's change of an account is work, where its new record stands (R92). -/
theorem changeAccount_work {a : Fin 64} {r : AccountDyn} (active : s.tbu.active = t)
    (kept : AccountKept (t.accounts.get a) (s.dau.accounts.get a) r) :
    Keeps t s (changeAccount a r s) := by
  rw [changeAccount, active]
  exact changed_work ⟨kept.year, fun h => (kept.stands h).revised⟩

/-- SUSPEND of an enabled account is work (R97). -/
theorem suspend_work {a : Fin 64} (enabled : (t.accounts.get a).isEnabled = true) (s : State)
    (active : s.tbu.active = t) : Keeps t s (suspend a s) := by
  simp only [suspend]
  split
  · rfl
  · refine changeAccount_work active ⟨id, fun _ => ?_⟩
    rw [AccountDyn.Stands, if_pos enabled]
    exact .inl rfl

/-- RESUME of an enabled account is work (R98). -/
theorem resume_work {a : Fin 64} (enabled : (t.accounts.get a).isEnabled = true) (s : State)
    (active : s.tbu.active = t) : Keeps t s (resume a s) := by
  simp only [resume]
  split
  · refine changeAccount_work active ⟨id, fun _ => ?_⟩
    exact AccountDyn.stands_of_evaluated enabled (by rw [active])
  · rfl

/-- SEED of an enabled account with no less than it has used today is work (R99). -/
theorem seed_work {a : Fin 64} (enabled : (t.accounts.get a).isEnabled = true) {value : Nat}
    (s : State) (covers : (s.dau.accounts.get a).usedToday ≤ value) (active : s.tbu.active = t) :
    Keeps t s (seed a value s) := by
  simp only [seed, active]
  refine changeAccount_work active ⟨fun _ => ?_, fun _ => AccountDyn.evaluate_stands enabled _⟩
  simpa using covers

/-- A candidate for a cycle peak is work (R81). -/
theorem peakCandidate_work (a : Fin 64) (v : Nat) (s : State) :
    Keeps t s (peakCandidate a v s) := by
  simp only [peakCandidate]
  split
  · rfl
  · exact storeAccount_work ⟨id, fun h => h.congr rfl rfl rfl rfl⟩ rfl

/-! ## Conditions -/

/-- A zone entry set is work: ALERT takes its new level with it (R73). -/
theorem setEntry_work (z : Fin 16) (q : CondQ) (e : ZoneCond) (s : State) :
    Keeps t s (setEntry t z q e s) := Keeps.setCmu s (fun _ => rfl) fun _ => rfl

/-- A zone entry changed is work. -/
theorem changeEntry_work (z : Fin 16) (q : CondQ) (old new : ZoneCond) (s : State) :
    Keeps t s (changeEntry t z q old new s) := by
  unfold changeEntry
  split
  · rfl
  · exact setEntry_work z q new s

/-- A change made known to the XSU is work. -/
theorem tellStatistics_work (z : Fin 16) (q : CondQ) (old : ZoneCond) (s : State) :
    Keeps t s (tellStatistics z q old s) := by
  unfold tellStatistics reportCondition
  split
  · exact changeReport_work ..
  · rfl

/-- A change posted is work (R72). -/
theorem tellBoard_work (t' : Tables) (z : Fin 16) (q : CondQ) (old : ZoneCond) (s : State) :
    Keeps t s (tellBoard t' z q old s) := by
  unfold tellBoard postCondition
  split
  · rfl
  · split
    · exact post_work _ s
    · rfl

/-- The announcement of a changed entry is work (R72). -/
theorem announceSteps_work (first : Bool) (t' : Tables) (z : Fin 16) (q : CondQ) (old : ZoneCond) :
    ∀ f ∈ announceSteps first t' z q old, ∀ s, Keeps t s (f s) := by
  unfold announceSteps
  intro f hf s
  split at hf <;> simp only [List.mem_cons, List.not_mem_nil, or_false] at hf <;>
    rcases hf with rfl | rfl
  · exact tellStatistics_work ..
  · exact tellBoard_work ..
  · exact tellBoard_work ..
  · exact tellStatistics_work ..

/-- A zone entry moved is work (R72). -/
theorem moveEntry_work (z : Fin 16) (q : CondQ) (old new : ZoneCond) (s : State) :
    Keeps t s (moveEntry t z q old new s) :=
  (changeEntry_work z q old new s).trans (Keeps.runSteps (announceSteps_work _ t z q old) _)

/-- A zone entry recomputed is work (R67 to R69). -/
theorem refreshEntry_work (z : Fin 16) (q : CondQ) (s : State) :
    Keeps t s (refreshEntry t z q s) := by
  unfold refreshEntry
  split
  · exact moveEntry_work ..
  · rfl

/-- The RH entries of the CURVE zones recomputed are work (R64). -/
theorem refreshCurveZones_work (s : State) : Keeps t s (refreshCurveZones t s) :=
  Keeps.foldl (fun z _ s => refreshEntry_work z .rh s) s

/-- A sensor's record replaced by another is work. -/
theorem setSensor_work {k : Fin 48} (held : (s.cmu.sensors.get k).isSome = true)
    (r : SensorRecord) : Keeps t s (s.setCmu (s.cmu.setSensor k r)) := by
  refine Keeps.setCmu s (fun j => ?_) id
  by_cases hj : j = k
  · subst hj; simp [Cmu.setSensor, held]
  · simp [Cmu.setSensor, Tab.get_set_ne _ _ hj]

/-- An accepted condition sample is work (R57). -/
theorem acceptCondition_work {k : Fin 48} (held : (s.cmu.sensors.get k).isSome = true) (z : Fin 16)
    (q : CondQ) (v : Int) (r : SensorRecord) (active : s.tbu.active = t) :
    Keeps t s (acceptCondition k z q v r s) := by
  simp only [acceptCondition, active]
  exact (setSensor_work held _).trans (refreshEntry_work ..)

/-- An accepted OUTDOOR sample is work (R63, R64). -/
theorem acceptOutdoor_work {k : Fin 48} (held : (s.cmu.sensors.get k).isSome = true) (v : Int)
    (r : SensorRecord) (active : s.tbu.active = t) : Keeps t s (acceptOutdoor k v r s) := by
  have band : ∀ (c : Cmu) (x : Option (Fin 35)), Keeps t (s.setCmu c) (s.setCmu { c with band := x }) :=
    fun c x => Keeps.setCmu (s.setCmu c) (fun _ => rfl) id
  simp only [acceptOutdoor, active]
  split
  · exact (setSensor_work held _).trans ((band _ _).trans (refreshCurveZones_work _))
  · exact (setSensor_work held _).trans (band _ _)

/-- What an accepted sample brings beyond its record is work (R57). -/
theorem acceptFurther_work {k : Fin 48} (held : (s.cmu.sensors.get k).isSome = true)
    (slot : SlotRec) (q : Quantity) (v : Int) (r : SensorRecord) (active : s.tbu.active = t) :
    Keeps t s (acceptFurther k slot q v r s) := by
  simp only [acceptFurther]
  split
  · split
    · exact (peakCandidate_work _ _ s).trans
        (acceptCondition_work (by simpa using held) _ _ v r (by simpa using active))
    · exact acceptCondition_work held _ _ v r active
  · split
    · exact (setSensor_work held r).trans (presenceSample_work _ _ _ _ active)
    · exact acceptOutdoor_work held v r active
  · exact acceptOutdoor_work held v r active
  · exact setSensor_work held r

/-- A sample handled is work (R55 to R57). -/
theorem handleSample_work (k : Fin 48) (q : Quantity) (v : Int) (fault warming calDue : Bool)
    (s : State) (active : s.tbu.active = t) :
    Keeps t s (handleSample k q v fault warming calDue s) := by
  simp only [handleSample]
  split
  · rfl
  · next r held =>
    split
    · exact postAll_work _ s
    · exact (postAll_work _ s).trans
        (acceptFurther_work (by simp [held]) _ q v _ (by simpa using active))

/-- A sensor slot's result is work (R54 to R58). -/
theorem sensorResult_work (k : Fin 48) (q : Quantity) (o : SlotOutcome) (s : State)
    (active : s.tbu.active = t) : Keeps t s (sensorResult k q o s) := by
  simp only [sensorResult]
  refine .trans (u := match o with
    | .good (.sample v fault warming calDue) => handleSample k q v fault warming calDue s
    | _ => s) ?_ (Keeps.setBli _ id (fun _ => rfl) rfl id)
  split
  · exact handleSample_work k q _ _ _ _ s active
  · rfl

/-- The sensors' records aged are work (R65). -/
theorem ageSensors_work (t' : Tables) (s : State) : Keeps t s (ageSensors t' s) := by
  refine Keeps.setCmu s (fun k => ?_) id
  rw [Tab.get_mapIdx]
  split <;> simp

/-- A latch cleared is work (R70). -/
theorem clearLatch_work (z : Fin 16) (q : CondQ) (side : Side) (s : State)
    (active : s.tbu.active = t) : Keeps t s (clearLatch z q side s) := by
  rw [clearLatch, active]
  exact moveEntry_work ..

/-! ## Command Gate -/

/-- An actuator's record replaced by another is work. -/
theorem putActuator_work {k : Fin 48} (held : (s.cgu.actuators.get k).isSome = true)
    (r : ActuatorRecord) : Keeps t s (putActuator k r s) := by
  refine Keeps.setCgu s fun j => ?_
  by_cases hj : j = k
  · subst hj; simp [Cgu.setActuator, held]
  · simp [Cgu.setActuator, Tab.get_set_ne _ _ hj]

/-- The settle check is work (R130). -/
theorem settleCheck_work (k : Fin 48) (s : State) : Keeps t s (settleCheck k s) := by
  simp only [settleCheck]
  split
  · rfl
  · next r held =>
    split
    · rfl
    · exact (putActuator_work (by simp [held]) _).trans (post_work _ _)

/-- The call decision is work (R131). -/
theorem callDecision_work (k : Fin 48) (s : State) : Keeps t s (callDecision k s).1 := by
  simp only [callDecision]
  split
  · exact settleCheck_work k s
  · next r held =>
    exact (settleCheck_work k s).trans (putActuator_work (by simp [held]) _)

/-- An actuator slot's outcome is work (R134 to R142). -/
theorem actuatorResult_work (k : Fin 48) (o : SlotOutcome) (s : State) :
    Keeps t s (actuatorResult k o s) := by
  simp only [actuatorResult]
  split
  · rfl
  · next r held =>
    exact (putActuator_work (by simp [held]) _).trans
      ((postAll_work _ _).trans (settleCheck_work k _))

/-- A command that the Command Gate accepts has its actuator's record (R126). -/
theorem judgeCommand_record {c : Command} {k : Fin 48} {r : ActuatorRecord}
    (h : judgeCommand s c = .inr (k, r)) : s.cgu.actuators.get k = some r := by
  simp only [judgeCommand] at h
  split at h
  · cases h
  · split at h
    · cases h
    · next r' held =>
      split at h <;> repeat' split at h
      all_goals cases h
      all_goals exact held

/-- A COMMAND past its first checks is work (R126 to R128). -/
theorem commandEffect_work (body : List Byte) (s : State) :
    Keeps t s (commandEffect body s).1 := by
  simp only [commandEffect]
  split
  · rfl
  · split
    · rfl
    · next k r judged =>
      have held : (s.cgu.actuators.get k).isSome = true := by simp [judgeCommand_record judged]
      split
      · exact (postAll_work _ s).trans
          ((putActuator_work (by simpa using held) _).trans (settleCheck_work k _))
      · split
        · exact putActuator_work held _
        · rfl

/-! ## Cycle close -/

/-- The BLI's close work is work (R159, R160). -/
theorem bliClose_work (s : State) : Keeps t s (bliClose s) := Keeps.settlePlacement s id rfl rfl rfl

/-- Every step of a block's close work is work on the tables of the cycle (R23, R45). -/
theorem closeWorkSteps_work (t : Tables) (s0 : State) (b : Block) :
    ∀ f ∈ closeWorkSteps t s0 b, ∀ s, Keeps t s (f s) := by
  intro f hf s
  cases b <;>
    simp only [closeWorkSteps, dauCloseSteps, zcuCloseSteps, cmuCloseSteps, refreshAllSteps,
      refreshSteps, List.mem_append, List.mem_flatMap, List.mem_map, List.mem_cons,
      List.not_mem_nil, or_false] at hf
  case dau =>
    rcases hf with ⟨a, ha, hf⟩ | rfl | rfl
    · exact accrueSteps_work ((t.mem_enabledAccounts a).mp ha) _ _ f hf s
    · exact watchClose_work s
    · exact checkpointClose_work s
  case zcu =>
    rcases hf with rfl | ⟨z, -, rfl⟩
    · exact combineZones_work s
    · exact recompute_work z s
  case cmu =>
    rcases hf with (rfl | ⟨k, -, rfl⟩) | ⟨z, -, q, -, rfl | hf⟩
    · exact ageSensors_work t s
    · exact post_work _ s
    · exact changeEntry_work ..
    · exact announceSteps_work _ _ _ _ _ f hf s
  case bli => subst hf; exact bliClose_work s

/-- Every step of the close work is work on the tables of the cycle (R23). -/
theorem closeSteps_work (t : Tables) (s0 : State) : ∀ f ∈ closeSteps t s0, ∀ s, Keeps t s (f s) := by
  intro f hf
  simp only [closeSteps, List.mem_flatMap] at hf
  obtain ⟨b, -, hb⟩ := hf
  exact closeWorkSteps_work t s0 b f hb

/-! ## Slots -/

/-- The FLC at a cycle close keeps coherent, outside STOPPED (R23, R24). -/
theorem Flc.Coherent.closed {f : Flc} (h : f.Coherent) (running : f.state ≠ .stopped) :
    f.closed.Coherent where
  phase_in_slot := by simp [Flc.closed]
  slot_in_slot := by simp [Flc.closed]
  timer_runs := by simpa [Flc.closed, running] using h.timer_runs
  count_present := by simpa [Flc.closed, running] using h.count_present
  answer_fits := h.answer_fits
  answer_not_begun := by simp [Flc.closed]
  answer_open := by simp [Flc.closed]
  line_driven := by simp [Flc.closed, Flc.drives]

/-- The FLC at the start of a slot is coherent, where the FLC was running (R8, R10). -/
theorem Flc.Coherent.openSlot {f : Flc} (h : f.Coherent) (running : f.state ≠ .stopped)
    (k : Fin 48) (node : Nat) (call : Option Call) : (f.openSlot k node call).Coherent where
  phase_in_slot := by simp [Flc.openSlot]
  slot_in_slot := by simp [Flc.openSlot]
  timer_runs := by simpa [Flc.openSlot, running] using h.timer_runs
  count_present := by simpa [Flc.openSlot, running] using h.count_present
  answer_fits := by simp [Flc.openSlot]
  answer_not_begun := by simp [Flc.openSlot]
  answer_open := by simp [Flc.openSlot]
  line_driven := by cases call <;> simp [Flc.openSlot, Flc.drives]

/-- The FLC after its slot's outcome is recorded is coherent (R20). -/
theorem Flc.Coherent.record {f : Flc} (h : f.Coherent) (k : Fin 48) (o : SlotOutcome) :
    (f.record k o).Coherent where
  phase_in_slot := h.phase_in_slot
  slot_in_slot := h.slot_in_slot
  timer_runs := h.timer_runs
  count_present := h.count_present
  answer_fits := by simp [Flc.record]
  answer_not_begun := by simp [Flc.record]
  answer_open := by simp [Flc.record]
  line_driven := h.line_driven

/-- A slot's start is work, where the FLC is running (R8, R10 to R12). -/
theorem slotStart_work (k : Fin 48) (s : State) (running : s.flc.state ≠ .stopped) :
    Keeps t s (slotStart k s) := by
  have called : Keeps t s (slotCall k s).1 := by
    simp only [slotCall]
    split
    · exact callDecision_work k s
    · rfl
  have running' : (slotCall k s).1.flc.state ≠ .stopped := by simpa using running
  refine called.trans (Keeps.setFlc _ ?_ fun h => h.openSlot running' ..)
  simpa [Flc.openSlot] using running

/-- A result recorded and handed over is work (R20). -/
theorem recordAndHandOver_work (k : Fin 48) (o : SlotOutcome) (s : State)
    (active : s.tbu.active = t) : Keeps t s (recordAndHandOver k o s) := by
  refine .trans (Keeps.setFlc s (f := s.flc.record k o) Iff.rfl fun h => h.record k o) ?_
  simp only [recordAndHandOver, handOver]
  split
  · exact sensorResult_work k _ o _ active
  · split
    · exact actuatorResult_work k o _
    · rfl

end Sys2Proof.Machine

/-! PROOFS. The swap (R44 to R47): the plan of the blocks' work, and what each block's work makes of
its own state. -/

namespace Sys2Proof.Machine

open Sys2Proof

variable {t : Tables} {s u v : State}

/-! ## The order of the blocks -/

/-- An order of blocks names each block of the default order and no other. -/
theorem mem_completeOrder {named default : List Block} {b : Block} :
    b ∈ completeOrder named default ↔ b ∈ default := by
  by_cases h : b ∈ named <;> simp [completeOrder, h]

/-- Duplicates erased, none is left. -/
theorem eraseDups_nodup : ∀ l : List Block, l.eraseDups.Nodup
  | [] => by simp
  | b :: l => by
    rw [List.eraseDups_cons, List.nodup_cons]
    exact ⟨by simp [List.mem_eraseDups], eraseDups_nodup _⟩
termination_by l => l.length
decreasing_by exact Nat.lt_succ_of_le (List.length_filter_le _ _)

/-- An order of blocks names no block twice. -/
theorem completeOrder_nodup {named default : List Block} (h : default.Nodup) :
    (completeOrder named default).Nodup := by
  refine List.Nodup.append (eraseDups_nodup _) (h.filter _) ?_
  intro b hb hb'
  simp only [List.mem_eraseDups, List.mem_filter, Bool.not_eq_true', List.contains_eq_mem] at hb hb'
  simp [hb.1] at hb'

/-- The swap plan names no block twice. -/
theorem Order.swapPlan_nodup (o : Order) : o.swapPlan.Nodup :=
  (completeOrder_nodup (by decide)).filter _

/-- The blocks of the swap plan: all with swap work, the Table Unit only where its request was not
made at the swap (R196). -/
theorem Order.mem_swapPlan {o : Order} {b : Block} :
    b ∈ o.swapPlan ↔ b ∈ swapBlocks ∧ (o.requestFirst = true → b ≠ .tbu) := by
  simp only [Order.swapPlan, List.mem_filter, mem_completeOrder]
  cases o.requestFirst <;> simp

/-- The close work names each of its blocks once. -/
theorem closeOrder_nodup (o : Order) : (completeOrder o.closeOrder closeBlocks).Nodup :=
  completeOrder_nodup (by decide)

/-! ## The plan run -/

@[simp] theorem swapAll_nil (old new : Tables) (half : Bool) (s : State) :
    swapAll old new half [] s = s := rfl

/-- The swap work of two lists of blocks, one after the other (R120). -/
theorem swapAll_append (old new : Tables) (half : Bool) (l m : List Block) (s : State) :
    swapAll old new half (l ++ m) s
      = swapAll old new (half || l.any Block.precedesCeilings) m (swapAll old new half l s) := by
  induction l generalizing half s with
  | nil => simp
  | cons b l ih => simp only [List.cons_append, swapAll, ih, List.any_cons, Bool.or_assoc]

/-- A relation that the work of each block of a list and the recomputation keep holds across the
list. -/
theorem swapAll_keeps (R : State → State → Prop) (refl : ∀ s, R s s)
    (trans : ∀ s u v, R s u → R u v → R s v) {old new : Tables} {l : List Block}
    (works : ∀ b ∈ l, ∀ s, R s (swapWork old new b s))
    (recomputed : ∀ s, R s (recomputeAll new s)) (half : Bool) (s : State) :
    R s (swapAll old new half l s) := by
  induction l generalizing half s with
  | nil => exact refl s
  | cons b l ih =>
    have first := works b (by simp) s
    have rest := ih fun c hc => works c (by simp [hc])
    unfold swapAll
    split
    · exact trans _ _ _ first (trans _ _ _ (recomputed _) (rest _ _))
    · exact trans _ _ _ first (rest _ _)

/-- Where one block alone of the plan moves a part of the state, that part is in the end what the
block's work has made of it. -/
theorem swapAll_part {α : Type} (part : State → α) {old new : Tables} {b : Block} {l : List Block}
    (others : ∀ c, c ≠ b → ∀ s, part (swapWork old new c s) = part s)
    (recomputed : ∀ s, part (recomputeAll new s) = part s) (nodup : l.Nodup) (mem : b ∈ l)
    (half : Bool) (s : State) :
    ∃ s', part s' = part s ∧ part (swapAll old new half l s) = part (swapWork old new b s') := by
  obtain ⟨l1, l2, rfl⟩ := List.append_of_mem mem
  obtain ⟨-, notIn2, notIn1⟩ : l1.Nodup ∧ b ∉ l2 ∧ b ∉ l1 := by
    simp only [List.nodup_append, List.nodup_cons] at nodup
    exact ⟨nodup.1, nodup.2.1.1, fun h => nodup.2.2 b h b (by simp) rfl⟩
  have same : ∀ m : List Block, b ∉ m → ∀ half s, part (swapAll old new half m s) = part s :=
    fun m hm half s => swapAll_keeps (fun s u => part u = part s) (fun _ => rfl)
      (fun _ _ _ h g => g.trans h)
      (fun c hc s => others c (fun e => hm (e ▸ hc)) s) recomputed half s
  refine ⟨swapAll old new half l1 s, same l1 notIn1 half s, ?_⟩
  rw [swapAll_append, swapAll, same l2 notIn2]
  split
  · exact recomputed _
  · rfl

/-- Every block of the plan that can move a part of the state at all leaves it, where none does. -/
theorem swapAll_part_of_not_mem {α : Type} (part : State → α) {old new : Tables} {b : Block}
    {l : List Block} (others : ∀ c, c ≠ b → ∀ s, part (swapWork old new c s) = part s)
    (recomputed : ∀ s, part (recomputeAll new s) = part s) (absent : b ∉ l) (half : Bool)
    (s : State) : part (swapAll old new half l s) = part s :=
  swapAll_keeps (fun s u => part u = part s) (fun _ => rfl) (fun _ _ _ h g => g.trans h)
    (fun c hc s => others c (fun e => absent (e ▸ hc)) s) recomputed half s

/-! ## The Dose Account Unit's part (R104, R105) -/

/-- A record written into an account is all that writing it does to the accounts. -/
@[simp] theorem putAccount_dau (t : Tables) (tell : Bool) (a : Fin 64) (r : AccountDyn)
    (s : State) : (putAccount t tell a r s).dau = s.dau.setAccount a r := by
  simp only [putAccount]
  split <;> simp [storeAccount]

/-- One account's part of a swap. -/
@[simp] theorem swapAccount_dau (old new : Tables) (a : Fin 64) (s : State) :
    (swapAccount old new a s).dau
      = s.dau.setAccount a ((s.dau.accounts.get a).afterSwap old new a) := by
  simp only [swapAccount]
  split <;> simp

/-- Each account's record written from its own, over a list of accounts. -/
theorem setAccounts_get {f : Fin 64 → AccountDyn → AccountDyn} {step : State → Fin 64 → State}
    (each : ∀ s a, (step s a).dau = s.dau.setAccount a (f a (s.dau.accounts.get a)))
    {l : List (Fin 64)} (nodup : l.Nodup) (s : State) :
    (l.foldl step s).dau = { s.dau with accounts := (l.foldl step s).dau.accounts }
      ∧ ∀ a, (l.foldl step s).dau.accounts.get a
        = if a ∈ l then f a (s.dau.accounts.get a) else s.dau.accounts.get a := by
  induction l generalizing s with
  | nil => simp
  | cons b l ih =>
    rw [List.nodup_cons] at nodup
    obtain ⟨rest, accounts⟩ := ih nodup.2 (step s b)
    refine ⟨?_, fun a => ?_⟩
    · rw [List.foldl_cons, rest, each]
      rfl
    · rw [List.foldl_cons, accounts, each]
      by_cases ha : a = b
      · subst ha; simp [nodup.1, Dau.setAccount]
      · simp [ha, Dau.setAccount, Tab.get_set_ne _ _ ha]

/-- The accounts and monitors after a swap (R104, R105). -/
def Dau.swapped (old new : Tables) (d : Dau) : Dau :=
  { d with
    accounts := d.accounts.mapIdx fun a r => r.afterSwap old new a
    monitors := d.monitors.mapIdx fun _ m => m.lapseAny }

/-- The DAU's swap work makes of its state what R104 and R105 say. -/
theorem dauSwap_dau (old new : Tables) (s : State) :
    (dauSwap old new s).dau = s.dau.swapped old new := by
  obtain ⟨rest, accounts⟩ := setAccounts_get (f := fun a r => r.afterSwap old new a)
    (fun s a => swapAccount_dau old new a s) (List.nodup_finRange 64)
    (s.setDau { s.dau with monitors := s.dau.monitors.mapIdx fun _ m => m.lapseAny })
  have whole : (dauSwap old new s).dau.accounts
      = s.dau.accounts.mapIdx fun a r => r.afterSwap old new a := by
    refine Tab.ext_get fun a => ?_
    rw [Tab.get_mapIdx]
    exact (accounts a).trans (if_pos (List.mem_finRange a))
  have fields : (dauSwap old new s).dau = { s.dau with
      monitors := s.dau.monitors.mapIdx fun _ m => m.lapseAny
      accounts := (dauSwap old new s).dau.accounts } := rest
  rw [fields, whole]
  rfl

/-! ## The Zone Ceiling Unit's part (R119, R120) -/

/-- The zone records with every enabled zone's ceiling computed (R115). -/
def Zcu.recomputed (t : Tables) (d : Dau) (c : Zcu) : Zcu :=
  { c with zones := c.zones.mapIdx fun z r => if t.zoneEnabled z then r.computed t d z else r }

/-- The zone records after a zone's recomputation (R117). -/
theorem recompute_zcu (t : Tables) (z : Fin 16) (s : State) :
    (recompute t z s).zcu
      = s.zcu.setZone z (if t.zoneEnabled z then (s.zcu.zones.get z).computed t s.dau z
          else s.zcu.zones.get z) := by
  have self : s.zcu = s.zcu.setZone z (s.zcu.zones.get z) := by
    have same : s.zcu.zones.set z (s.zcu.zones.get z) = s.zcu.zones :=
      Tab.ext_get fun y => by rw [Tab.get_set]; split <;> simp_all
    rw [Zcu.setZone, same]
  simp only [recompute]
  split
  · next enabled =>
    split
    · next same => rw [same]; exact self
    · simp
  · simpa using self

/-- Recomputations leave the flags, and compute the ceilings of the zones they reach. -/
theorem recomputeFold_zcu (t : Tables) {l : List (Fin 16)} (nodup : l.Nodup) (s : State) :
    (l.foldl (fun s z => recompute t z s) s).zcu.vacantSeen = s.zcu.vacantSeen
      ∧ ∀ z, (l.foldl (fun s z => recompute t z s) s).zcu.zones.get z
        = if z ∈ l ∧ t.zoneEnabled z = true then (s.zcu.zones.get z).computed t s.dau z
          else s.zcu.zones.get z := by
  induction l generalizing s with
  | nil => simp
  | cons y l ih =>
    rw [List.nodup_cons] at nodup
    obtain ⟨flags, zones⟩ := ih nodup.2 (recompute t y s)
    have here := recompute_zcu t y s
    refine ⟨by rw [List.foldl_cons, flags, here]; rfl, fun z => ?_⟩
    rw [List.foldl_cons, zones, here, (recompute_frame t y s).2.2.2.2.1]
    by_cases hz : z = y
    · subst hz; simp [nodup.1, Zcu.setZone]
    · simp [hz, Zcu.setZone, Tab.get_set_ne _ _ hz]

/-- Every enabled zone's recomputation (R120). -/
theorem recomputeAll_zcu (t : Tables) (s : State) :
    (recomputeAll t s).zcu = s.zcu.recomputed t s.dau := by
  obtain ⟨flags, zones⟩ := recomputeFold_zcu t (l := t.enabledZones) (Tab.indices_nodup _ _) s
  have whole : (recomputeAll t s).zcu.zones = (s.zcu.recomputed t s.dau).zones := by
    refine Tab.ext_get fun z => (zones z).trans ?_
    rw [Zcu.recomputed, Tab.get_mapIdx]
    exact if_congr (by rw [t.mem_enabledZones, and_self]) rfl rfl
  calc (recomputeAll t s).zcu
      = ⟨(recomputeAll t s).zcu.zones, (recomputeAll t s).zcu.vacantSeen⟩ := rfl
    _ = s.zcu.recomputed t s.dau := by rw [whole, show (recomputeAll t s).zcu.vacantSeen = _ from flags]; rfl

/-- The presence records after a swap (R119). -/
def Zcu.matched (old new : Tables) (c : Zcu) : Zcu where
  zones := c.zones.mapIdx fun z r => r.afterSwap old new z
  vacantSeen := Tab.fill 48 false

@[simp] theorem zcuMatch_zcu (old new : Tables) (s : State) :
    (zcuMatch old new s).zcu = s.zcu.matched old new := rfl

/-- The work of a block other than the DAU leaves the accounts (R44). -/
theorem swapWork_dau {old new : Tables} {b : Block} (h : b ≠ .dau) (s : State) :
    (swapWork old new b s).dau = s.dau := by
  cases b <;> simp [swapWork] at *

/-- The work of a block other than the ZCU leaves the zone records (R44). -/
theorem swapWork_zcu {old new : Tables} {b : Block} (h : b ≠ .zcu) (s : State) :
    (swapWork old new b s).zcu = s.zcu := by
  cases b <;> simp [swapWork] at *
  case dau =>
    refine foldl_keeps (fun s u => u.zcu = s.zcu) _ (fun _ => rfl) (fun _ _ _ h g => g.trans h)
      (fun s a => ?_) _ (s.setDau _)
    simp only [swapAccount, putAccount]
    split <;> simp

/-- Neither the DAU nor the ZCU has work in a list. -/
theorem swapAll_zcu_of_not_mem {old new : Tables} {l : List Block} (dau : Block.dau ∉ l)
    (zcu : Block.zcu ∉ l) (half : Bool) (s : State) :
    (swapAll old new half l s).zcu = s.zcu ∧ (swapAll old new half l s).dau = s.dau := by
  induction l generalizing half s with
  | nil => simp
  | cons b l ih =>
    simp only [List.mem_cons, not_or] at dau zcu
    have quiet : b.precedesCeilings = false := by
      cases b <;> simp_all [Block.precedesCeilings]
    unfold swapAll
    simp only [quiet, Bool.and_false, Bool.false_eq_true, if_false]
    obtain ⟨h, g⟩ := ih dau.2 zcu.2 (half || false) (swapWork old new b s)
    rw [h, g, swapWork_zcu (Ne.symm zcu.1), swapWork_dau (Ne.symm dau.1)]
    exact ⟨rfl, rfl⟩

/-- The last of the DAU and the ZCU to work is followed by the recomputation (R120). -/
theorem swapAll_zcu_of_second {old new : Tables} {l : List Block} (nodup : l.Nodup) {b : Block}
    (mem : b ∈ l) (is : b.precedesCeilings = true)
    (other : ∀ c ∈ l, c.precedesCeilings = true → c = b) (s : State) :
    ∃ s', s'.zcu = s.zcu ∧ s'.dau = s.dau
      ∧ (swapAll old new true l s).zcu = (recomputeAll new (swapWork old new b s')).zcu
      ∧ (swapAll old new true l s).dau = (swapWork old new b s').dau := by
  obtain ⟨l1, l2, rfl⟩ := List.append_of_mem mem
  simp only [List.nodup_append, List.nodup_cons] at nodup
  have quiet1 : ∀ c, c.precedesCeilings = true → c ∉ l1 := fun c hc h => by
    have e := other c (by simp [h]) hc
    exact nodup.2.2 c h b (by simp) e
  have quiet2 : ∀ c, c.precedesCeilings = true → c ∉ l2 := fun c hc h => by
    have e := other c (by simp [h]) hc
    exact nodup.2.1.1 (e ▸ h)
  obtain ⟨z1, d1⟩ := swapAll_zcu_of_not_mem (old := old) (new := new) (quiet1 .dau rfl)
    (quiet1 .zcu rfl) true s
  refine ⟨swapAll old new true l1 s, z1, d1, ?_⟩
  rw [swapAll_append, swapAll]
  simp only [is, Bool.and_true, Bool.true_or, if_true]
  obtain ⟨z2, d2⟩ := swapAll_zcu_of_not_mem (old := old) (new := new) (quiet2 .dau rfl)
    (quiet2 .zcu rfl) true (recomputeAll new (swapWork old new b (swapAll old new true l1 s)))
  exact ⟨z2, by rw [d2]; simp⟩

/-- In a plan that names both, the accounts are swapped, the presence records matched, and every
ceiling computed from the two (R104, R119, R120). -/
theorem swapAll_zcu_dau {old new : Tables} {l : List Block} (nodup : l.Nodup)
    (dau : Block.dau ∈ l) (zcu : Block.zcu ∈ l) (s : State) :
    (swapAll old new false l s).dau = s.dau.swapped old new
      ∧ (swapAll old new false l s).zcu
        = (s.zcu.matched old new).recomputed new (s.dau.swapped old new) := by
  induction l generalizing s with
  | nil => simp at dau
  | cons b l ih =>
    rw [List.nodup_cons] at nodup
    unfold swapAll
    simp only [Bool.false_and, Bool.false_eq_true, if_false, Bool.false_or]
    by_cases first : b.precedesCeilings = true
    · rw [first]
      have only : ∀ c ∈ l, c.precedesCeilings = true →
          c = if b = .dau then .zcu else .dau := by
        intro c hc is
        have apart : c ≠ b := fun e => nodup.1 (e ▸ hc)
        cases b <;> cases c <;> simp_all [Block.precedesCeilings]
      cases b with
      | dau =>
        have mem : Block.zcu ∈ l := by simpa using zcu
        obtain ⟨s', z, d, hz, hd⟩ := swapAll_zcu_of_second (old := old) (new := new) nodup.2 mem rfl
          (by simpa using only) (swapWork old new .dau s)
        have d' : s'.dau = s.dau.swapped old new := d.trans (dauSwap_dau old new s)
        have z' : s'.zcu = s.zcu := z.trans (swapWork_zcu (by decide) s)
        rw [hz, hd, recomputeAll_zcu, swapWork_dau (by decide), d']
        refine ⟨rfl, ?_⟩
        rw [show (swapWork old new .zcu s').zcu = s'.zcu.matched old new from rfl, z']
      | zcu =>
        have mem : Block.dau ∈ l := by simpa using dau
        obtain ⟨s', z, d, hz, hd⟩ := swapAll_zcu_of_second (old := old) (new := new) nodup.2 mem rfl
          (by simpa using only) (swapWork old new .zcu s)
        have d' : s'.dau = s.dau := d.trans (swapWork_dau (by decide) s)
        have swapped : (swapWork old new .dau s').dau = s.dau.swapped old new :=
          (dauSwap_dau old new s').trans (by rw [d'])
        rw [hz, hd, recomputeAll_zcu, swapped, swapWork_zcu (by decide), z]
        exact ⟨rfl, rfl⟩
      | _ => simp [Block.precedesCeilings] at first
    · have bd : b ≠ .dau := by rintro rfl; exact first rfl
      have bz : b ≠ .zcu := by rintro rfl; exact first rfl
      have quiet : b.precedesCeilings = false := by simpa using first
      rw [quiet]
      obtain ⟨h, g⟩ := ih nodup.2 (by simpa [bd.symm] using dau) (by simpa [bz.symm] using zcu)
        (swapWork old new b s)
      rw [h, g, swapWork_zcu bz, swapWork_dau bd]
      exact ⟨rfl, rfl⟩

/-- The accounts after a swap (R104, R105). -/
theorem swapWorks_dau (old new : Tables) (s : State) :
    (swapWorks old new s).dau = s.dau.swapped old new :=
  (swapAll_zcu_dau s.order.swapPlan_nodup (by simp [Order.mem_swapPlan, swapBlocks])
    (by simp [Order.mem_swapPlan, swapBlocks]) s).1

/-- The zone records after a swap (R119, R120). -/
theorem swapWorks_zcu (old new : Tables) (s : State) :
    (swapWorks old new s).zcu
      = (s.zcu.matched old new).recomputed new (s.dau.swapped old new) :=
  (swapAll_zcu_dau s.order.swapPlan_nodup (by simp [Order.mem_swapPlan, swapBlocks])
    (by simp [Order.mem_swapPlan, swapBlocks]) s).2

/-! ## The Condition Monitor's and the Command Gate's parts (R75, R76, R144) -/

/-- The work of a block other than the CMU leaves the Condition Monitor (R44). -/
theorem swapWork_cmu {old new : Tables} {b : Block} (h : b ≠ .cmu) (s : State) :
    (swapWork old new b s).cmu = s.cmu := by
  cases b <;> simp [swapWork] at *

/-- The Condition Monitor after a swap is as its own work makes it of what it found. -/
theorem swapWorks_cmu (old new : Tables) (s : State) :
    ∃ s', s'.cmu = s.cmu ∧ (swapWorks old new s).cmu = (cmuSwap old new s').cmu :=
  swapAll_part State.cmu (fun _ h => swapWork_cmu h) (by simp) s.order.swapPlan_nodup
    (by simp [Order.mem_swapPlan, swapBlocks]) false s

/-- The work of a block other than the CGU leaves the Command Gate (R44). -/
theorem swapWork_cgu {old new : Tables} {b : Block} (h : b ≠ .cgu) (s : State) :
    (swapWork old new b s).cgu = s.cgu := by
  cases b <;> simp [swapWork] at *

/-- The actuator records after a swap (R144, R146). -/
def Cgu.swapped (new : Tables) (c : Cgu) : Cgu :=
  ⟨new.slots.mapIdx fun k slot => (swappedActuator new c k slot).map (·.1)⟩

/-- The CGU's swap work makes its records anew (R144, R146). -/
theorem cguSwap_cgu (new : Tables) (s : State) : (cguSwap new s).cgu = s.cgu.swapped new := by
  simp only [cguSwap, postAll_frame, State.setCgu_cgu, Cgu.swapped]
  congr 1

/-- The Command Gate after a swap. -/
theorem swapWorks_cgu (old new : Tables) (s : State) :
    (swapWorks old new s).cgu = s.cgu.swapped new := by
  obtain ⟨s', same, done⟩ := swapAll_part State.cgu (old := old) (new := new)
    (fun _ h => swapWork_cgu h) (by simp) s.order.swapPlan_nodup (b := .cgu)
    (by simp [Order.mem_swapPlan, swapBlocks]) false s
  rw [← same, ← cguSwap_cgu]
  exact done

/-! ## What the swap work keeps -/

/-- An entry rebuilt is work on the new tables (R76). -/
theorem rebuildAll_work (new : Tables) (s : State) : Keeps new s (rebuildAll new s) :=
  Keeps.foldl (fun z _ s => Keeps.foldl (fun q _ s => moveEntry_work z q _ _ s) s) s

/-- What every block's swap work leaves: the board within its bounds, and the start-up state. -/
structure SwapKeeps (s u : State) : Prop where
  board : s.bli.BoardWf → u.bli.BoardWf
  start : u.nvs.start = s.nvs.start
  reading : u.nvs.reading = s.nvs.reading
  sending : s.bli.tx ≠ .idle → u.bli.tx = s.bli.tx
  holding : u.bli.holding = s.bli.holding

/-- Work on any tables keeps what swap work keeps. -/
theorem Keeps.swapKeeps (h : Keeps t s u) : SwapKeeps s u :=
  ⟨h.board, h.start, h.reading, h.sending, h.holding⟩

theorem SwapKeeps.trans (h : SwapKeeps s u) (g : SwapKeeps u v) : SwapKeeps s v :=
  ⟨g.board ∘ h.board, g.start.trans h.start, g.reading.trans h.reading,
    fun busy => (g.sending (by rw [h.sending busy]; exact busy)).trans (h.sending busy),
    g.holding.trans h.holding⟩

/-- What changes neither the building link nor the start-up keeps what swap work keeps. -/
theorem SwapKeeps.of_link (bli : u.bli = s.bli) (start : u.nvs.start = s.nvs.start)
    (reading : u.nvs.reading = s.nvs.reading) : SwapKeeps s u :=
  ⟨fun h => by rw [bli]; exact h, start, reading, fun _ => by rw [bli], by rw [bli]⟩

/-- A configuration request begins or ends no start-up. -/
theorem requestConfigWrite_swapKeeps (s : State) : SwapKeeps s (requestConfigWrite s) := by
  unfold requestConfigWrite
  split
  · refine SwapKeeps.trans ?_ (post_work (t := s.tbu.active) _ _).swapKeeps
    exact .of_link rfl rfl rfl
  · refine SwapKeeps.trans ?_ (serveStore_work (t := s.tbu.active) _).swapKeeps
    exact .of_link rfl rfl rfl

/-- One account's swap work, but for its record, is a post and perhaps a mark. -/
theorem swapAccount_eq (old new : Tables) (a : Fin 64) (s : State) :
    ∃ r, swapAccount old new a s = tellState a (s.dau.accounts.get a).state (storeAccount a r s)
      ∨ swapAccount old new a s
        = markAccount a (tellState a (s.dau.accounts.get a).state (storeAccount a r s)) := by
  refine ⟨(s.dau.accounts.get a).afterSwap old new a, ?_⟩
  simp only [swapAccount, putAccount, Bool.false_eq_true, if_false]
  split
  · exact .inl rfl
  · exact .inr rfl

/-- One account's swap work moves its record, posts and marks, and does nothing else. -/
theorem swapAccount_swapKeeps (old new : Tables) (a : Fin 64) (s : State) :
    SwapKeeps s (swapAccount old new a s) := by
  obtain ⟨r, same | same⟩ := swapAccount_eq old new a s <;> rw [same]
  · exact .trans (u := storeAccount a r s) (.of_link rfl rfl rfl)
      (tellState_work (t := new) a _ _).swapKeeps
  · exact .trans (u := storeAccount a r s) (.of_link rfl rfl rfl)
      ((tellState_work (t := new) a _ _).trans (markAccount_work a _)).swapKeeps

/-- Every block's swap work keeps the board and the start-up state. -/
theorem swapWork_swapKeeps (old new : Tables) (b : Block) (s : State) :
    SwapKeeps s (swapWork old new b s) := by
  cases b with
  | cmu =>
    refine SwapKeeps.trans ?_ (rebuildAll_work new _).swapKeeps
    exact .of_link rfl rfl rfl
  | dau =>
    refine SwapKeeps.trans ?_ (foldl_keeps SwapKeeps _ (fun _ => .of_link rfl rfl rfl)
      (fun _ _ _ => .trans) (fun s a => swapAccount_swapKeeps old new a s) _ _)
    exact .of_link rfl rfl rfl
  | zcu => exact .of_link rfl rfl rfl
  | cgu =>
    refine SwapKeeps.trans ?_ ((postAll_work (t := new) _ _).trans (postAll_work _ _)).swapKeeps
    exact .of_link rfl rfl rfl
  | xsu => exact .of_link rfl rfl rfl
  | tbu => exact requestConfigWrite_swapKeeps s
  | bli => exact .of_link rfl rfl rfl

/-- The swap work of every block keeps the board and the start-up state. -/
theorem swapWorks_swapKeeps (old new : Tables) (s : State) : SwapKeeps s (swapWorks old new s) :=
  swapAll_keeps SwapKeeps (fun _ => .of_link rfl rfl rfl) (fun _ _ _ => .trans)
    (fun b _ s => swapWork_swapKeeps old new b s) (fun s => (recomputeAll_work s).swapKeeps) false s

/-- The staged copy made active keeps the board and the start-up state (R44). -/
theorem activate_swapKeeps (s : State) : SwapKeeps s (activate s) := by
  unfold activate
  simp only
  split
  · refine SwapKeeps.trans ?_ (requestConfigWrite_swapKeeps _)
    exact .of_link rfl rfl rfl
  · exact .of_link rfl rfl rfl

/-! ## The commit state at a swap (R44, R47) -/

/-- What swap work but the Table Unit's leaves: the Table Unit, every agreement with the store, and
whether the store is FAILED. -/
structure StoreKept (s u : State) : Prop where
  tables : u.tbu = s.tbu
  store : ∀ c x, StoreAgrees c x s.nvs → StoreAgrees c x u.nvs
  failed : u.nvs.state = .failed ↔ s.nvs.state = .failed

theorem StoreKept.trans (h : StoreKept s u) (g : StoreKept u v) : StoreKept s v :=
  ⟨g.tables.trans h.tables, fun c x => g.store c x ∘ h.store c x, g.failed.trans h.failed⟩

theorem Keeps.storeKept (h : Keeps t s u) : StoreKept s u := ⟨h.tables, h.store, h.failed⟩

/-- The swap work of a block other than the Table Unit leaves the Table Unit (R44). -/
theorem swapWork_storeKept {old new : Tables} {b : Block} (h : b ≠ .tbu) (s : State) :
    StoreKept s (swapWork old new b s) := by
  cases b with
  | cmu =>
    refine StoreKept.trans ?_ (rebuildAll_work new _).storeKept
    exact ⟨rfl, fun _ _ => id, Iff.rfl⟩
  | dau =>
    refine StoreKept.trans (u := s.setDau { s.dau with
      monitors := s.dau.monitors.mapIdx fun _ m => m.lapseAny }) ⟨rfl, fun _ _ => id, Iff.rfl⟩
      (foldl_keeps StoreKept _ (fun s => ⟨rfl, fun _ _ => id, Iff.rfl⟩) (fun _ _ _ => .trans)
        (fun s a => ?_) _ _)
    obtain ⟨r, same | same⟩ := swapAccount_eq old new a s <;> rw [same]
    · exact .trans (u := storeAccount a r s) ⟨rfl, fun _ _ => id, Iff.rfl⟩
        (tellState_work (t := new) a _ _).storeKept
    · exact .trans (u := storeAccount a r s) ⟨rfl, fun _ _ => id, Iff.rfl⟩
        ((tellState_work (t := new) a _ _).trans (markAccount_work a _)).storeKept
  | zcu => exact ⟨rfl, fun _ _ => id, Iff.rfl⟩
  | cgu =>
    refine StoreKept.trans ?_ ((postAll_work (t := new) _ _).trans (postAll_work _ _)).storeKept
    exact ⟨rfl, fun _ _ => id, Iff.rfl⟩
  | xsu => exact ⟨rfl, fun _ _ => id, Iff.rfl⟩
  | tbu => exact absurd rfl h
  | bli => exact ⟨rfl, fun _ _ => id, Iff.rfl⟩

/-- The swap work of blocks other than the Table Unit. -/
theorem swapAll_storeKept {old new : Tables} {l : List Block} (h : Block.tbu ∉ l) (half : Bool)
    (s : State) : StoreKept s (swapAll old new half l s) :=
  swapAll_keeps StoreKept (fun _ => ⟨rfl, fun _ _ => id, Iff.rfl⟩) (fun _ _ _ => .trans)
    (fun _ hb s => swapWork_storeKept (fun e => h (e ▸ hb)) s)
    (fun s => (recomputeAll_work s).storeKept) half s

/-- The Table Unit after its request: STORING, or IDLE where the store is FAILED (R47). -/
theorem requestConfigWrite_tbu (s : State) : (requestConfigWrite s).tbu
    = { s.tbu with commit := if s.nvs.state = .failed then .idle else .storing } := by
  unfold requestConfigWrite
  split <;> simp [*]

/-- A request made with no swap cycle standing and nothing stored leaves commit state and store
agreed (R47). -/
theorem requestConfigWrite_agrees {s : State} (noCycle : s.tbu.swapCycle = none)
    (agrees : StoreAgrees .idle none s.nvs) :
    StoreAgrees (requestConfigWrite s).tbu.commit (requestConfigWrite s).tbu.swapCycle
      (requestConfigWrite s).nvs := by
  rw [requestConfigWrite_tbu]
  unfold requestConfigWrite
  split
  · simpa [noCycle] using agrees
  · next working =>
    refine (serveStore_work (t := s.tbu.active) _).store _ _ ?_
    have quiet : s.nvs.writesConfig = false := by
      have := agrees.storing
      simp_all
    have quiet' : Nvs.writesConfig { s.nvs with pendingConfig := true } = false := quiet
    exact ⟨by simp [noCycle], by simp, by simp [quiet'], by simpa [quiet', quiet] using agrees.config_state,
      agrees.record_state, fun failed => absurd failed working,
      fun failed => absurd failed working⟩

/-- Commit state and store agree after a swap whose work began with them agreed, the commit done
with (R44, R47). -/
theorem swap_agrees {old new : Tables} {s w : State} (agrees : StoreAgrees .idle none s.nvs)
    (after : Keeps t (activate s) w) :
    StoreAgrees (swapWorks old new w).tbu.commit (swapWorks old new w).tbu.swapCycle
      (swapWorks old new w).nvs := by
  have order : w.order = s.order := by simp [State.order, after.schedule]
  cases first : s.order.requestFirst with
  | true =>
    have requested : activate s = requestConfigWrite
        (s.setTbu { s.tbu with active := s.tbu.staged, swapCycle := none }) := by
      simp [activate, first]
    have absent : Block.tbu ∉ w.order.swapPlan := by simp [Order.mem_swapPlan, order, first]
    obtain ⟨same, kept, -⟩ := swapAll_storeKept (old := old) (new := new) absent false w
    rw [swapWorks, same, after.tables]
    refine kept _ _ (after.store _ _ ?_)
    rw [requested]
    exact requestConfigWrite_agrees rfl agrees
  | false =>
    have plain : activate s = s.setTbu { s.tbu with active := s.tbu.staged, swapCycle := none } := by
      simp [activate, first]
    have mem : Block.tbu ∈ w.order.swapPlan := by
      simp [Order.mem_swapPlan, order, first, swapBlocks]
    have nodup := w.order.swapPlan_nodup
    rw [swapWorks]
    obtain ⟨l1, l2, plan⟩ := List.append_of_mem mem
    rw [plan] at nodup ⊢
    simp only [List.nodup_append, List.nodup_cons] at nodup
    have not1 : Block.tbu ∉ l1 := fun h => nodup.2.2 _ h _ (by simp) rfl
    obtain ⟨same1, kept1, -⟩ := swapAll_storeKept (old := old) (new := new) not1 false w
    have noCycle : (swapAll old new false l1 w).tbu.swapCycle = none := by
      rw [same1, after.tables, plain]; rfl
    have agrees1 : StoreAgrees .idle none (swapAll old new false l1 w).nvs :=
      kept1 _ _ (after.store _ _ (by rw [plain]; exact agrees))
    have done := requestConfigWrite_agrees noCycle agrees1
    have still : Block.precedesCeilings .tbu = false := rfl
    rw [swapAll_append, swapAll]
    simp only [still, Bool.and_false, Bool.false_eq_true, if_false]
    obtain ⟨same2, kept2, -⟩ := swapAll_storeKept (old := old) (new := new) nodup.2.1.1
      ((false || l1.any Block.precedesCeilings) || false)
      (swapWork old new .tbu (swapAll old new false l1 w))
    rw [same2]
    exact kept2 _ _ done

/-- The commit state after a swap: STORING, or IDLE where the store was FAILED (R47). -/
theorem swap_commit {old new : Tables} {s w : State} (after : Keeps t (activate s) w) :
    (swapWorks old new w).tbu.commit = if s.nvs.state = .failed then .idle else .storing := by
  have order : w.order = s.order := by simp [State.order, after.schedule]
  cases first : s.order.requestFirst with
  | true =>
    have requested : activate s = requestConfigWrite
        (s.setTbu { s.tbu with active := s.tbu.staged, swapCycle := none }) := by
      simp [activate, first]
    have absent : Block.tbu ∉ w.order.swapPlan := by simp [Order.mem_swapPlan, order, first]
    rw [swapWorks, (swapAll_storeKept (old := old) (new := new) absent false w).tables,
      after.tables, requested, requestConfigWrite_tbu]
    rfl
  | false =>
    have plain : activate s = s.setTbu { s.tbu with active := s.tbu.staged, swapCycle := none } := by
      simp [activate, first]
    have mem : Block.tbu ∈ w.order.swapPlan := by
      simp [Order.mem_swapPlan, order, first, swapBlocks]
    have nodup := w.order.swapPlan_nodup
    rw [swapWorks]
    obtain ⟨l1, l2, plan⟩ := List.append_of_mem mem
    rw [plan] at nodup ⊢
    simp only [List.nodup_append, List.nodup_cons] at nodup
    have not1 : Block.tbu ∉ l1 := fun h => nodup.2.2 _ h _ (by simp) rfl
    have before := swapAll_storeKept (old := old) (new := new) not1 false w
    have failed : (swapAll old new false l1 w).nvs.state = .failed ↔ s.nvs.state = .failed := by
      rw [before.failed, after.failed, plain]
      rfl
    have still : Block.precedesCeilings .tbu = false := rfl
    rw [swapAll_append, swapAll]
    simp only [still, Bool.and_false, Bool.false_eq_true, if_false]
    rw [(swapAll_storeKept (old := old) (new := new) nodup.2.1.1 _ _).tables, swapWork,
      requestConfigWrite_tbu]
    simp only [failed]

/-- The tables after the swap work are those it found (R44). -/
theorem swapWorks_tables (old new : Tables) (s : State) :
    (swapWorks old new s).tbu.active = s.tbu.active
      ∧ (swapWorks old new s).tbu.staged = s.tbu.staged
      ∧ (swapWorks old new s).tbu.swapCycle = s.tbu.swapCycle := by
  refine swapAll_keeps (fun s u => u.tbu.active = s.tbu.active ∧ u.tbu.staged = s.tbu.staged
      ∧ u.tbu.swapCycle = s.tbu.swapCycle) (fun _ => ⟨rfl, rfl, rfl⟩)
    (fun _ _ _ h g => ⟨g.1.trans h.1, g.2.1.trans h.2.1, g.2.2.trans h.2.2⟩) (fun b _ s => ?_)
    (fun s => by simp) false s
  by_cases h : b = .tbu
  · subst h; simp [swapWork]
  · rw [(swapWork_storeKept h s).tables]
    exact ⟨rfl, rfl, rfl⟩

/-- The staged copy is active after the swap, and kept (R44). -/
theorem activate_tables (s : State) :
    (activate s).tbu.active = s.tbu.staged ∧ (activate s).tbu.staged = s.tbu.staged
      ∧ (activate s).tbu.swapCycle = none := by
  unfold activate
  simp only
  split <;> simp

end Sys2Proof.Machine

/-! PROOFS. What validation finds in tables that pass it (R40 to R42). -/

namespace Sys2Proof.Machine

open Sys2Proof

variable {t : Tables}

/-! ## Checks and their failures -/

/-- No entry is found where none passes the test. -/
theorem Tab.find?_eq_none_iff {α : Type} {n : Nat} (t : Tab α n) (p : Fin n → α → Bool) :
    t.find? p = none ↔ ∀ i, p i (t.get i) = false := by
  simp [Tab.find?, List.find?_eq_none]

/-- Some entry passes a test. -/
theorem Tab.any_eq_true_iff {α : Type} {n : Nat} (t : Tab α n) (p : Fin n → α → Bool) :
    t.any p = true ↔ ∃ i, p i (t.get i) = true := by
  simp [Tab.any, List.any_eq_true]

/-- A check of a table's records finds nothing where no record fails it. -/
theorem firstFailing_eq_none_iff {α : Type} {n : Nat} (id : TableId) (t : Tab α n)
    (bad : Fin n → α → Bool) : firstFailing id t bad = none ↔ ∀ i, bad i (t.get i) = false := by
  rw [firstFailing, Option.map_eq_none_iff, Tab.find?_eq_none_iff]

/-- Tables are valid where every check finds nothing (R40). -/
theorem validate_eq_none_iff (t : Tables) :
    validate t = none ↔ ∀ c ∈ checks, c.2 t = none := by
  simp [validate, List.findSome?_eq_none_iff]

/-- No check finds a failure in valid tables. -/
theorem check_of_validate (h : validate t = none) {c : CheckName × (Tables → Failure)}
    (mem : c ∈ checks) : c.2 t = none := (validate_eq_none_iff t).mp h c mem

/-- A field within a range is present and has a value of the range. -/
theorem within_eq_true_iff (f : Option Nat) (lo hi : Nat) :
    within f lo hi = true ↔ ∃ v, f = some v ∧ lo ≤ v ∧ v ≤ hi := by
  cases f <;> simp [within]

/-! ## What FIELD_RANGE finds (R29, R33, R41) -/

/-- The records that valid tables' FIELD_RANGE speaks of are in range (R41). -/
theorem inRange_of_validate (h : validate t = none) :
    t.bus.inRange = true ∧ ∀ a, (t.accounts.get a).inRange = true := by
  have range : fieldRange t = none :=
    check_of_validate h (c := (.fieldRange, fieldRange)) (by simp [checks])
  unfold fieldRange at range
  cases bus : t.bus.inRange with
  | false => simp [bus] at range
  | true =>
    simp only [bus, Bool.not_true, Bool.false_eq_true, if_false, Option.or_eq_none_iff,
      firstFailing_eq_none_iff, Bool.not_eq_false'] at range
    obtain ⟨-, -, -, accounts, -⟩ := range
    exact ⟨rfl, accounts⟩

/-- The cycle interval of valid tables (R29). -/
theorem cycleInterval_of_validate (h : validate t = none) :
    ∃ c, t.bus.cycleInterval = some c ∧ 1 ≤ c ∧ c ≤ 30 := by
  have bus := (inRange_of_validate h).1
  simp only [BusRec.inRange, Bool.and_eq_true, and_assoc] at bus
  exact (within_eq_true_iff _ _ _).mp bus.1

/-- An enabled account of valid tables has a budget and an allowance (R33). -/
theorem limits_of_validate (h : validate t = none) {a : Fin 64}
    (enabled : (t.accounts.get a).isEnabled = true) :
    1 ≤ num (t.accounts.get a).budget ∧ 1 ≤ num (t.accounts.get a).allowance := by
  have range := (inRange_of_validate h).2 a
  simp only [AccountRec.inRange, enabled, Bool.not_true, Bool.false_or, Bool.and_eq_true,
    and_assoc, within_eq_true_iff] at range
  obtain ⟨-, -, ⟨b, hb, low, -⟩, ⟨x, hx, low', -⟩, -⟩ := range
  simp only [hb, hx, num, Option.getD_some]
  exact ⟨low, low'⟩

/-! ## What the other checks find -/

/-- Valid tables have a used slot (R28, R40). -/
theorem exists_used_of_validate (h : validate t = none) : ∃ k, (t.slots.get k).isUsed = true := by
  have found : noSlots t = none :=
    check_of_validate h (c := (.noSlots, noSlots)) (by simp [checks])
  unfold noSlots at found
  split at found
  · next used => exact (Tab.any_eq_true_iff _ _).mp used
  · cases found

/-- No used slot of valid tables has the node of a used slot below it (R42). -/
theorem node_ne_of_lt_of_validate (h : validate t = none) {j k : Fin 48} (below : j < k)
    (usedj : (t.slots.get j).isUsed = true) (usedk : (t.slots.get k).isUsed = true) :
    (t.slots.get j).node ≠ (t.slots.get k).node := by
  have found : nodeDuplicate t = none :=
    check_of_validate h (c := (.nodeDuplicate, nodeDuplicate)) (by simp [checks])
  intro same
  have none_below := (firstFailing_eq_none_iff _ _ _).mp found k
  rw [usedk, Bool.true_and] at none_below
  have mem := (Tab.mem_indices t.slots
    (fun i r => decide (i < k) && (r.isUsed && r.node == (t.slots.get k).node)) j).mpr
      (by simp [below, usedj, same])
  exact of_decide_eq_false none_below (List.length_pos_of_mem mem)

/-- No two used slots of valid tables have one node (R42). -/
theorem node_injective_of_validate (h : validate t = none) {j k : Fin 48}
    (usedj : (t.slots.get j).isUsed = true) (usedk : (t.slots.get k).isUsed = true)
    (same : (t.slots.get j).node = (t.slots.get k).node) : j = k := by
  rcases lt_trichotomy j k with below | rfl | above
  · exact absurd same (node_ne_of_lt_of_validate h below usedj usedk)
  · rfl
  · exact absurd same.symm (node_ne_of_lt_of_validate h above usedk usedj)

/-- No enabled zone of valid tables rests above its ceiling (R41). -/
theorem restLevel_le_luxCeiling_of_validate (h : validate t = none) {z : Fin 16}
    (enabled : t.zoneEnabled z = true) :
    num (t.zoneRec z).restLevel ≤ num (t.zoneRec z).luxCeiling := by
  have found : restLevel t = none :=
    check_of_validate h (c := (.restLevel, restLevel)) (by simp [checks])
  have here := (firstFailing_eq_none_iff _ _ _).mp found z
  rw [show (t.zones.get z).isEnabled = true from enabled] at here
  simpa [Tables.zoneRec] using here

/-! ## A newly enabled account (R85, R104) -/

/-- An account with nothing counted is OPEN under valid tables (R85, R104). -/
theorem evaluated_of_validate (h : validate t = none) {a : Fin 64}
    (enabled : (t.accounts.get a).isEnabled = true) {r : AccountDyn} (year : r.usedYear = 0)
    (today : r.usedToday = 0) : evaluated (t.accounts.get a) r = .open_ := by
  obtain ⟨budget, allowance⟩ := limits_of_validate h enabled
  have notYear : ¬ (t.accounts.get a).budgetLuxSeconds ≤ r.usedYear := by
    rw [year, AccountRec.budgetLuxSeconds, not_le]
    exact Nat.mul_pos budget (by decide)
  have notToday : ¬ effectiveAllowance (t.accounts.get a) r ≤ r.usedToday := by
    rw [today, effectiveAllowance, not_le]
    exact Nat.mul_pos (by omega) (by decide)
  rw [evaluated, if_neg notYear, if_neg notToday]

end Sys2Proof.Machine

/-! PROOFS. What an event that is no reset and no start-up step preserves, and the swap (R44) as one
such piece of work. -/

namespace Sys2Proof.Machine

open Sys2Proof

variable {t old new : Tables} {s u v w : State}

/-! ## The invariants an event preserves -/

/-- The sensor and actuator records stand at the slots of the active Slot Map and at no other
(R51, R122). -/
def State.RecordsStand (s : State) : Prop :=
  ∀ k : Fin 48,
    ((s.cmu.sensors.get k).isSome = true ↔ ((s.tbu.active.slots.get k).sensorQuantity).isSome = true)
    ∧ ((s.cgu.actuators.get k).isSome = true ↔ ((s.tbu.active.slots.get k).actuatorKind).isSome = true
        ∧ ((s.tbu.active.slots.get k).zoneIndex).isSome = true)

/-- The records follow the slots once start-up has ended. -/
theorem State.recordsFollowSlots_iff (s : State) :
    s.RecordsFollowSlots ↔ (s.nvs.start ≠ .starting → s.RecordsStand) := Iff.rfl

/-- An event that neither resets the part nor moves its start-up preserves every invariant, each
under the active tables as they then stand. -/
structure Preserves (s u : State) : Prop where
  start : u.nvs.start = s.nvs.start
  reading : u.nvs.reading = s.nvs.reading
  board : s.bli.BoardWf → u.bli.BoardWf
  fieldline : s.flc.Coherent → u.flc.Coherent
  alert : s.AlertFollows → u.AlertFollows
  year : s.dau.YearCoversToday → u.dau.YearCoversToday
  monitors : s.dau.MonitorsSound → u.dau.MonitorsSound
  accounts : s.TablesValid → s.dau.AccountsStand s.tbu.active → u.dau.AccountsStand u.tbu.active
  ceilings : s.zcu.CeilingsIn s.tbu.active → u.zcu.CeilingsIn u.tbu.active
  store : s.StoreCoherent → u.StoreCoherent
  tables : s.TablesValid → u.TablesValid
  records : s.RecordsStand → u.RecordsStand

@[refl] theorem Preserves.refl (s : State) : Preserves s s :=
  ⟨rfl, rfl, id, id, id, id, id, fun _ => id, id, id, id, id⟩

@[trans] theorem Preserves.trans (h : Preserves s u) (g : Preserves u v) : Preserves s v where
  start := g.start.trans h.start
  reading := g.reading.trans h.reading
  board := g.board ∘ h.board
  fieldline := g.fieldline ∘ h.fieldline
  alert := g.alert ∘ h.alert
  year := g.year ∘ h.year
  monitors := g.monitors ∘ h.monitors
  accounts valid := g.accounts (h.tables valid) ∘ h.accounts valid
  ceilings := g.ceilings ∘ h.ceilings
  store := g.store ∘ h.store
  tables := g.tables ∘ h.tables
  records := g.records ∘ h.records

/-- The validity of the tables in use rests on the FLC's running, the Table Unit and the start-up
state. -/
theorem State.TablesValid.congr (h : s.TablesValid) (tables : u.tbu = s.tbu)
    (stopped : u.flc.state = .stopped ↔ s.flc.state = .stopped)
    (start : u.nvs.start = s.nvs.start) (reading : u.nvs.reading = s.nvs.reading) :
    u.TablesValid where
  cycling running := by rw [tables]; exact h.cycling fun e => running (stopped.mpr e)
  awaited commit := by rw [tables] at commit ⊢; exact h.awaited commit
  loaded starting read := by
    rw [tables]; exact h.loaded (start ▸ starting) (reading ▸ read)

/-- Work on the active tables preserves every invariant. -/
theorem Keeps.preserves (h : Keeps s.tbu.active s u) : Preserves s u where
  start := h.start
  reading := h.reading
  board := h.board
  fieldline := h.fieldline
  alert := by
    intro follows
    rw [State.AlertFollows, h.tables]
    exact h.alert follows
  year := h.year
  monitors := h.monitors
  accounts _ := by rw [h.tables]; exact h.accounts
  ceilings := by rw [h.tables]; exact h.ceilings
  store := by rw [State.storeCoherent_iff, State.storeCoherent_iff, h.tables]; exact h.store _ _
  tables valid := valid.congr h.tables h.stopped h.start h.reading
  records stand k := by rw [h.sensors, h.actuators, h.tables]; exact stand k

/-- The schedule's entry for an event, used up, and the arbiter's turn: the end of an event. -/
theorem finish_preserves (s : State) : Preserves s (finish s) :=
  { Preserves.refl s with
    board := Bli.BoardWf.arbitrate
    store := fun h => (State.storeCoherent_iff _).mpr (s.storeCoherent_iff.mp h)
    tables := fun h => h.congr rfl Iff.rfl rfl rfl }

/-- An event's work, ended. -/
theorem Preserves.finish (h : Preserves s u) : Preserves s (finish u) :=
  h.trans (finish_preserves u)

/-! ## Swap work, block by block -/

/-- No account's counts pass each other at a swap (R83, R104). -/
theorem AccountDyn.afterSwap_year (old new : Tables) (a : Fin 64) {r : AccountDyn}
    (h : r.usedToday ≤ r.usedYear) :
    (r.afterSwap old new a).usedToday ≤ (r.afterSwap old new a).usedYear := by
  unfold AccountDyn.afterSwap
  split
  · exact h
  · exact Nat.le_refl 0
  · exact Nat.le_refl 0
  · simpa using h

/-- An account stands under the new tables after a swap, where these are valid (R85, R104). -/
theorem AccountDyn.Stands.afterSwap {a : Fin 64} {r : AccountDyn}
    (h : r.Stands (old.accounts.get a)) (valid : validate new = none) :
    (r.afterSwap old new a).Stands (new.accounts.get a) := by
  unfold AccountDyn.afterSwap
  split
  · next was is =>
    have idle : r.state = .idle := by
      rw [AccountDyn.Stands, if_neg (by simp [show (old.accounts.get a).isEnabled = false from was])]
        at h
      exact h
    rw [AccountDyn.Stands, if_neg (by simp [show (new.accounts.get a).isEnabled = false from is])]
    exact idle
  · next is =>
    rw [AccountDyn.Stands, if_neg (by simp [show (new.accounts.get a).isEnabled = false from is])]
    rfl
  · next is =>
    exact AccountDyn.stands_of_evaluated (r := { AccountDyn.reset with revision := r.revision + 1#16 })
      is (evaluated_of_validate valid is rfl rfl).symm
  · next is => exact AccountDyn.evaluate_stands is _

/-- The accounts' counts after a swap. -/
theorem Dau.YearCoversToday.swapped {d : Dau} (h : d.YearCoversToday) (old new : Tables) :
    (d.swapped old new).YearCoversToday := fun a => by
  simpa [Dau.swapped] using AccountDyn.afterSwap_year old new a (h a)

/-- The accounts after a swap. -/
theorem Dau.AccountsStand.swapped {d : Dau} (h : d.AccountsStand old)
    (valid : validate new = none) : (d.swapped old new).AccountsStand new := fun a => by
  simpa [Dau.swapped] using (h a).afterSwap valid

/-- The link monitors after a swap (R105). -/
theorem Dau.MonitorsSound.swapped {d : Dau} (h : d.MonitorsSound) (old new : Tables) :
    (d.swapped old new).MonitorsSound :=
  h.of_entries (fun i => by simp [Dau.swapped]) fun i e is => by
    simp only [Dau.swapped, Tab.get_mapIdx] at is
    exact absurd is (Monitor.lapseAny_ne_open _ _)

/-- The ceilings after a swap (R119, R120). -/
theorem Zcu.CeilingsIn.swapped {c : Zcu} (h : c.CeilingsIn old) (d : Dau) :
    ((c.matched old new).recomputed new d).CeilingsIn new := by
  intro z
  simp only [Zcu.recomputed, Zcu.matched, Tab.get_mapIdx]
  by_cases is : new.zoneEnabled z = true
  · rw [if_pos is]
    exact ZoneDyn.computed_ceilingIn d _ is
  · have isNot : new.zoneEnabled z = false := by simpa using is
    rw [if_neg is, ZoneDyn.CeilingIn, if_neg is, ZoneDyn.afterSwap, isNot]
    cases was : old.zoneEnabled z with
    | false =>
      have here := h z
      rw [ZoneDyn.CeilingIn, was] at here
      exact here
    | true => rfl

/-- The sensor records after the CMU's swap work stand at the SENSOR slots (R75). -/
theorem cmuSwap_sensors (old new : Tables) (s : State) (k : Fin 48) :
    ((cmuSwap old new s).cmu.sensors.get k).isSome
      = ((new.slots.get k).sensorQuantity).isSome := by
  rw [cmuSwap, (rebuildAll_work new _).sensors]
  simp [sensorsAfterSwap]

/-- ALERT after the CMU's swap work has the level of the new tables (R73, R76). -/
theorem cmuSwap_alert (old new : Tables) (s : State) :
    (cmuSwap old new s).cmu.alert = alertLevel new (cmuSwap old new s).cmu :=
  (rebuildAll_work new _).alert rfl

/-- A slot's fresh actuator record (R122). -/
theorem freshActuator_isSome (k : Fin 48) (slot : SlotRec) :
    (freshActuator k slot).isSome = true
      ↔ slot.actuatorKind.isSome = true ∧ slot.zoneIndex.isSome = true := by
  unfold freshActuator
  split
  · next kind z => simp [*]
  · next other =>
    simp only [Option.isSome_none, Bool.false_eq_true, Option.isSome_iff_exists, false_iff]
    rintro ⟨⟨kind, hk⟩, z, hz⟩
    exact other kind z hk hz

/-- A slot's actuator record after a swap stands where a fresh one would (R144). -/
theorem Cgu.swapped_isSome (new : Tables) (c : Cgu) (k : Fin 48) :
    ((c.swapped new).actuators.get k).isSome
      = (freshActuator k (new.slots.get k)).isSome := by
  simp only [Cgu.swapped, Tab.get_mapIdx, Option.isSome_map, swappedActuator]
  cases freshActuator k (new.slots.get k) with
  | none => rfl
  | some f => cases keptActuator c (new.slots.get k) <;> rfl

/-! ## The swap as a whole -/

/-- A commit that awaits its swap, or has not been made, leaves the store as an IDLE commit would. -/
theorem StoreAgrees.beforeSwap {c : CommitState} {x : Option Half} {n : Nvs}
    (h : StoreAgrees c x n) (notStoring : c ≠ .storing) : StoreAgrees .idle none n where
  swap_cycle := by simp
  storing := by
    have storing := h.storing
    simp only [notStoring, false_iff, Bool.not_eq_true] at storing
    simp [storing]
  not_both := h.not_both
  config_state := h.config_state
  record_state := h.record_state
  failed_config := h.failed_config
  failed_accounts := h.failed_accounts

/-- Every block's swap work, after close work on the old tables with the staged copy made active in
its midst, preserves every invariant, where the staged copy is valid and no image is being stored
(R44, R45). -/
theorem swapWorks_preserves (active : s.tbu.active = old) (staged : s.tbu.staged = new)
    (before : Keeps old s u) (after : Keeps old (activate u) w)
    (valid : s.TablesValid → validate new = none)
    (notStoring : s.StoreCoherent → s.tbu.commit ≠ .storing) :
    Preserves s (swapWorks old new w) := by
  obtain ⟨activeAfter, stagedAfter, -⟩ := swapWorks_tables old new w
  obtain ⟨isActive, isStaged, -⟩ := activate_tables u
  have tableIs : (swapWorks old new w).tbu.active = new := by
    rw [activeAfter, after.tables, isActive, before.tables, staged]
  have stagedIs : (swapWorks old new w).tbu.staged = new := by
    rw [stagedAfter, after.tables, isStaged, before.tables, staged]
  have kept := swapWorks_swapKeeps old new w
  have put := activate_swapKeeps u
  have flc : (swapWorks old new w).flc = w.flc := by simp
  refine ⟨?start, ?reading, ?board, ?fieldline, ?alert, ?year, ?monitors, ?accounts, ?ceilings,
    ?store, ?tables, ?records⟩
  case start => rw [kept.start, after.start, put.start, before.start]
  case reading => rw [kept.reading, after.reading, put.reading, before.reading]
  case board => exact kept.board ∘ after.board ∘ put.board ∘ before.board
  case fieldline =>
    intro h
    rw [flc]
    exact after.fieldline (by rw [(activate_frame u).2.1]; exact before.fieldline h)
  case alert =>
    intro _
    obtain ⟨s', -, same⟩ := swapWorks_cmu old new w
    rw [State.AlertFollows, tableIs, same]
    exact cmuSwap_alert old new s'
  case year =>
    intro h
    rw [swapWorks_dau]
    exact (after.year (by simpa using before.year h)).swapped old new
  case monitors =>
    intro h
    rw [swapWorks_dau]
    exact (after.monitors (by simpa using before.monitors h)).swapped old new
  case accounts =>
    intro ok h
    rw [swapWorks_dau, tableIs]
    rw [active] at h
    exact (after.accounts (by simpa using before.accounts h)).swapped (valid ok)
  case ceilings =>
    intro h
    rw [swapWorks_zcu, tableIs]
    rw [active] at h
    exact (after.ceilings (by simpa using before.ceilings h)).swapped _
  case store =>
    intro h
    have agrees := (s.storeCoherent_iff.mp h).beforeSwap (notStoring h)
    exact (State.storeCoherent_iff _).mpr (swap_agrees (before.store _ _ agrees) after)
  case tables =>
    intro ok
    exact ⟨fun _ => by rw [tableIs]; exact valid ok, fun _ => by rw [stagedIs]; exact valid ok,
      fun _ _ => by rw [tableIs]; exact valid ok⟩
  case records =>
    intro _ k
    obtain ⟨s', -, same⟩ := swapWorks_cmu old new w
    rw [tableIs, same, cmuSwap_sensors, swapWorks_cgu, Cgu.swapped_isSome, freshActuator_isSome]
    exact ⟨Iff.rfl, Iff.rfl⟩

end Sys2Proof.Machine

/-! PROOFS. The invariants across requests, messages, slot ends and cycle closes. -/

namespace Sys2Proof.Machine

open Sys2Proof

variable {t : Tables} {s u v : State}

/-! ## The start of a cycle, and the close of one -/

/-- The mark that begins a cycle leaves the FLC coherent (R5, R6). -/
theorem Flc.Coherent.beginMark {f : Flc} (h : f.Coherent) (t : Tables) (cycle : Half) :
    (f.beginMark t cycle).Coherent where
  phase_in_slot := by simp [Flc.beginMark]
  slot_in_slot := by simp [Flc.beginMark]
  timer_runs := by simp [Flc.beginMark]
  count_present := by simp [Flc.beginMark]
  answer_fits := h.answer_fits
  answer_not_begun := by simp [Flc.beginMark]
  answer_open := by simp [Flc.beginMark]
  line_driven := by simp [Flc.beginMark, Flc.drives]

/-- The FLC leaves STOPPED with valid tables (R3). -/
theorem startCycling_preserves (valid : validate s.tbu.active = none) :
    Preserves s (startCycling s) :=
  { Preserves.refl s with
    fieldline := fun h => h.beginMark _ _
    store := fun h => (State.storeCoherent_iff _).mpr (s.storeCoherent_iff.mp h)
    tables := fun h => ⟨fun _ => valid, h.awaited, h.loaded⟩ }

/-- A swap while the FLC is STOPPED (R46). -/
theorem swapNow_preserves (idle : s.tbu.commit = .idle) (valid : validate s.tbu.staged = none) :
    Preserves s (swapNow s) := by
  refine (swapWorks_preserves rfl rfl (.refl _ s) (.refl _ _) (fun _ => valid)
    (fun _ => by simp [idle])).trans (startCycling_preserves ?_)
  rw [(swapWorks_tables _ _ _).1, (activate_tables s).1]
  exact valid

/-- The FLC's and the XSU's part of a cycle close (R23, R186). -/
theorem closeStart_work (running : s.flc.state ≠ .stopped) :
    Keeps t s (xsuClose t (s.setFlc s.flc.closed)) := by
  refine Keeps.trans (u := s.setFlc s.flc.closed) ?_ (Keeps.setXsu _ _)
  exact Keeps.setFlc s (by simp [Flc.closed, running]) fun h => h.closed running

/-- A part of the close work's steps. -/
theorem closeSteps_part_work {l : List (State → State)} {s0 : State}
    (part : ∀ f ∈ l, f ∈ closeSteps t s0) (s : State) : Keeps t s (runSteps l s) :=
  Keeps.runSteps (fun f hf s => closeSteps_work t s0 f (part f hf) s) s

/-- A cycle close, with or without its swap, preserves every invariant (R23, R44). -/
theorem cycleClose_preserves (running : s.flc.state ≠ .stopped) : Preserves s (cycleClose s) := by
  have start := closeStart_work (t := s.tbu.active) running
  cases due : s.swapDue with
  | true =>
    have awaited : s.tbu.commit = .pendingSwap := by
      simp only [State.swapDue, Bool.and_eq_true, beq_iff_eq] at due
      exact due.1
    rw [cycleClose_of_swapDue due, closeWorkDone]
    exact swapWorks_preserves rfl rfl
      (start.trans (closeSteps_part_work (fun f => List.mem_of_mem_take) _))
      (closeSteps_part_work (fun f => List.mem_of_mem_drop) _)
      (fun valid => valid.awaited awaited) (fun _ => by simp [awaited])
  | false =>
    rw [cycleClose_of_not_swapDue due]
    exact (start.trans (closeSteps_part_work (fun _ => id) _)).preserves

/-! ## Slot ends -/

/-- What the FLC can end is a slot of its own (R17, R18). -/
theorem Flc.state_of_ending {f : Flc} {k : Fin 48} {o : SlotOutcome} (h : f.ending = some (k, o)) :
    f.state = .slot := by
  unfold Flc.ending at h
  split at h
  · assumption
  · cases h

/-- The next slot, or the cycle's close (R20). -/
theorem afterSlot_preserves (k : Fin 48) (running : s.flc.state ≠ .stopped) :
    Preserves s (afterSlot k s) := by
  unfold afterSlot
  split
  · exact (slotStart_work _ s running).preserves
  · exact cycleClose_preserves running

/-- A slot's end preserves every invariant (R20). -/
theorem slotEnd_preserves {k : Fin 48} {o : SlotOutcome} (h : s.flc.ending = some (k, o)) :
    Preserves s (slotEnd k o s) := by
  have recorded := recordAndHandOver_work k o s rfl
  have running : s.flc.state ≠ .stopped := by simp [Flc.state_of_ending h]
  exact (recorded.preserves.trans
    (afterSlot_preserves k fun e => running (recorded.stopped.mp e))).finish

/-- A slot's end under a test (assumption log 3). -/
theorem slotEndWhen_preserves (reached : Fin 48 → SlotOutcome → State → Bool) (s : State) :
    Preserves s (slotEndWhen reached s) := by
  unfold slotEndWhen
  split
  · next k o ends =>
    split
    · exact slotEnd_preserves ends
    · rfl
  · rfl

/-! ## Requests -/

/-- A staged copy replaced while no swap is awaited (R37, R38). -/
theorem setStaged_preserves (h : s.tbu.commit ≠ .pendingSwap) (x : Tables) :
    Preserves s (s.setTbu { s.tbu with staged := x }) :=
  { Preserves.refl s with
    store := fun g => (State.storeCoherent_iff _).mpr (s.storeCoherent_iff.mp g)
    tables := fun g => ⟨g.cycling, fun e => absurd e h, g.loaded⟩ }

/-- A swap awaited from an IDLE commit, of a valid staged copy (R43). -/
theorem awaitSwap_preserves (idle : s.tbu.commit = .idle) (valid : validate s.tbu.staged = none)
    (c : Half) :
    Preserves s (s.setTbu { s.tbu with commit := .pendingSwap, swapCycle := some c }) where
  start := rfl
  reading := rfl
  board := id
  fieldline := id
  alert := id
  year := id
  monitors := id
  accounts _ := id
  ceilings := id
  store h := by
    have agrees := s.storeCoherent_iff.mp h
    have storing := agrees.storing
    rw [idle] at storing
    exact (State.storeCoherent_iff _).mpr ⟨by simp, by simpa using storing, agrees.not_both,
      agrees.config_state, agrees.record_state, agrees.failed_config, agrees.failed_accounts⟩
  tables h := ⟨h.cycling, fun _ => valid, h.loaded⟩
  records := id

/-- A WRITE RECORD preserves every invariant (R37). -/
theorem writeRecord_preserves (fields : List Byte) (s : State) :
    Preserves s (writeRecord fields s).1 := by
  unfold writeRecord
  split
  · rfl
  · next free =>
    split
    · simp only
      split
      · exact setStaged_preserves free _
      · rfl
    · rfl

/-- A DISCARD STAGED preserves every invariant (R38). -/
theorem discardStaged_preserves (s : State) : Preserves s (discardStaged s).1 := by
  unfold discardStaged
  split
  · rfl
  · next free => exact setStaged_preserves free _

/-- A COMMIT preserves every invariant (R40, R43, R46). -/
theorem commit_preserves (s : State) : Preserves s (commit s).1 := by
  unfold commit
  split
  · rfl
  · next idle =>
    rw [ne_eq, not_not] at idle
    split
    · rfl
    · next valid =>
      split
      · exact swapNow_preserves idle valid
      · exact awaitSwap_preserves idle valid _

/-- A READ RECORD changes nothing (R36). -/
theorem readRecord_state (fields : List Byte) (s : State) : (readRecord fields s).1 = s := by
  unfold readRecord
  split
  · simp only
    split <;> rfl
  · rfl

/-- A READ STATE changes nothing (R174). -/
theorem readState_state (source : Byte) (fields : List Byte) (s : State) :
    (readState source fields s).1 = s := by
  unfold readState
  split <;> rfl

/-- A requester's monitor opened on an account at its revision (R93). -/
theorem openMonitor_work (source : Byte) (a : Fin 64) (s : State) :
    Keeps t s (s.setDau { s.dau with
      monitors := openMonitor s.dau.monitors source a (s.dau.accounts.get a).revision }) :=
  Keeps.setDau s id (fun h => h.openMonitor source a) id

/-- A LINK READ ACCOUNT is work (R93). -/
theorem linkReadAccount_work (source : Byte) (fields : List Byte) (s : State) :
    Keeps t s (linkReadAccount source fields s).1 := by
  unfold linkReadAccount
  split
  · rfl
  · next a _ =>
    simp only
    split
    · exact openMonitor_work source a s
    · rfl

/-- A GRANT EXTENSION is work (R94). -/
theorem grantExtension_work (source : Byte) (fields : List Byte) (s : State) :
    Keeps s.tbu.active s (grantExtension source fields s).1 := by
  unfold grantExtension
  split
  · rfl
  · next a =>
    simp only
    split
    · rfl
    · simp only [judgeGrant]
      split
      · rfl
      · next enabled =>
        rw [Bool.not_eq_true', Bool.not_eq_false] at enabled
        split
        · rfl
        · split
          · rfl
          · next i _ =>
            split
            · exact freeMonitor_work i s
            · split
              · exact freeMonitor_work i s
              · exact grantAccount_work enabled i _ s rfl

/-- A request on an account that must be enabled is work where its effect on such an account is. -/
theorem onAccount_work {fields : List Byte} {effect : Fin 64 → Handled}
    (each : ∀ a, (t.accounts.get a).isEnabled = true → Keeps t s (effect a).1)
    (active : s.tbu.active = t) : Keeps t s (onAccount fields s effect).1 := by
  unfold onAccount
  split
  · rfl
  · next a _ =>
    split
    · next enabled => exact each a (by rw [← active]; exact enabled)
    · rfl

/-- A SEED ACCOUNT is work (R99). -/
theorem seedAccount_work (fields : List Byte) (s : State) :
    Keeps s.tbu.active s (seedAccount fields s).1 := by
  refine onAccount_work (fun a enabled => ?_) rfl
  simp only
  split
  · rfl
  · next covers => exact seed_work enabled s (Nat.le_of_not_lt covers) rfl

/-- A CLEAR LATCH is work (R70). -/
theorem clearLatchRequest_work (fields : List Byte) (s : State) :
    Keeps s.tbu.active s (clearLatchRequest fields s).1 := by
  unfold clearLatchRequest
  split
  · split
    · rfl
    · split
      · rfl
      · split
        · rfl
        · exact clearLatch_work _ _ _ s rfl
  · rfl

/-- A HOLD OCCUPIED is work (R112). -/
theorem holdOccupied_work (fields : List Byte) (s : State) :
    Keeps s.tbu.active s (holdOccupied fields s).1 := by
  unfold holdOccupied
  split
  · rfl
  · simp only
    split
    · rfl
    · split
      · rfl
      · exact setHold_work _ _ s rfl

/-- A RELEASE HOLD is work (R113). -/
theorem releaseHold_work (fields : List Byte) (s : State) :
    Keeps s.tbu.active s (releaseHold fields s).1 := by
  unfold releaseHold
  split
  · rfl
  · split
    · rfl
    · exact setHold_work _ _ s rfl

/-- A STATS CONTROL is work (R189). -/
theorem statsControl_work (fields : List Byte) (s : State) :
    Keeps t s (statsControl fields s).1 := by
  unfold statsControl
  split
  · rfl
  · exact Keeps.setXsu s _

/-- A RESTART is work (R180). -/
theorem restart_work (s : State) : Keeps t s (restart s).1 :=
  (Keeps.setMrh s _).trans (Keeps.setBli _ id (fun _ => rfl) rfl id)

/-- A request's effect by the block that owns it preserves every invariant (R172). -/
theorem requestEffect_preserves (k : ReqKind) (source : Byte) (fields : List Byte) (s : State) :
    Preserves s (requestEffect k source fields s).1 := by
  cases k with
  | readRecord => rw [requestEffect, readRecord_state]
  | readState => rw [requestEffect, readState_state]
  | linkReadAccount => exact (linkReadAccount_work source fields s).preserves
  | readFault => rfl
  | clearLatch => exact (clearLatchRequest_work fields s).preserves
  | holdOccupied => exact (holdOccupied_work fields s).preserves
  | releaseHold => exact (releaseHold_work fields s).preserves
  | grantExtension => exact (grantExtension_work source fields s).preserves
  | statsControl => exact (statsControl_work fields s).preserves
  | statsClear => exact (Keeps.setXsu s _).preserves
  | clearFault => exact (Keeps.setMrh s _).preserves
  | writeRecord => exact writeRecord_preserves fields s
  | discardStaged => exact discardStaged_preserves s
  | commit => exact commit_preserves s
  | suspendAccount =>
    exact (onAccount_work (fun a enabled => suspend_work enabled s rfl) rfl).preserves
  | resumeAccount =>
    exact (onAccount_work (fun a enabled => resume_work enabled s rfl) rfl).preserves
  | seedAccount => exact (seedAccount_work fields s).preserves
  | restart => exact (restart_work s).preserves

/-! ## Messages -/

/-- A denial is work (R177). -/
theorem deny_work (source : Byte) (kind : DeniedKind) (subject : Option (List Byte)) (s : State) :
    Keeps t s (deny source kind subject s) :=
  (Keeps.setMrh s _).trans (post_work _ _)

/-- A request judged and done preserves every invariant (R171). -/
theorem handleRequest_preserves (k : ReqKind) (source : Byte) (fields : List Byte) (s : State) :
    Preserves s (handleRequest k source fields s).1 := by
  unfold handleRequest
  split
  · exact (deny_work source _ _ s).preserves
  · split
    · rfl
    · exact requestEffect_preserves k source fields s

/-- A taken COMMAND is work (R126). -/
theorem takeCommand_work (source : Byte) (body : List Byte) (s : State) :
    Keeps t s (takeCommand source body s).1 := by
  unfold takeCommand
  split
  · rfl
  · split
    · exact deny_work source _ _ s
    · exact commandEffect_work body s

/-- A taken TIME is work (R87). -/
theorem takeTime_work (source : Byte) (body : List Byte) (s : State) :
    Keeps s.tbu.active s (takeTime source body s) := by
  unfold takeTime
  split
  · exact deny_work source _ _ s
  · split
    · exact takeDate_work _ s rfl
    · rfl

/-- A building link that keeps its board within its bounds. -/
theorem setBli_preserves (s : State) {b : Bli} (board : s.bli.BoardWf → b.BoardWf) :
    Preserves s (s.setBli b) :=
  { Preserves.refl s with
    board := board
    store := fun h => ⟨h.1, h.2, h.3, h.4, h.5, h.6, h.7⟩
    tables := fun h => ⟨h.1, h.2, h.3⟩ }

/-- An answer placed preserves every invariant (R156). -/
theorem placeAnswer_preserves (dest : Byte) (a : Answering) (s : State) :
    Preserves s (placeAnswer dest a s) := by
  refine setBli_preserves s fun wf => ?_
  split
  · exact Bli.BoardWf.arbitrate wf
  · exact wf

/-- A taken REQUEST preserves every invariant (R171). -/
theorem takeRequest_preserves (source : Byte) (body : List Byte) (s : State) :
    Preserves s (takeRequest source body s) := by
  unfold takeRequest
  split
  · exact placeAnswer_preserves ..
  · split
    · exact (handleRequest_preserves _ source _ s).trans (placeAnswer_preserves ..)
    · exact placeAnswer_preserves ..

/-- The work of the block that answers a taken message preserves every invariant (R156). -/
theorem dispatch_preserves (m : Message) (s : State) : Preserves s (dispatch m s) := by
  unfold dispatch
  split
  · exact (takeCommand_work m.source m.body s).preserves.trans (placeAnswer_preserves ..)
  · split
    · exact (takeTime_work m.source m.body s).preserves
    · split
      · exact takeRequest_preserves m.source m.body s
      · exact placeAnswer_preserves ..

/-- A message held or let go leaves the board. -/
theorem setHolding_preserves (l : List Message) (s : State) :
    Preserves s (s.setBli { s.bli with holding := l }) :=
  setBli_preserves s id

/-- Taking the oldest message preserves every invariant (R155). -/
theorem takeHead_preserves (s : State) : Preserves s (takeHead s) := by
  unfold takeHead
  split
  · rfl
  · next m rest _ =>
    exact (setHolding_preserves rest s).trans
      ((dispatch_preserves m _).trans (arbitrate_work _).preserves)

/-- Taking messages preserves every invariant (R155). -/
theorem takeUpTo_preserves (fuel : Nat) (s : State) : Preserves s (takeUpTo fuel s) := by
  induction fuel generalizing s with
  | zero => rfl
  | succ fuel ih =>
    unfold takeUpTo
    split
    · exact (takeHead_preserves s).trans (ih _)
    · rfl

/-- A message's arrival in the holding buffer preserves every invariant (R154). -/
theorem arrive_preserves (m : Message) (s : State) : Preserves s (arrive m s) := by
  have offered : Preserves s (offer m s) := by
    unfold offer
    split
    · exact setHolding_preserves _ s
    · exact (post_work _ s).preserves
  exact offered.trans (takeUpTo_preserves _ _)

/-- The COMMISSION pin's level is no block's. -/
theorem setCommission_preserves (level : Bool) (s : State) :
    Preserves s (setCommission level s) :=
  (Keeps.setPins (t := s.tbu.active) s _).preserves

/-- The arrival of a whole message preserves every invariant (R154). -/
theorem messageArrives_preserves (o : Origin) (kind : Byte) (body : List Byte) (s : State) :
    Preserves s (messageArrives o kind body s) := by
  unfold messageArrives
  simp only
  split
  · exact setCommission_preserves _ s
  · exact ((setCommission_preserves _ s).trans (arrive_preserves _ _)).finish

/-! ## Characters and transmissions -/

/-- A receiver's state and frame leave the board (R152). -/
theorem setFrame_preserves (rx : RxState) (frame : List Byte) (s : State) :
    Preserves s (s.setBli { s.bli with rx := rx, frame := frame }) :=
  setBli_preserves s id

/-- A broken frame preserves every invariant (R152). -/
theorem breakFrame_preserves (s : State) : Preserves s (breakFrame s) :=
  (setFrame_preserves .hunting [] s).trans (post_work _ _).preserves

/-- A complete frame preserves every invariant (R153). -/
theorem frameComplete_preserves (cs : List Byte) (s : State) :
    Preserves s (frameComplete cs s) := by
  unfold frameComplete
  simp only
  refine (setFrame_preserves .hunting [] s).trans ?_
  split
  · exact (post_work _ _).preserves
  · split
    · rfl
    · exact arrive_preserves _ _

/-- A character received preserves every invariant (R152). -/
theorem receive_preserves (framed : Bool) (c : Byte) (s : State) :
    Preserves s (receive framed c s) := by
  unfold receive
  split
  · rfl
  · split
    · exact setFrame_preserves .inFrame [] s
    · rfl
  · split
    · simp only [takeFrameCharacter]
      split
      · exact breakFrame_preserves s
      · split
        · exact frameComplete_preserves _ s
        · exact setFrame_preserves _ _ s
    · exact breakFrame_preserves s

end Sys2Proof.Machine

/-! PROOFS. The invariants across the Fieldline Controller's events, resets, start-up and the
completion of store writes; and how any event's outcome follows from the state before it. -/

namespace Sys2Proof.Machine

open Sys2Proof Host

variable {t : Tables} {s u v : State}

/-! ## The FLC's own events -/

/-- The FLC of a slot in progress that does not drive the line (R13, R14, R15, R17). -/
theorem Flc.Coherent.of_phase {f g : Flc} (h : f.Coherent) (busy : f.phase.isSome = true) {p : Phase}
    (phase : g.phase = some p) (state : g.state = f.state) (slot : g.slot = f.slot)
    (timer : g.timer = f.timer) (count : g.slotCount = f.slotCount) (quiet : p ≠ .calling)
    (released : g.driverEnable = false) (fits : g.answer.length ≤ 6)
    (window : p = .window → g.answer = []) (receiving : p = .receiving → g.answer.length < 6) :
    g.Coherent where
  phase_in_slot := by rw [phase, state]; simpa using h.phase_in_slot.mp busy
  slot_in_slot := by rw [slot, state]; exact h.slot_in_slot
  timer_runs := by rw [timer, state]; exact h.timer_runs
  count_present := by rw [count, state]; exact h.count_present
  answer_fits := fits
  answer_not_begun := by rw [phase]; simpa [quiet] using window
  answer_open := by rw [phase]; simpa using receiving
  line_driven := by
    rw [released, Flc.drives, phase, state, h.phase_in_slot.mp busy]
    simp [quiet]

/-- The line is released in a slot that does not call (R13). -/
theorem Flc.Coherent.released {f : Flc} (h : f.Coherent) {p : Phase} (phase : f.phase = some p)
    (quiet : p ≠ .calling) : f.driverEnable = false := by
  have state : f.state = .slot := h.phase_in_slot.mp (by simp [phase])
  rw [h.line_driven, Flc.drives, phase, state]
  simp [quiet]

/-- A slot's outcome settled leaves the FLC coherent (R13 to R15, R17). -/
theorem Flc.Coherent.settle {f : Flc} (h : f.Coherent) {p : Phase} (phase : f.phase = some p)
    (quiet : p ≠ .calling) (o : SlotOutcome) : (f.settle o).Coherent :=
  h.of_phase (by simp [phase]) (p := .ignoring) rfl rfl rfl rfl rfl (by simp)
    (h.released phase quiet) h.answer_fits (by simp) (by simp)

/-- The end of a mark leaves the FLC coherent (R7). -/
theorem Flc.Coherent.beginHeader {f : Flc} (h : f.Coherent) (mark : f.state = .mark) :
    f.beginHeader.Coherent where
  phase_in_slot := by
    have := h.phase_in_slot
    simpa [Flc.beginHeader, mark] using this
  slot_in_slot := by
    have := h.slot_in_slot
    simpa [Flc.beginHeader, mark] using this
  timer_runs := by
    have := h.timer_runs
    simpa [Flc.beginHeader, mark] using this
  count_present := by
    have := h.count_present
    simpa [Flc.beginHeader, mark] using this
  answer_fits := h.answer_fits
  answer_not_begun := h.answer_not_begun
  answer_open := h.answer_open
  line_driven := by
    have := h.line_driven
    simpa [Flc.beginHeader, Flc.drives, mark] using this

/-- A character of the answer leaves the FLC coherent (R15). -/
theorem Flc.Coherent.takeCharacter {f : Flc} (h : f.Coherent) (receiving : f.phase = some .receiving)
    (t : Tables) (c : Byte) : (f.takeCharacter t c).Coherent := by
  have open' := h.answer_open receiving
  have released := h.released receiving (by simp)
  unfold Flc.takeCharacter
  simp only
  split
  · next six =>
    have six' : (f.answer ++ [c]).length = 6 := six
    unfold Flc.complete
    split
    · exact h.of_phase (by simp [receiving]) (p := .guard) rfl rfl rfl rfl rfl (by simp) released
        six'.le (by simp) (by simp)
    · exact h
  · next notSix =>
    have short : (f.answer ++ [c]).length < 6 := by
      have : (f.answer ++ [c]).length ≠ 6 := notSix
      simp only [List.length_append, List.length_singleton] at this ⊢
      omega
    exact h.of_phase (by simp [receiving]) receiving rfl rfl rfl rfl (by simp) released short.le
      (by simp) (fun _ => short)

/-- An event of the FLC alone, ended. -/
theorem setFlc_preserves {f : Flc} (stopped : f.state = .stopped ↔ s.flc.state = .stopped)
    (coherent : s.flc.Coherent → f.Coherent) : Preserves s (finish (s.setFlc f)) :=
  (Keeps.setFlc (t := s.tbu.active) s stopped coherent).preserves.finish

/-- The timer's second (R4). -/
theorem tick_preserves (s : State) : Preserves s (tick s) := by
  refine Keeps.preserves (u := tick s) (Keeps.setFlc s Iff.rfl fun h => ?_)
  exact ⟨h.phase_in_slot, h.slot_in_slot, by simpa using h.timer_runs, h.count_present,
    h.answer_fits, h.answer_not_begun, h.answer_open, h.line_driven⟩

/-! ## The completion of store writes (R48, R197) -/

/-- The store's contents are no block's. -/
theorem setStore_preserves (s : State) (x : Store) : Preserves s (s.setStore x) :=
  { Preserves.refl s with
    store := fun h => (State.storeCoherent_iff _).mpr (s.storeCoherent_iff.mp h)
    tables := fun h => h.congr rfl Iff.rfl rfl rfl }

/-- The image in the store replaced. -/
theorem putImage_preserves (item : StoredItem Tables) (s : State) :
    Preserves s (putImage item s) := setStore_preserves s _

/-- A record in the store replaced. -/
theorem putRecord_preserves (a : Fin 64) (item : StoredItem AccountItem) (s : State) :
    Preserves s (putRecord a item s) := setStore_preserves s _

/-- While a commit is STORING no swap cycle stands. -/
theorem StoreAgrees.no_cycle {c : CommitState} {x : Option Half} {n : Nvs}
    (h : StoreAgrees c x n) (storing : (n.pendingConfig || n.writesConfig) = true) : x = none := by
  have commit := h.storing.mpr storing
  have cycle := h.swap_cycle
  rw [commit] at cycle
  simpa using cycle

/-- A configuration write in progress is the one thing stored for the configuration. -/
theorem StoreAgrees.writing {c : CommitState} {x : Option Half} {n : Nvs}
    (h : StoreAgrees c x n) {image : Tables} (write : n.write = some (.config image)) :
    x = none ∧ n.pendingConfig = false := by
  have writes : n.writesConfig = true := by simp [Nvs.writesConfig, write]
  refine ⟨h.no_cycle (by simp [writes]), ?_⟩
  have both := h.not_both
  simpa [writes] using both

/-- The store controller once a write has ended well (R197). -/
def Nvs.freed (n : Nvs) : Nvs := { n with state := .idle, write := none }

/-- The store controller once a write has failed (R197). -/
def Nvs.fails (n : Nvs) : Nvs :=
  { n with
    state := .failed, pendingConfig := false, pendingAccounts := Tab.fill 64 false, write := none }

theorem writeAgrees_eq (s : State) : writeAgrees s = serveStore (s.setNvs s.nvs.freed) := rfl

theorem writeFails_eq (s : State) : writeFails s = post .storeFault (s.setNvs s.nvs.fails) := rfl

/-- The part with its commit IDLE and another store controller's state. -/
def State.endWrite (n : Nvs) (s : State) : State :=
  (s.setTbu { s.tbu with commit := .idle }).setNvs n

/-- A commit that ends well: the post, then the store's next choice (R48, R197). -/
theorem writeAgrees_endCommit (f : CommitField) (s : State) :
    writeAgrees (endCommit f s) = serveStore (post (.commit f) (s.endWrite s.nvs.freed)) := rfl

/-- A commit that ends with its store FAILED: the two posts (R48, R197). -/
theorem endCommit_writeFails (f : CommitField) (s : State) :
    endCommit f (writeFails s)
      = post (.commit f) (post .storeFault (s.endWrite s.nvs.fails)) := rfl

/-- The store controller's state moved in agreement with the commit state. -/
theorem setNvs_preserves {n : Nvs} (start : n.start = s.nvs.start)
    (reading : n.reading = s.nvs.reading)
    (store : StoreAgrees s.tbu.commit s.tbu.swapCycle s.nvs →
      StoreAgrees s.tbu.commit s.tbu.swapCycle n) : Preserves s (s.setNvs n) :=
  { Preserves.refl s with
    start := start
    reading := reading
    store := fun h => (State.storeCoherent_iff _).mpr (store (s.storeCoherent_iff.mp h))
    tables := fun h => h.congr rfl Iff.rfl start reading }

/-- The end of a commit with the store controller's state moved (R48). -/
theorem endWrite_preserves {n : Nvs} (start : n.start = s.nvs.start)
    (reading : n.reading = s.nvs.reading)
    (store : s.StoreCoherent → StoreAgrees .idle s.tbu.swapCycle n) :
    Preserves s (s.endWrite n) :=
  { Preserves.refl s with
    start := start
    reading := reading
    store := fun h => (State.storeCoherent_iff _).mpr (store h)
    tables := fun h => ⟨h.cycling, fun e => by simp [State.endWrite] at e,
      fun starting read => h.loaded (start ▸ starting) (reading ▸ read)⟩ }

/-- A freed store that owes no configuration agrees with an IDLE commit. -/
theorem StoreAgrees.freed {n : Nvs} (owed : n.pendingConfig = false) :
    StoreAgrees .idle none n.freed :=
  ⟨by simp, by simp [Nvs.freed, owed, Nvs.writesConfig], by simp [Nvs.freed, owed],
    by simp [Nvs.freed, Nvs.writesConfig], by simp [Nvs.freed, Nvs.writesRecord],
    by simp [Nvs.freed], by simp [Nvs.freed]⟩

/-- A FAILED store agrees with an IDLE commit. -/
theorem StoreAgrees.fails (n : Nvs) : StoreAgrees .idle none n.fails :=
  ⟨by simp, by simp [Nvs.fails, Nvs.writesConfig], by simp [Nvs.fails],
    by simp [Nvs.fails, Nvs.writesConfig], by simp [Nvs.fails, Nvs.writesRecord], fun _ => rfl,
    fun _ => rfl⟩

/-- CONFIGURATION_WRITE_COMPLETE preserves every invariant (R48, R197). -/
theorem configurationWrite_preserves {image : Tables} (write : s.nvs.write = some (.config image))
    (verify : VerifyRead Tables) :
    ∃ u, execConfigurationWriteComplete verify s = .next u ∧ Preserves s u := by
  have quiet (item : StoredItem Tables) (h : (putImage item s).StoreCoherent) :
      (putImage item s).tbu.swapCycle = none ∧ (putImage item s).nvs.pendingConfig = false :=
    ((State.storeCoherent_iff _).mp h).writing write
  unfold execConfigurationWriteComplete
  simp only [write]
  cases verify with
  | agrees =>
    refine ⟨_, rfl, Preserves.finish ?_⟩
    rw [writeAgrees_endCommit]
    refine (putImage_preserves (imageItem image) s).trans (Preserves.trans ?_
      ((post_work _ _).trans (serveStore_work _)).preserves)
    refine endWrite_preserves rfl rfl fun h => ?_
    obtain ⟨cycle, owed⟩ := quiet _ h
    rw [cycle]
    exact .freed owed
  | disagrees left =>
    refine ⟨_, rfl, Preserves.finish ?_⟩
    rw [endCommit_writeFails]
    refine (putImage_preserves left s).trans (Preserves.trans ?_
      ((post_work _ _).trans (post_work _ _)).preserves)
    refine endWrite_preserves rfl rfl fun h => ?_
    rw [(quiet _ h).1]
    exact .fails _

/-- A record write in progress is no configuration write. -/
theorem StoreAgrees.writing_record {c : CommitState} {x : Option Half} {n : Nvs}
    (h : StoreAgrees c x n) {a : Fin 64} {item : AccountItem}
    (write : n.write = some (.record a item)) : c = .storing ↔ n.pendingConfig = true := by
  have storing := h.storing
  simpa [Nvs.writesConfig, write] using storing

/-- A failed record write preserves every invariant (R48, R197). -/
theorem recordWriteFails_preserves {a : Fin 64} {item : AccountItem}
    (write : s.nvs.write = some (.record a item)) : Preserves s (recordWriteFails s) := by
  unfold recordWriteFails
  split
  · next owed =>
    rw [endCommit_writeFails]
    refine Preserves.trans ?_ ((post_work _ _).trans (post_work _ _)).preserves
    refine endWrite_preserves rfl rfl fun h => ?_
    rw [(s.storeCoherent_iff.mp h).no_cycle (by simp [owed])]
    exact .fails _
  · next free =>
    rw [writeFails_eq]
    refine Preserves.trans ?_ (post_work _ _).preserves
    refine setNvs_preserves rfl rfl fun h => ?_
    have storing := (h.writing_record write).not.mpr free
    have fails := StoreAgrees.fails s.nvs
    exact ⟨h.swap_cycle, by simp [storing, Nvs.fails, Nvs.writesConfig], fails.not_both,
      fails.config_state, fails.record_state, fails.failed_config, fails.failed_accounts⟩

/-- ACCOUNT_RECORD_WRITE_COMPLETE preserves every invariant (R48, R197). -/
theorem recordWrite_preserves {a : Fin 64} {item : AccountItem}
    (write : s.nvs.write = some (.record a item)) (verify : VerifyRead AccountItem) :
    ∃ u, execAccountRecordWriteComplete verify s = .next u ∧ Preserves s u := by
  unfold execAccountRecordWriteComplete
  simp only [write]
  cases verify with
  | agrees =>
    refine ⟨_, rfl, Preserves.finish ?_⟩
    rw [writeAgrees_eq]
    refine (putRecord_preserves a (recordItem item) s).trans (Preserves.trans ?_
      (serveStore_work _).preserves)
    refine setNvs_preserves rfl rfl fun h => ?_
    have storing := h.writing_record write
    exact ⟨h.swap_cycle, by simpa [Nvs.freed, Nvs.writesConfig] using storing,
      by simp [Nvs.freed, Nvs.writesConfig], by simp [Nvs.freed, Nvs.writesConfig],
      by simp [Nvs.freed, Nvs.writesRecord], by simp [Nvs.freed], by simp [Nvs.freed]⟩
  | disagrees left =>
    exact ⟨_, rfl, ((putRecord_preserves a left s).trans
      (recordWriteFails_preserves write)).finish⟩

end Sys2Proof.Machine

/-! PROOFS. How the outcome of any event follows from the state before it: every invariant preserved,
a reset, or one of the steps of start-up. -/

namespace Sys2Proof.Machine

open Sys2Proof Host

variable {t : Tables} {s u v : State}

/-- How the outcome of an event stands to the state before it: a reset (R198), a step of start-up
(R199 to R201), or an event that preserves every invariant. -/
inductive Follows (s : State) : State → Prop
  | preserved {u : State} (h : Preserves s u) : Follows s u
  | reset (cause : ResetCause) (pins : Pins) (store : Store) (schedule : List Order)
      (pending : List Instr) : Follows s (.afterReset cause pins store schedule pending)
  | imageRead (starts : s.startsUp = true) (t : Tables) (valid : validImage s.store.image = some t) :
      Follows s (finish ((loadTables t s).setNvs { s.nvs with reading := .record 0 }))
  | fallback (starts : s.startsUp = true) (addr : BitVec 4) :
      Follows s (finish (enterFallback addr s))
  | recordRead (starts : s.startsUp = true) (j k : Fin 64) (reading : s.nvs.reading = .record j) :
      Follows s (finish (s.setNvs { s.nvs with reading := .record k }))
  | running (starts : s.startsUp = true) (addr : BitVec 4) (j : Fin 64)
      (reading : s.nvs.reading = .record j) : Follows s (finish (enterRunning addr s))

/-- An outcome that is a next state which follows from the state before. -/
def Goes (s : State) (o : Outcome State Fault Refusal) : Prop := ∃ u, o = .next u ∧ Follows s u

theorem Goes.of_preserves (h : Preserves s u) : Goes s (.next u) := ⟨u, rfl, .preserved h⟩

/-- An event that falls only in some states (assumption log 2). -/
theorem Goes.ite {c : Prop} [Decidable c] (h : c → Preserves s u) :
    Goes s (if c then .next u else .next s) := by
  split
  · next holds => exact .of_preserves (h holds)
  · exact .of_preserves (.refl s)

/-! ## Resets and start-up -/

theorem pinReset_goes (s : State) : Goes s (execPinReset s) := by
  unfold execPinReset
  split
  · exact .of_preserves (.refl s)
  · exact ⟨_, rfl, .reset ..⟩

theorem restartReset_goes (s : State) : Goes s (execRestartReset s) := by
  unfold execRestartReset
  split
  · exact ⟨_, rfl, .reset ..⟩
  · exact .of_preserves (.refl s)

theorem configurationImageRead_goes (addr : BitVec 4) (s : State) :
    Goes s (execConfigurationImageRead addr s) := by
  unfold execConfigurationImageRead
  split
  · next starts =>
    split
    · next t valid => exact ⟨_, rfl, .imageRead starts.1 t valid⟩
    · exact ⟨_, rfl, .fallback starts.1 addr⟩
  · exact .of_preserves (.refl s)

theorem accountRecordRead_goes (addr : BitVec 4) (s : State) :
    Goes s (execAccountRecordRead addr s) := by
  unfold execAccountRecordRead
  split
  · next starts =>
    split
    · next j reading =>
      split
      · next k _ => exact ⟨_, rfl, .recordRead starts j k reading⟩
      · exact ⟨_, rfl, .running starts addr j reading⟩
    · exact .of_preserves (.refl s)
  · exact .of_preserves (.refl s)

/-! ## Events of the fieldline -/

theorem cycleTimerExpiry_goes (s : State) : Goes s (execCycleTimerExpiry s) :=
  .ite fun closed => setFlc_preserves (by simp [Flc.beginMark, closed]) fun h => h.beginMark _ _

theorem markEnd_goes (s : State) : Goes s (execMarkEnd s) :=
  .ite fun mark => setFlc_preserves (by simp [Flc.beginHeader, mark]) fun h => h.beginHeader mark

theorem headerEnd_goes (s : State) : Goes s (execHeaderEnd s) :=
  .ite fun header => (slotStart_work 0 s (by simp [header])).preserves.finish

theorem collided_goes (s : State) : Goes s (execCollided s) :=
  .ite fun calling => setFlc_preserves Iff.rfl fun h =>
    h.of_phase (by simp [calling]) (p := .ignoring) rfl rfl rfl rfl rfl (by simp) rfl h.answer_fits
      (by simp) (by simp)

theorem callComplete_goes (s : State) : Goes s (execCallComplete s) :=
  .ite fun calling => setFlc_preserves Iff.rfl fun h =>
    h.of_phase (by simp [calling]) (p := .window) rfl rfl rfl rfl rfl (by simp) rfl h.answer_fits
      (fun _ => h.answer_not_begun (.inl calling)) (by simp)

theorem answerWindowExpiry_goes (s : State) : Goes s (execAnswerWindowExpiry s) :=
  .ite fun window => setFlc_preserves Iff.rfl fun h => h.settle window (by simp) _

theorem answerStart_goes (s : State) : Goes s (execAnswerStart s) :=
  .ite fun window => setFlc_preserves Iff.rfl fun h =>
    h.of_phase (by simp [window]) (p := .receiving) rfl rfl rfl rfl rfl (by simp)
      (h.released window (by simp)) h.answer_fits (by simp)
      fun _ => by simp [h.answer_not_begun (.inr window)]

/-- A character of the answer leaves the FLC in its state (R15). -/
theorem Flc.takeCharacter_state (t : Tables) (c : Byte) (f : Flc) :
    (f.takeCharacter t c).state = f.state := by
  simp only [Flc.takeCharacter, Flc.complete]
  split
  · split <;> rfl
  · rfl

theorem answerCharacter_goes (framed : Bool) (c : Byte) (s : State) :
    Goes s (execAnswerCharacter framed c s) := by
  refine .ite fun receiving => ?_
  cases framed with
  | true =>
    exact setFlc_preserves (by simp [Flc.takeCharacter_state])
      fun h => h.takeCharacter receiving _ c
  | false => exact setFlc_preserves Iff.rfl fun h => h.settle receiving (by simp) _

theorem answerBreak_goes (s : State) : Goes s (execAnswerBreak s) :=
  .ite fun broken => setFlc_preserves Iff.rfl fun h => h.settle broken.1 (by simp) _

theorem overlong_goes (s : State) : Goes s (execOverlong s) :=
  .ite fun guard => setFlc_preserves Iff.rfl fun h =>
    h.of_phase (by simp [guard]) (p := .ignoring) rfl rfl rfl rfl rfl (by simp)
      (h.released guard (by simp)) (by simp) (by simp) (by simp)

theorem fieldNoise_goes (s : State) : Goes s (execFieldNoise s) := by
  unfold execFieldNoise
  split
  · next k _ =>
    refine .ite fun _ => Keeps.preserves (.trans ?_ (post_work _ _)) |>.finish
    exact Keeps.setFlc s Iff.rfl fun h => ⟨h.phase_in_slot, h.slot_in_slot, h.timer_runs,
      h.count_present, h.answer_fits, h.answer_not_begun, h.answer_open, h.line_driven⟩
  · exact .of_preserves (.refl s)

theorem slotEnd_goes (s : State) : Goes s (execSlotEnd s) := by
  unfold execSlotEnd
  split
  · next k o ends => exact .of_preserves (slotEnd_preserves ends)
  · exact .of_preserves (.refl s)

theorem slotEndWhen_goes (reached : Fin 48 → SlotOutcome → State → Bool) (s : State) :
    Goes s (.next (slotEndWhen reached s)) := .of_preserves (slotEndWhen_preserves reached s)

/-! ## Events of the store and the link -/

theorem configurationWriteComplete_goes (verify : VerifyRead Tables) (s : State) :
    Goes s (execConfigurationWriteComplete verify s) := by
  cases write : s.nvs.write with
  | none => exact ⟨s, by simp [execConfigurationWriteComplete, write], .preserved (.refl s)⟩
  | some w =>
    cases w with
    | config image =>
      obtain ⟨u, run, kept⟩ := configurationWrite_preserves write verify
      exact ⟨u, run, .preserved kept⟩
    | record a item =>
      exact ⟨s, by simp [execConfigurationWriteComplete, write], .preserved (.refl s)⟩

theorem accountRecordWriteComplete_goes (verify : VerifyRead AccountItem) (s : State) :
    Goes s (execAccountRecordWriteComplete verify s) := by
  cases write : s.nvs.write with
  | none => exact ⟨s, by simp [execAccountRecordWriteComplete, write], .preserved (.refl s)⟩
  | some w =>
    cases w with
    | config image =>
      exact ⟨s, by simp [execAccountRecordWriteComplete, write], .preserved (.refl s)⟩
    | record a item =>
      obtain ⟨u, run, kept⟩ := recordWrite_preserves write verify
      exact ⟨u, run, .preserved kept⟩

/-- The transmitter's end leaves the board (R166). -/
theorem endTransmission_preserves (m : OutMsg) (s : State) :
    Preserves s (endTransmission m s) := setBli_preserves s id

theorem transmissionEnd_goes (level : Bool) (s : State) :
    Goes s (execTransmissionEnd level s) := by
  unfold execTransmissionEnd
  split
  · next m _ =>
    refine .of_preserves (Preserves.finish ?_)
    exact (setCommission_preserves level s).trans ((endTransmission_preserves m _).trans
      ((arbitrate_work _).preserves.trans (takeUpTo_preserves _ _)))
  · exact .of_preserves (setCommission_preserves level s)

/-! ## Every event -/

/-- Every command answers a next state, which follows from the state before. -/
theorem exec_goes (i : Instr) (s : State) : Goes s (exec i s) := by
  cases arrives : arrivalOf i with
  | some m =>
    obtain ⟨o, kind, body⟩ := m
    rw [Laws.exec_arrival s arrives]
    exact .of_preserves (messageArrives_preserves o kind body s)
  | none =>
    cases i <;> simp only [arrivalOf, reduceCtorEq] at arrives
    case powerReset => exact ⟨_, rfl, .reset ..⟩
    case pinReset => exact pinReset_goes s
    case pinResetRelease =>
      exact .ite fun _ => (Keeps.setPins (t := s.tbu.active) s _).preserves.finish
    case restartReset => exact restartReset_goes s
    case configurationImageRead addr => exact configurationImageRead_goes addr s
    case accountRecordRead addr => exact accountRecordRead_goes addr s
    case cycleTimerExpiry => exact cycleTimerExpiry_goes s
    case markEnd => exact markEnd_goes s
    case headerEnd => exact headerEnd_goes s
    case collided => exact collided_goes s
    case callComplete => exact callComplete_goes s
    case answerWindowExpiry => exact answerWindowExpiry_goes s
    case answerStart => exact answerStart_goes s
    case answerCharacter framed c => exact answerCharacter_goes framed c s
    case answerBreak => exact answerBreak_goes s
    case overlong => exact overlong_goes s
    case fieldNoise => exact fieldNoise_goes s
    case slotEnd => exact slotEnd_goes s
    case actuatorLost => exact slotEndWhen_goes _ s
    case sensorStale => exact slotEndWhen_goes _ s
    case dateWatchExpiry => exact slotEndWhen_goes _ s
    case checkpoint => exact slotEndWhen_goes _ s
    case vacancyHoldReached => exact slotEndWhen_goes _ s
    case holdExpiry => exact slotEndWhen_goes _ s
    case configurationWriteComplete verify => exact configurationWriteComplete_goes verify s
    case accountRecordWriteComplete verify => exact accountRecordWriteComplete_goes verify s
    case blCharacterReceived framed c level =>
      exact .of_preserves ((setCommission_preserves level s).trans (receive_preserves framed c _)).finish
    case frameGapTimeout => exact .ite fun _ => (breakFrame_preserves s).finish
    case transmissionEnd level => exact transmissionEnd_goes level s

/-- The queue is no block's. -/
theorem setPending_preserves (s : State) (l : List Instr) :
    Preserves s { s with pending := l } :=
  { Preserves.refl s with
    store := fun h => (State.storeCoherent_iff _).mpr (s.storeCoherent_iff.mp h)
    tables := fun h => h.congr rfl Iff.rfl rfl rfl }

/-- The outcome of a step follows from the state before it, the command taken from the queue. -/
theorem step_follows (h : step s = .next u) :
    Preserves s u ∨ ∃ l, Follows { s with pending := l } u := by
  unfold step at h
  split at h
  · cases h
    exact .inl (tick_preserves s)
  · next c rest _ =>
    obtain ⟨v, run, follows⟩ := exec_goes c { s with pending := rest }
    rw [run] at h
    cases h
    exact .inr ⟨rest, follows⟩

/-- A predicate that every kind of outcome keeps, from a state that meets a condition. -/
structure KeptBy (C P : State → Prop) : Prop where
  queue : ∀ s l, C s → C { s with pending := l }
  preserved : ∀ s u, C s → P s → Preserves s u → P u
  reset : ∀ cause pins store schedule pending,
    P (.afterReset cause pins store schedule pending)
  imageRead : ∀ s t, C s → P s → s.startsUp = true → validImage s.store.image = some t →
    P (finish ((loadTables t s).setNvs { s.nvs with reading := .record 0 }))
  fallback : ∀ s addr, C s → P s → s.startsUp = true → P (finish (enterFallback addr s))
  recordRead : ∀ s (j k : Fin 64), C s → P s → s.startsUp = true → s.nvs.reading = .record j →
    P (finish (s.setNvs { s.nvs with reading := .record k }))
  running : ∀ s addr (j : Fin 64), C s → P s → s.startsUp = true → s.nvs.reading = .record j →
    P (finish (enterRunning addr s))

/-- A predicate that every kind of outcome keeps is kept by an outcome that follows. -/
theorem KeptBy.follows {C P : State → Prop} (k : KeptBy C P) (c : C s) (p : P s)
    (h : Follows s u) : P u := by
  cases h with
  | preserved h => exact k.preserved s u c p h
  | reset => exact k.reset ..
  | imageRead starts t valid => exact k.imageRead s t c p starts valid
  | fallback starts addr => exact k.fallback s addr c p starts
  | recordRead starts j l reading => exact k.recordRead s j l c p starts reading
  | running starts addr j reading => exact k.running s addr j c p starts reading

/-- A predicate that every kind of outcome keeps is kept by every step. -/
theorem KeptBy.step {C P : State → Prop} (k : KeptBy C P) (c : C s) (p : P s)
    (run : Machine.step s = .next u) : P u := by
  rcases step_follows run with kept | ⟨l, follows⟩
  · exact k.preserved s u c p kept
  · exact k.follows (k.queue s l c)
      (k.preserved s _ c p (setPending_preserves s l)) follows

end Sys2Proof.Machine

/-! PROOFS. The invariants at a reset and across start-up, and the invariants that every step keeps. -/

namespace Sys2Proof.Machine

open Sys2Proof Host

variable {t : Tables} {s u v : State}

/-! ## The blank tables and the reset values -/

/-- No zone of the blank tables is enabled (R35). -/
@[simp] theorem Tables.zoneEnabled_blank (z : Fin 16) : Tables.blank.zoneEnabled z = false := by
  simp [Tables.zoneEnabled, Tables.blank, ZoneRec.isEnabled]

/-- No account of the blank tables is enabled (R35). -/
@[simp] theorem Tables.accountEnabled_blank (a : Fin 64) :
    Tables.blank.accountEnabled a = false := by
  simp [Tables.accountEnabled, Tables.blank, AccountRec.isEnabled]

/-- No slot of the blank tables senses or acts (R35). -/
@[simp] theorem Tables.slots_blank (k : Fin 48) :
    (Tables.blank.slots.get k).sensorQuantity = none
      ∧ (Tables.blank.slots.get k).actuatorKind = none := by
  simp [Tables.blank, SlotRec.sensorQuantity, SlotRec.actuatorKind, SlotRec.isSensor,
    SlotRec.isActuator]

/-- ALERT is deasserted where no entry alarms (R73). -/
theorem alertLevel_of_quiet {c : Cmu} (quiet : ∀ z q, (c.cond z q).alarms = false) (t : Tables) :
    alertLevel t c = false := by
  simp [alertLevel, quiet]

/-- Every entry of the reset Condition Monitor is fresh (R52). -/
@[simp] theorem Cmu.cond_reset (z : Fin 16) (q : CondQ) : Cmu.reset.cond z q = .fresh := by
  cases q <;> simp [Cmu.cond, Cmu.reset, PerQ.get]

/-- A fresh entry alarms in no way (R73). -/
@[simp] theorem ZoneCond.alarms_fresh : ZoneCond.fresh.alarms = false := rfl

/-- A table without an entry is sound (R80). -/
theorem Dau.monitorsSound_of_free {d : Dau} (free : ∀ i, d.monitors.get i = .free) :
    d.MonitorsSound := by
  constructor <;> intros <;> simp_all [Monitor.entry?]

/-- The reset board is empty (R161). -/
theorem Bli.boardWf_reset : Bli.reset.BoardWf := by
  simp [Bli.BoardWf, Bli.reset, keyedCount]

/-- No account of the reset DAU has counted anything (R78). -/
theorem Dau.yearCoversToday_reset : Dau.reset.YearCoversToday := fun a => by
  simp [Dau.reset, AccountDyn.reset]

/-- No monitor of the reset DAU is held (R80). -/
theorem Dau.monitorsSound_reset : Dau.reset.MonitorsSound :=
  Dau.monitorsSound_of_free fun i => by simp [Dau.reset]

/-- The reset FLC is coherent (R1). -/
theorem Flc.coherent_reset : Flc.reset.Coherent := by
  constructor <;> simp [Flc.reset, Flc.drives]

/-- The state after a reset: ALERT is deasserted, and every invariant of one block holds (R198). -/
theorem afterReset_meets (cause : ResetCause) (pins : Pins) (store : Store)
    (schedule : List Order) (pending : List Instr) :
    let s := State.afterReset cause pins store schedule pending
    s.StartsClean ∧ s.AlertFollows ∧ s.StoreCoherent ∧ s.TablesValid := by
  refine ⟨⟨fun _ => rfl, fun _ => rfl, fun _ => rfl, fun _ => rfl, fun _ => rfl, fun _ => rfl,
    fun _ => rfl, fun _ => rfl, fun _ => ⟨rfl, rfl⟩, fun _ => rfl⟩, ?_, ?_, ?_⟩
  · exact (alertLevel_of_quiet (c := .reset) (by simp) _).symm
  · constructor <;> simp [State.afterReset, Tbu.reset, Nvs.reset, Nvs.writesConfig,
      Nvs.writesRecord]
  · constructor <;> simp [State.afterReset, Flc.reset, Tbu.reset, Nvs.reset]

/-- Settles O10: the reset values, block by block. -/
theorem resetMeetsEveryInvariant : Obligations.ResetMeetsEveryInvariant := by
  unfold Obligations.ResetMeetsEveryInvariant
  obtain ⟨clean, alert, store, tables⟩ :=
    afterReset_meets .power ⟨false, 0#4, false⟩ Store.unwritten [] []
  exact ⟨Bli.boardWf_reset, Dau.yearCoversToday_reset, Flc.coherent_reset, clean, alert,
    fun started => absurd rfl started, store, Dau.monitorsSound_reset, tables,
    fun started => absurd rfl started, fun started => absurd rfl started⟩

/-! ## The end of start-up -/

/-- The store controller at the end of start-up (R199, R202). -/
def Nvs.started (outcome : StartState) (n : Nvs) : Nvs :=
  { n with start := outcome, cause := none }

@[simp] theorem announceStart_nvs (outcome : StartState) (s : State) :
    (announceStart outcome s).nvs = s.nvs.started outcome := by
  simp [announceStart, Nvs.started]

@[simp] theorem enterFallback_nvs (addr : BitVec 4) (s : State) :
    (enterFallback addr s).nvs = s.nvs.started .fallback := by
  simp [enterFallback]

@[simp] theorem enterFallback_tbu (addr : BitVec 4) (s : State) :
    (enterFallback addr s).tbu = { s.tbu with active := .blank, staged := .blank } := by
  simp [enterFallback, loadTables]

@[simp] theorem enterRunning_nvs (addr : BitVec 4) (s : State) :
    (enterRunning addr s).nvs = s.nvs.started .running := by
  simp [enterRunning, startCycling]

@[simp] theorem enterRunning_flc (addr : BitVec 4) (s : State) :
    (enterRunning addr s).flc = s.flc.beginMark s.tbu.active 0#16 := by
  simp [enterRunning, startCycling]

@[simp] theorem enterRunning_cmu (addr : BitVec 4) (s : State) :
    (enterRunning addr s).cmu = cmuAtStart s.tbu.active := by
  simp [enterRunning, startCycling]

@[simp] theorem enterRunning_cgu (addr : BitVec 4) (s : State) :
    (enterRunning addr s).cgu = cguAtStart s.tbu.active := by
  simp [enterRunning, startCycling]

@[simp] theorem enterRunning_dau (addr : BitVec 4) (s : State) :
    (enterRunning addr s).dau = restoredDau s.tbu.active s.store.records := by
  simp [enterRunning, startCycling, restoreAccounts]

/-- The ceilings at the end of start-up are those of a recomputation, with no post (R121). -/
@[simp] theorem enterRunning_zcu (addr : BitVec 4) (s : State) :
    (enterRunning addr s).zcu
      = s.zcu.recomputed s.tbu.active (restoredDau s.tbu.active s.store.records) := by
  simp [enterRunning, startCycling, restoreAccounts, ceilingsAtStart, Zcu.recomputed]

/-- A held post keeps the board within its bounds (R162). -/
theorem postHeld_board (n : Notice) (h : s.bli.BoardWf) : (postHeld n s).bli.BoardWf := by
  rw [postHeld_keeps]
  exact h.post _ n

/-- Held posts keep the board within its bounds (R162). -/
theorem postAllHeld_board (ns : List Notice) (h : s.bli.BoardWf) :
    (postAllHeld ns s).bli.BoardWf := by
  unfold postAllHeld
  induction ns generalizing s with
  | nil => exact h
  | cons n ns ih => exact ih (postHeld_board n h)

theorem enterFallback_board (addr : BitVec 4) (h : s.bli.BoardWf) :
    (enterFallback addr s).bli.BoardWf := by
  have started : (announceStart .fallback (loadTables .blank s)).bli.BoardWf :=
    postHeld_board (s := (loadTables .blank s).setNvs _) _ h
  exact started

theorem enterRunning_board (addr : BitVec 4) (h : s.bli.BoardWf) :
    (enterRunning addr s).bli.BoardWf := by
  have started : (announceStart .running s).bli.BoardWf := postHeld_board (s := s.setNvs _) _ h
  have restored : (restoreAccounts (announceStart .running s)).bli.BoardWf := by
    unfold restoreAccounts
    exact postAllHeld_board _ (postAllHeld_board (s := (announceStart .running s).setDau _) _ started)
  exact restored

/-! ## Restore (R101 to R103) -/

/-- An account restored or charged as spent stands, where it is enabled (R85, R102, R103). -/
theorem accountAtStart_stands (t : Tables) (records : Tab (StoredItem AccountItem) 64)
    (a : Fin 64) : (accountAtStart t records a).Stands (t.accounts.get a) := by
  unfold accountAtStart
  split
  · next enabled =>
    split
    · exact AccountDyn.evaluate_stands enabled _
    · exact AccountDyn.evaluate_stands enabled _
  · next disabled =>
    rw [AccountDyn.Stands, if_neg (show ¬ (t.accounts.get a).isEnabled = true from disabled)]
    rfl

/-- A valid record's counts, rolled to the ledger date, do not pass each other (R83, R102). -/
theorem restoredAccount_year (rec : AccountRec) (ledger : Option Date) {r : AccountItem}
    (h : r.usedToday ≤ r.usedYear) :
    (restoredAccount rec ledger r).usedToday ≤ (restoredAccount rec ledger r).usedYear := by
  simp only [restoredAccount, AccountDyn.evaluate_keeps]
  cases r.date with
  | none => simpa using h
  | some d =>
    cases ledger with
    | none => simpa using h
    | some l =>
      by_cases same : d = l
      · subst same; simpa using h
      · simp [same]

/-- No restored account's counts pass each other (R83). -/
theorem accountAtStart_year (t : Tables) (records : Tab (StoredItem AccountItem) 64)
    (a : Fin 64) :
    (accountAtStart t records a).usedToday ≤ (accountAtStart t records a).usedYear := by
  unfold accountAtStart
  split
  · split
    · next r valid =>
      exact restoredAccount_year _ _ ((validRecord_eq_some_iff a _ r).mp valid).2.2.1
    · simp [condemnedAccount]
  · simp [AccountDyn.reset]

theorem restoredDau_accounts (t : Tables) (records : Tab (StoredItem AccountItem) 64) :
    (restoredDau t records).YearCoversToday ∧ (restoredDau t records).AccountsStand t
      ∧ (restoredDau t records).MonitorsSound :=
  ⟨fun a => by simpa [restoredDau] using accountAtStart_year t records a,
    fun a => by simpa [restoredDau] using accountAtStart_stands t records a,
    Dau.monitorsSound_of_free fun i => by simp [restoredDau, Dau.reset]⟩

end Sys2Proof.Machine

/-! PROOFS. The invariants that every step keeps (tier 3). -/

namespace Sys2Proof.Machine

open Sys2Proof Host

variable {t : Tables} {s u v : State}

/-! ## What needs no other invariant -/

/-- The board stays within its bounds at every kind of outcome (R161). -/
theorem board_kept : KeptBy (fun _ => True) fun s => s.bli.BoardWf where
  queue _ _ := id
  preserved _ _ _ h kept := kept.board h
  reset _ _ _ _ _ := Bli.boardWf_reset
  imageRead _ _ _ h _ _ := h.arbitrate
  fallback _ addr _ h _ := (enterFallback_board addr h).arbitrate
  recordRead _ _ _ _ h _ _ := h.arbitrate
  running _ addr _ _ h _ _ := (enterRunning_board addr h).arbitrate

/-- Settles O3: an invariant of every kind of outcome. -/
theorem stepKeepsBoardBounds : Obligations.StepKeepsBoardBounds := by
  unfold Obligations.StepKeepsBoardBounds
  exact fun s t h run => board_kept.step trivial h run

/-- The FLC stays coherent at every kind of outcome (R1). -/
theorem fieldline_kept : KeptBy (fun _ => True) fun s => s.flc.Coherent where
  queue _ _ := id
  preserved _ _ _ h kept := kept.fieldline h
  reset _ _ _ _ _ := Flc.coherent_reset
  imageRead _ _ _ h _ _ := h
  fallback s addr _ h _ := by simpa using h
  recordRead _ _ _ _ h _ _ := h
  running s addr _ _ h _ _ := by simpa using h.beginMark _ _

/-- Settles O5: an invariant of every kind of outcome. -/
theorem stepKeepsFieldlineCoherent : Obligations.StepKeepsFieldlineCoherent := by
  unfold Obligations.StepKeepsFieldlineCoherent
  exact fun s t h run => fieldline_kept.step trivial h run

/-- Commit state and store agree at every kind of outcome (R39, R197). -/
theorem store_kept : KeptBy (fun _ => True) fun s => s.StoreCoherent where
  queue _ _ := id
  preserved _ _ _ h kept := kept.store h
  reset _ _ _ _ _ := (afterReset_meets _ _ _ _ _).2.2.1
  imageRead s _ _ h _ _ := by
    rw [State.storeCoherent_iff] at h ⊢
    exact ⟨h.1, h.2, h.3, h.4, h.5, h.6, h.7⟩
  fallback s addr _ h _ := by
    rw [State.storeCoherent_iff] at h ⊢
    simp only [finish_frame, enterFallback_tbu, enterFallback_nvs]
    exact ⟨h.1, h.2, h.3, h.4, h.5, h.6, h.7⟩
  recordRead s _ _ _ h _ _ := by
    rw [State.storeCoherent_iff] at h ⊢
    exact ⟨h.1, h.2, h.3, h.4, h.5, h.6, h.7⟩
  running s addr _ _ h _ _ := by
    rw [State.storeCoherent_iff] at h ⊢
    simp only [finish_frame, enterRunning_frame, enterRunning_nvs]
    exact ⟨h.1, h.2, h.3, h.4, h.5, h.6, h.7⟩

/-- Settles O9: an invariant of every kind of outcome. -/
theorem stepKeepsCommitAndStoreAgreeing : Obligations.StepKeepsCommitAndStoreAgreeing := by
  unfold Obligations.StepKeepsCommitAndStoreAgreeing
  exact fun s t h run => store_kept.step trivial h run

/-- The counts of accounts stay in order at every kind of outcome (R83). -/
theorem year_kept : KeptBy (fun _ => True) fun s => s.dau.YearCoversToday where
  queue _ _ := id
  preserved _ _ _ h kept := kept.year h
  reset _ _ _ _ _ := Dau.yearCoversToday_reset
  imageRead _ _ _ h _ _ := h
  fallback s addr _ h _ := by simpa using h
  recordRead _ _ _ _ h _ _ := h
  running s addr _ _ _ _ _ := by simpa using (restoredDau_accounts _ _).1

/-- The link monitors stay sound at every kind of outcome (R80, R92). -/
theorem monitors_kept : KeptBy (fun _ => True) fun s => s.dau.MonitorsSound where
  queue _ _ := id
  preserved _ _ _ h kept := kept.monitors h
  reset _ _ _ _ _ := Dau.monitorsSound_reset
  imageRead _ _ _ h _ _ := h
  fallback s addr _ h _ := by simpa using h
  recordRead _ _ _ _ h _ _ := h
  running s addr _ _ _ _ _ := by simpa using (restoredDau_accounts _ _).2.2

/-! ## What needs a clean start-up -/

/-- A part that starts up is STARTING. -/
theorem State.startsUp_start (h : s.startsUp = true) : s.nvs.start = .starting := by
  simp only [State.startsUp, Bool.and_eq_true, beq_iff_eq] at h
  exact h.1

/-- The queue is no part of a clean start-up. -/
theorem State.StartsClean.setPending (h : s.StartsClean) (l : List Instr) :
    State.StartsClean { s with pending := l } :=
  ⟨h.1, h.2, h.3, h.4, h.5, h.6, h.7, h.8, h.9, h.10⟩

/-- Nothing alarms in a Condition Monitor at the end of start-up (R53). -/
theorem cmuAtStart_quiet (t : Tables) (z : Fin 16) (q : CondQ) :
    ((cmuAtStart t).cond z q).alarms = false := by
  have fresh : ∀ c : Coverage, ({ ZoneCond.fresh with coverage := c } : ZoneCond).alarms = false :=
    fun _ => rfl
  simp only [cmuAtStart, initialConds, Cmu.cond, Tab.get_build]
  cases q <;> simp only [PerQ.get] <;> split <;> exact fresh _

/-- ALERT has its level at every kind of outcome (R73). -/
theorem alert_kept : KeptBy State.StartsClean State.AlertFollows where
  queue _ l h := h.setPending l
  preserved _ _ _ h kept := kept.alert h
  reset _ _ _ _ _ := (afterReset_meets _ _ _ _ _).2.1
  imageRead s t clean _ starts _ := by
    have reset : s.cmu = .reset := clean.cmu (State.startsUp_start starts)
    have quiet := alertLevel_of_quiet (c := Cmu.reset) (by simp) t
    simp only [State.AlertFollows, finish_frame, State.setNvs_cmu, loadTables_frame, reset]
    exact quiet.symm
  fallback s addr clean _ starts := by
    have reset : s.cmu = .reset := clean.cmu (State.startsUp_start starts)
    have quiet := alertLevel_of_quiet (c := Cmu.reset) (by simp) Tables.blank
    simp only [State.AlertFollows, finish_frame, enterFallback_frame, enterFallback_tbu, reset]
    exact quiet.symm
  recordRead _ _ _ _ h _ _ := h
  running s addr _ _ _ _ _ := by
    have quiet := alertLevel_of_quiet (cmuAtStart_quiet s.tbu.active) s.tbu.active
    simp only [State.AlertFollows, finish_frame, enterRunning_frame, enterRunning_cmu, quiet]
    rfl

/-- Settles O7: an invariant of every kind of outcome. -/
theorem stepKeepsAlertTrue : Obligations.StepKeepsAlertTrue := by
  unfold Obligations.StepKeepsAlertTrue
  exact fun s t clean h run => alert_kept.step clean h run

/-- The ceilings stay those of the tables at every kind of outcome (R107, R115). -/
theorem ceilings_kept : KeptBy State.StartsClean State.CeilingsFollow where
  queue _ l h := h.setPending l
  preserved s u _ h kept := fun started =>
    kept.ceilings (h fun starting => started (kept.start.trans starting))
  reset _ _ _ _ _ := fun started => absurd rfl started
  imageRead s _ _ _ starts _ := fun started => absurd (State.startsUp_start starts) started
  fallback s addr clean _ starts := by
    intro _ z
    have reset : s.zcu = .reset := clean.zcu (State.startsUp_start starts)
    simp [reset, Zcu.reset, ZoneDyn.reset]
  recordRead s _ _ _ _ starts _ := fun started => absurd (State.startsUp_start starts) started
  running s addr _ clean _ starts _ := by
    rw [State.ceilingsFollow_iff]
    intro _ z
    have reset : s.zcu = .reset := clean.zcu (State.startsUp_start starts)
    simp only [finish_frame, enterRunning_frame, enterRunning_zcu, Zcu.recomputed, Tab.get_mapIdx,
      reset]
    split
    · next enabled => exact ZoneDyn.computed_ceilingIn _ _ enabled
    · next disabled =>
      rw [ZoneDyn.CeilingIn, if_neg disabled]
      simp [Zcu.reset, ZoneDyn.reset]

/-- Settles O8: an invariant of every kind of outcome. -/
theorem stepKeepsCeilingsFromTable : Obligations.StepKeepsCeilingsFromTable := by
  unfold Obligations.StepKeepsCeilingsFromTable
  exact fun s t clean h run => ceilings_kept.step clean h run

/-- The accounts stand as their counts give at every kind of outcome (R78, R85). -/
theorem accounts_kept :
    KeptBy (fun s => s.StartsClean ∧ s.TablesValid) State.AccountsFollow where
  queue s l h := ⟨h.1.setPending l, (setPending_preserves s l).tables h.2⟩
  preserved s u c h kept := fun started =>
    kept.accounts c.2 (h fun starting => started (kept.start.trans starting))
  reset _ _ _ _ _ := fun started => absurd rfl started
  imageRead s _ _ _ starts _ := fun started => absurd (State.startsUp_start starts) started
  fallback s addr c _ starts := by
    intro _ a
    have reset : s.dau = .reset := c.1.dau (State.startsUp_start starts)
    simp [reset, Dau.reset, AccountDyn.reset]
  recordRead s _ _ _ _ starts _ := fun started => absurd (State.startsUp_start starts) started
  running s addr _ _ _ _ _ := by
    rw [State.accountsFollow_iff]
    intro _
    simpa using (restoredDau_accounts _ _).2.1

/-- Settles O4: three invariants of every kind of outcome. -/
theorem stepKeepsYearCoversToday : Obligations.StepKeepsYearCoversToday := by
  unfold Obligations.StepKeepsYearCoversToday
  exact fun s t run => ⟨fun h => year_kept.step trivial h run,
    fun h => monitors_kept.step trivial h run,
    fun clean valid h => accounts_kept.step ⟨clean, valid⟩ h run⟩

/-! ## The tables and the records (R28, R40, R51, R122) -/

/-- An image that start-up finds valid holds valid tables (R199). -/
theorem validate_of_validImage {item : StoredItem Tables} (h : validImage item = some t) :
    validate t = none := by
  unfold validImage at h
  split at h
  · split at h
    · next valid => cases h; simpa using valid
    · cases h
  · cases h

/-- The tables in use stay valid at every kind of outcome (R28, R40, R199). -/
theorem tables_kept : KeptBy State.StartsClean State.TablesValid where
  queue _ l h := h.setPending l
  preserved _ _ _ h kept := kept.tables h
  reset _ _ _ _ _ := (afterReset_meets _ _ _ _ _).2.2.2
  imageRead s t _ _ _ valid :=
    have ok := validate_of_validImage valid
    ⟨fun _ => ok, fun _ => ok, fun _ _ => ok⟩
  fallback s addr clean _ starts := by
    have starting := State.startsUp_start starts
    constructor <;> simp [clean.flc starting, clean.no_commit starting, Flc.reset, Nvs.started]
  recordRead s j k clean h starts reading := by
    have starting := State.startsUp_start starts
    have ok := h.loaded starting (by simp [reading])
    exact ⟨fun _ => ok, h.awaited, fun _ _ => ok⟩
  running s addr j clean h starts reading := by
    have starting := State.startsUp_start starts
    have ok := h.loaded starting (by simp [reading])
    constructor <;> simp [ok, clean.no_commit starting]

/-- The records stay at their slots at every kind of outcome (R51, R122). -/
theorem records_kept : KeptBy State.StartsClean State.RecordsFollowSlots where
  queue _ l h := h.setPending l
  preserved s u _ h kept := fun started =>
    kept.records (h fun starting => started (kept.start.trans starting))
  reset _ _ _ _ _ := fun started => absurd rfl started
  imageRead s _ _ _ starts _ := fun started => absurd (State.startsUp_start starts) started
  fallback s addr clean _ starts := by
    have starting := State.startsUp_start starts
    intro _ k
    simp [clean.cmu starting, clean.cgu starting, Cmu.reset, Cgu.reset]
  recordRead s _ _ _ _ starts _ := fun started => absurd (State.startsUp_start starts) started
  running s addr _ _ _ _ _ := by
    intro _ k
    simp only [finish_frame, enterRunning_frame, enterRunning_cmu, enterRunning_cgu, cmuAtStart,
      freshSensors, cguAtStart, Tab.get_mapIdx, Option.isSome_map]
    exact ⟨trivial, freshActuator_isSome k _⟩

/-- Settles O46: what the checks find, and two invariants of every kind of outcome. -/
theorem validTablesAreSound : Obligations.ValidTablesAreSound := by
  unfold Obligations.ValidTablesAreSound
  refine ⟨fun t valid => ⟨exists_used_of_validate valid,
    fun _ _ usedj usedk => node_injective_of_validate valid usedj usedk,
    cycleInterval_of_validate valid,
    fun _ enabled => restLevel_le_luxCeiling_of_validate valid enabled⟩, fun s t clean run => ?_⟩
  exact ⟨fun h => tables_kept.step clean h run, fun h => records_kept.step clean h run⟩

end Sys2Proof.Machine

/-! PROOFS. A part that starts up: no event but its own steps and a reset moves a block (R198, R199). -/

namespace Sys2Proof.Machine

open Sys2Proof Host

variable {s u : State}

/-- A part that has started up is clean in the sense that it need not be. -/
theorem State.StartsClean.of_started (h : s.nvs.start ≠ .starting) : s.StartsClean :=
  ⟨fun e => absurd e h, fun e => absurd e h, fun e => absurd e h, fun e => absurd e h,
    fun e => absurd e h, fun e => absurd e h, fun e => absurd e h, fun e => absurd e h,
    fun e => absurd e h, fun e => absurd e h⟩

/-- A reset building link has nothing to send (R150, R165). -/
@[simp] theorem Bli.arbitrate_reset : Bli.reset.arbitrate = .reset := rfl

/-- The end of an event that moved no block of a part that starts up. -/
theorem State.StartsClean.finish (h : s.StartsClean) : (finish s).StartsClean where
  flc := h.flc
  cmu := h.cmu
  dau := h.dau
  zcu := h.zcu
  cgu := h.cgu
  bli starting := by rw [finish_bli, h.bli starting, Bli.arbitrate_reset]
  mrh := h.mrh
  xsu := h.xsu
  no_write := h.no_write
  no_commit := h.no_commit

/-- Pins are no block's. -/
theorem State.StartsClean.setPins (h : s.StartsClean) (x : Pins) : (s.setPins x).StartsClean :=
  ⟨h.1, h.2, h.3, h.4, h.5, h.6, h.7, h.8, h.9, h.10⟩

/-- What the store controller reads while the part starts up (R199, R201). -/
theorem State.StartsClean.setReading (h : s.StartsClean) (r : ReadStep) :
    (s.setNvs { s.nvs with reading := r }).StartsClean :=
  ⟨h.1, h.2, h.3, h.4, h.5, h.6, h.7, h.8, h.9, h.10⟩

/-- The tables loaded while the part starts up (R200). -/
theorem State.StartsClean.loadTables (h : s.StartsClean) (t : Tables) :
    (loadTables t s).StartsClean := ⟨h.1, h.2, h.3, h.4, h.5, h.6, h.7, h.8, h.9, h.10⟩

/-- An outcome that leaves a part that starts up as it was. -/
theorem State.StartsClean.of_same (h : s.StartsClean) {o : Outcome State Fault Refusal}
    (run : o = .next u) (same : o = .next s) : u.StartsClean := by
  rw [same] at run
  cases run
  exact h

/-- No event of the fieldline falls while the FLC is at its reset values (R1, R2). -/
theorem slotEndWhen_of_reset (h : s.flc = .reset) (reached : Fin 48 → SlotOutcome → State → Bool) :
    slotEndWhen reached s = s := by
  simp [slotEndWhen, h, Flc.reset, Flc.ending]

/-- A part that has started up has done so after any event that is no reset (R198). -/
theorem Follows.startsClean_of_started (started : s.nvs.start ≠ .starting)
    (follows : Follows s u) : u.StartsClean := by
  cases follows with
  | preserved kept => exact .of_started (by rw [kept.start]; exact started)
  | reset => exact (afterReset_meets _ _ _ _ _).1
  | imageRead starts => exact absurd (State.startsUp_start starts) started
  | fallback starts => exact absurd (State.startsUp_start starts) started
  | recordRead starts => exact absurd (State.startsUp_start starts) started
  | running starts => exact absurd (State.startsUp_start starts) started

/-- A message is lost while the part starts up (R151). -/
theorem messageArrives_of_disabled (h : s.bli.rx = .disabled) (o : Origin) (kind : Byte)
    (body : List Byte) : messageArrives o kind body s = setCommission o.commission s := by
  simp [messageArrives, h]

/-- Every event leaves a part that starts up clean (R198, R199). -/
theorem exec_startsClean_of_starting (h : s.StartsClean) (starting : s.nvs.start = .starting)
    {i : Instr} (run : exec i s = .next u) : u.StartsClean := by
  have flc := h.flc starting
  have bli := h.bli starting
  have mrh := h.mrh starting
  have write := (h.no_write starting).1
  cases arrives : arrivalOf i with
  | some m =>
    obtain ⟨o, kind, body⟩ := m
    rw [Laws.exec_arrival s arrives,
      messageArrives_of_disabled (by rw [bli]; rfl)] at run
    cases run
    exact h.setPins _
  | none =>
    cases i <;> simp only [arrivalOf, reduceCtorEq] at arrives
    case powerReset => cases run; exact (afterReset_meets _ _ _ _ _).1
    case pinReset =>
      simp only [exec, execPinReset] at run
      split at run <;> cases run
      · exact h
      · exact (afterReset_meets _ _ _ _ _).1
    case pinResetRelease =>
      simp only [exec, execPinResetRelease] at run
      split at run <;> cases run
      · exact (h.setPins _).finish
      · exact h
    case restartReset =>
      exact h.of_same run (by simp [exec, execRestartReset, State.restartDue, mrh, Mrh.reset])
    case configurationImageRead addr =>
      simp only [exec, execConfigurationImageRead] at run
      split at run
      · split at run <;> cases run
        · exact ((h.loadTables _).setReading _).finish
        · exact .of_started (by simp [Nvs.started])
      · cases run; exact h
    case accountRecordRead addr =>
      simp only [exec, execAccountRecordRead] at run
      split at run
      · split at run
        · split at run <;> cases run
          · exact (h.setReading _).finish
          · exact .of_started (by simp [Nvs.started])
        · cases run; exact h
      · cases run; exact h
    case cycleTimerExpiry =>
      exact h.of_same run (by simp [exec, execCycleTimerExpiry, flc, Flc.reset])
    case markEnd => exact h.of_same run (by simp [exec, execMarkEnd, flc, Flc.reset])
    case headerEnd => exact h.of_same run (by simp [exec, execHeaderEnd, flc, Flc.reset])
    case collided => exact h.of_same run (by simp [exec, execCollided, flc, Flc.reset])
    case callComplete => exact h.of_same run (by simp [exec, execCallComplete, flc, Flc.reset])
    case answerWindowExpiry =>
      exact h.of_same run (by simp [exec, execAnswerWindowExpiry, flc, Flc.reset])
    case answerStart => exact h.of_same run (by simp [exec, execAnswerStart, flc, Flc.reset])
    case answerCharacter =>
      exact h.of_same run (by simp [exec, execAnswerCharacter, flc, Flc.reset])
    case answerBreak => exact h.of_same run (by simp [exec, execAnswerBreak, flc, Flc.reset])
    case overlong => exact h.of_same run (by simp [exec, execOverlong, flc, Flc.reset])
    case fieldNoise => exact h.of_same run (by simp [exec, execFieldNoise, flc, Flc.reset])
    case slotEnd => exact h.of_same run (by simp [exec, execSlotEnd, flc, Flc.reset, Flc.ending])
    case actuatorLost => exact h.of_same run (congrArg _ (slotEndWhen_of_reset flc _))
    case sensorStale => exact h.of_same run (congrArg _ (slotEndWhen_of_reset flc _))
    case dateWatchExpiry => exact h.of_same run (congrArg _ (slotEndWhen_of_reset flc _))
    case checkpoint => exact h.of_same run (congrArg _ (slotEndWhen_of_reset flc _))
    case vacancyHoldReached => exact h.of_same run (congrArg _ (slotEndWhen_of_reset flc _))
    case holdExpiry => exact h.of_same run (congrArg _ (slotEndWhen_of_reset flc _))
    case configurationWriteComplete =>
      exact h.of_same run (by simp [exec, execConfigurationWriteComplete, write])
    case accountRecordWriteComplete =>
      exact h.of_same run (by simp [exec, execAccountRecordWriteComplete, write])
    case blCharacterReceived framed c level =>
      have idle : receive framed c (setCommission level s) = setCommission level s := by
        simp [receive, setCommission, bli, Bli.reset]
      simp only [exec, execBlCharacterReceived, idle] at run
      cases run
      exact (h.setPins _).finish
    case frameGapTimeout =>
      exact h.of_same run (by simp [exec, execFrameGapTimeout, bli, Bli.reset])
    case transmissionEnd level =>
      have idle : exec (.transmissionEnd level) s = .next (setCommission level s) := by
        simp [exec, execTransmissionEnd, bli, Bli.reset]
      rw [idle] at run
      cases run
      exact h.setPins _

/-- A second that passes leaves a part that starts up clean (R4). -/
theorem State.StartsClean.tick (h : s.StartsClean) : (tick s).StartsClean where
  flc starting := by
    have flc := h.flc starting
    simp [Machine.tick, flc, Flc.reset]
  cmu := h.cmu
  dau := h.dau
  zcu := h.zcu
  cgu := h.cgu
  bli := h.bli
  mrh := h.mrh
  xsu := h.xsu
  no_write := h.no_write
  no_commit := h.no_commit

/-- Settles O6: while STARTING by each event in turn, and after it because start-up does not come
again but by a reset. -/
theorem stepKeepsStartUpClean : Obligations.StepKeepsStartUpClean := by
  unfold Obligations.StepKeepsStartUpClean
  intro s t clean run
  unfold step at run
  split at run
  · cases run
    exact clean.tick
  · next c rest _ =>
    have clean' := clean.setPending rest
    by_cases starting : s.nvs.start = .starting
    · exact exec_startsClean_of_starting clean' starting run
    · obtain ⟨u, same, follows⟩ := exec_goes c { s with pending := rest }
      rw [same] at run
      cases run
      exact follows.startsClean_of_started (s := { s with pending := rest }) starting

end Sys2Proof.Machine

/-! PROOFS. The machine: a step is its command, and no command touches the queue. -/

namespace Sys2Proof.Machine

open Sys2Proof Host

variable {s u : State}

/-- Settles O1: a step of a queue with a command at its front is that command's run. -/
theorem stepRunsFrontCommand : Obligations.StepRunsFrontCommand := by
  unfold Obligations.StepRunsFrontCommand
  intro c s
  rfl

/-! ## The queue -/

/-- An outcome that is a next state with the queue of the state before. -/
def KeepsQueue (s : State) (o : Outcome State Fault Refusal) : Prop :=
  ∃ u, o = .next u ∧ u.pending = s.pending

theorem KeepsQueue.next (h : u.pending = s.pending) : KeepsQueue s (.next u) := ⟨u, rfl, h⟩

/-- An event that falls only in some states (assumption log 2). -/
theorem KeepsQueue.ite {c : Prop} [Decidable c] {o p : Outcome State Fault Refusal}
    (yes : KeepsQueue s o) (no : KeepsQueue s p) : KeepsQueue s (if c then o else p) := by
  split
  · exact yes
  · exact no

theorem configurationImageRead_queue (addr : BitVec 4) (s : State) :
    KeepsQueue s (execConfigurationImageRead addr s) := by
  unfold execConfigurationImageRead
  refine .ite ?_ (.next rfl)
  split <;> exact .next (by simp)

theorem accountRecordRead_queue (addr : BitVec 4) (s : State) :
    KeepsQueue s (execAccountRecordRead addr s) := by
  unfold execAccountRecordRead
  refine .ite ?_ (.next rfl)
  split
  · split <;> exact .next (by simp)
  · exact .next rfl

theorem fieldNoise_queue (s : State) : KeepsQueue s (execFieldNoise s) := by
  unfold execFieldNoise
  split
  · exact .ite (.next (by simp)) (.next rfl)
  · exact .next rfl

theorem slotEnd_queue (s : State) : KeepsQueue s (execSlotEnd s) := by
  unfold execSlotEnd
  split <;> exact .next (by simp)

theorem configurationWriteComplete_queue (verify : VerifyRead Tables) (s : State) :
    KeepsQueue s (execConfigurationWriteComplete verify s) := by
  unfold execConfigurationWriteComplete
  split
  · split <;> exact .next (by simp [putImage])
  · exact .next rfl
  · exact .next rfl

theorem accountRecordWriteComplete_queue (verify : VerifyRead AccountItem) (s : State) :
    KeepsQueue s (execAccountRecordWriteComplete verify s) := by
  unfold execAccountRecordWriteComplete
  split
  · split <;> exact .next (by simp [putRecord])
  · exact .next rfl
  · exact .next rfl

theorem transmissionEnd_queue (level : Bool) (s : State) :
    KeepsQueue s (execTransmissionEnd level s) := by
  unfold execTransmissionEnd
  split
  · exact .next (by simp [takeAll, arbitrate, endTransmission, setCommission])
  · exact .next rfl

/-- No command changes the queue. -/
theorem exec_queue (i : Instr) (s : State) : KeepsQueue s (exec i s) := by
  cases arrives : arrivalOf i with
  | some m =>
    obtain ⟨o, kind, body⟩ := m
    rw [Laws.exec_arrival s arrives]
    exact .next (by simp)
  | none =>
    cases i <;> simp only [arrivalOf, reduceCtorEq] at arrives
    case powerReset => exact .next rfl
    case pinReset => exact .ite (.next rfl) (.next rfl)
    case pinResetRelease => exact .ite (.next rfl) (.next rfl)
    case restartReset => exact .ite (.next rfl) (.next rfl)
    case configurationImageRead addr => exact configurationImageRead_queue addr s
    case accountRecordRead addr => exact accountRecordRead_queue addr s
    case cycleTimerExpiry => exact .ite (.next rfl) (.next rfl)
    case markEnd => exact .ite (.next rfl) (.next rfl)
    case headerEnd => exact .ite (.next (by simp)) (.next rfl)
    case collided => exact .ite (.next rfl) (.next rfl)
    case callComplete => exact .ite (.next rfl) (.next rfl)
    case answerWindowExpiry => exact .ite (.next rfl) (.next rfl)
    case answerStart => exact .ite (.next rfl) (.next rfl)
    case answerCharacter => exact .ite (.next rfl) (.next rfl)
    case answerBreak => exact .ite (.next rfl) (.next rfl)
    case overlong => exact .ite (.next rfl) (.next rfl)
    case fieldNoise => exact fieldNoise_queue s
    case slotEnd => exact slotEnd_queue s
    case actuatorLost => exact .next (slotEndWhen_frame _ s).2.2.2
    case sensorStale => exact .next (slotEndWhen_frame _ s).2.2.2
    case dateWatchExpiry => exact .next (slotEndWhen_frame _ s).2.2.2
    case checkpoint => exact .next (slotEndWhen_frame _ s).2.2.2
    case vacancyHoldReached => exact .next (slotEndWhen_frame _ s).2.2.2
    case holdExpiry => exact .next (slotEndWhen_frame _ s).2.2.2
    case configurationWriteComplete verify => exact configurationWriteComplete_queue verify s
    case accountRecordWriteComplete verify => exact accountRecordWriteComplete_queue verify s
    case blCharacterReceived => exact .next (by simp [setCommission])
    case frameGapTimeout => exact .ite (.next (by simp)) (.next rfl)
    case transmissionEnd level => exact transmissionEnd_queue level s

/-- Settles O2, command by command. -/
theorem everyCommandAnswersAndKeepsQueue : Obligations.EveryCommandAnswersAndKeepsQueue := by
  unfold Obligations.EveryCommandAnswersAndKeepsQueue
  exact exec_queue

/-! ## Two samples move a standing (R62, R63) -/

/-- Settles O22: `agree` by whether there is a standing and a candidate, and which they are. -/
theorem twoSamplesMoveAStanding : Obligations.TwoSamplesMoveAStanding := by
  unfold Obligations.TwoSamplesMoveAStanding
  intro α _ x y z c
  refine ⟨rfl, by simp [agree], fun new => ?_, fun new third => ?_, fun new => ?_⟩
  · simp [agree, new.symm]
  · simp [agree, new.symm, third.symm]
  · simp [agree, new.symm]

end Sys2Proof.Machine

/-! PROOFS. Requests: how a request that is taken at once ends, what it needs (R171, R172), and the
requests of the handler and the statistics. -/

namespace Sys2Proof.Machine

open Sys2Proof Host

variable {s : State} {o : Origin} {k : ReqKind} {fields : List Byte}

/-! ## The outcome of a request that is taken at once -/

/-- A request that is taken at once is judged and done, its REPLY placed, and the event ended. -/
theorem exec_request_eq (takes : s.TakesAtOnce) (k : ReqKind) (o : Origin) (fields : List Byte) :
    exec (k.toInstr o fields) s = .next (finish (placeReply o.source k
      (handleRequest k o.source fields (setCommission o.commission s)))) := by
  rw [exec_toInstr, messageArrives_of_takesAtOnce takes, dispatch_request]

/-- The outcome of a request that is taken at once, from what its handling gives back. -/
theorem exec_request_of_handled (takes : s.TakesAtOnce) {u : State} {status : Status} {c : Contents}
    (handled : handleRequest k o.source fields (setCommission o.commission s) = (u, status, c)) :
    ∃ t, exec (k.toInstr o fields) s = .next t
      ∧ t = { u with bli := t.bli, schedule := t.schedule } ∧ t.Replies o.source k status c :=
  ⟨_, exec_request_eq takes k o fields, by rw [handled]; exact finish_placeReply_eq o.source k _,
    by rw [handled]; exact finish_placeReply_replies o.source k _⟩

/-- The outcome of a request that passes steps 2 and 3 of R171, from its owning block's effect. -/
theorem exec_request_of_effect (takes : s.TakesAtOnce)
    (level : (s.levelOf o).allows (k.needs fields) = true) (shape : k.shapeOk fields = true)
    {u : State} {status : Status} {c : Contents}
    (effect : requestEffect k o.source fields (setCommission o.commission s) = (u, status, c)) :
    ∃ t, exec (k.toInstr o fields) s = .next t
      ∧ t = { u with bli := t.bli, schedule := t.schedule } ∧ t.Replies o.source k status c := by
  rw [← level_setCommission] at level
  exact exec_request_of_handled takes ((handleRequest_of_allowed level shape).trans effect)

/-- A request whose owning block changes nothing leaves all but the pin, the link and the schedule. -/
theorem exec_request_of_refusal (takes : s.TakesAtOnce)
    (level : (s.levelOf o).allows (k.needs fields) = true) (shape : k.shapeOk fields = true)
    {status : Status} {c : Contents}
    (effect : requestEffect k o.source fields (setCommission o.commission s)
      = (setCommission o.commission s, status, c)) :
    ∃ t, exec (k.toInstr o fields) s = .next t
      ∧ t = { s with pins := s.pinsOf o, bli := t.bli, schedule := t.schedule }
      ∧ t.Replies o.source k status c :=
  exec_request_of_effect takes level shape effect

/-! ## The requests' table (R172) and the judging of a request (R171, R177) -/

/-- The subject that a denial of each kind records (R172). -/
theorem ReqKind.subject_eq (k : ReqKind) (fields : List Byte) :
    k.subject fields = (match k, fields with
      | .readRecord, a :: b :: _ | .readState, a :: b :: _ | .writeRecord, a :: b :: _ =>
        some [a, b]
      | .clearLatch, a :: b :: c :: _ => some [a, b, c]
      | .linkReadAccount, a :: _ | .holdOccupied, a :: _ | .releaseHold, a :: _
      | .grantExtension, a :: _ | .suspendAccount, a :: _ | .resumeAccount, a :: _
      | .seedAccount, a :: _ => some [a]
      | _, _ => none) := by
  rcases fields with _ | ⟨a, _ | ⟨b, _ | ⟨c, rest⟩⟩⟩ <;>
    cases k <;> simp [ReqKind.subject, ReqKind.subjectBytes]

/-- The body length of each kind, code byte included (R172). -/
theorem ReqKind.shapeOk_iff (k : ReqKind) (fields : List Byte) :
    k.shapeOk fields = true ↔ (match k with
      | .readRecord => fields.length + 1 = 5
      | .readState | .clearLatch | .holdOccupied | .grantExtension => fields.length + 1 = 4
      | .linkReadAccount | .releaseHold | .suspendAccount | .resumeAccount => fields.length + 1 = 2
      | .statsControl => fields.length + 1 = 8
      | .seedAccount => fields.length + 1 = 6
      | .writeRecord => True
      | .readFault | .statsClear | .clearFault | .discardStaged | .commit | .restart =>
        fields.length + 1 = 1) := by
  cases k <;> simp [ReqKind.shapeOk, ReqKind.bodyLength]

/-- A request below the level it needs (R171 step 2, R177). -/
theorem handleRequest_of_denied {source : Byte} (level : (s.level source).allows (k.needs fields) = false) :
    handleRequest k source fields s
      = (deny source (.request k) (k.subject fields) s, .denied, .nothing) := by
  simp [handleRequest, level, refuse]

/-- A request of the wrong length (R171 step 3). -/
theorem handleRequest_of_misshapen {source : Byte}
    (level : (s.level source).allows (k.needs fields) = true) (shape : k.shapeOk fields = false) :
    handleRequest k source fields s = (s, .range, .nothing) := by
  simp [handleRequest, level, shape, refuse]

/-- Settles O41: the table of R172 kind by kind, and steps 2 and 3 of R171. -/
theorem requestsAreJudgedFirst : Obligations.RequestsAreJudgedFirst := by
  unfold Obligations.RequestsAreJudgedFirst
  refine ⟨fun k fields => ⟨?_, k.shapeOk_iff fields, k.subject_eq fields⟩,
    fun s k o fields takes => ⟨fun level => ?_, fun level shape => ?_⟩⟩
  · cases k <;> rfl
  · obtain ⟨t, run, same, replies⟩ :=
      exec_request_of_handled takes (handleRequest_of_denied (s := setCommission o.commission s) level)
    have mrh : t.mrh = { s.mrh with
        fault := recordDenial o.source (.request k) (k.subject fields) s.mrh.fault } := by
      rw [same]; rfl
    refine ⟨t, run, ?_, ?_, replies⟩
    · rw [mrh]; exact same
    · rw [mrh]; cases s.mrh.fault <;> rfl
  · exact exec_request_of_handled takes
      (handleRequest_of_misshapen (s := setCommission o.commission s) level shape)

/-! ## STATS CONTROL and STATS CLEAR (R189, R190) -/

/-- Settles O55: the settings replaced together, and every bin of every histogram emptied. -/
theorem statisticsAreSetAndCleared : Obligations.StatisticsAreSetAndCleared := by
  unfold Obligations.StatisticsAreSetAndCleared
  intro s o enable m1 m0 ct cr cl cu takes level
  refine ⟨fun known => ?_, fun unknown => ?_, ?_⟩
  · have code : (enable.toNat == 1) = (enable == 1#8) := by
      rw [Bool.eq_iff_iff, beq_iff_eq, beq_iff_eq, ← BitVec.toNat_inj]; rfl
    have effect : requestEffect .statsControl o.source [enable, m1, m0, ct, cr, cl, cu]
        (setCommission o.commission s)
      = ({ s with
            pins := s.pinsOf o
            xsu := { s.xsu with
              enable := enable == 1#8, zoneMask := m1 ++ m0, combine := ⟨ct, cr, cl, cu⟩ } },
          .ok, .stats (enable == 1#8) (m1 ++ m0) ⟨ct, cr, cl, cu⟩) := by
      rw [← code]
      exact if_neg (Nat.not_lt.mpr known)
    exact exec_request_of_effect takes level rfl effect
  · exact exec_request_of_refusal (k := .statsControl) takes level rfl (if_pos unknown)
  · obtain ⟨t, run, same, replies⟩ := exec_request_of_effect (k := .statsClear) (fields := [])
      takes level rfl (u := { s with
        pins := s.pinsOf o, xsu := { s.xsu with histograms := Xsu.reset.histograms } }) rfl
    refine ⟨t, _, run, same, fun q b => ?_, replies⟩
    cases q <;> simp [Xsu.reset, PerQ.get]

/-! ## CLEAR FAULT and RESTART (R168, R179, R180) -/

/-- Settles O56: the record shown and emptied; restart pending and taking closed. -/
theorem clearFaultAndRestartActOnTheHandler : Obligations.ClearFaultAndRestartActOnTheHandler := by
  unfold Obligations.ClearFaultAndRestartActOnTheHandler
  intro s o takes
  refine ⟨fun level => ?_, fun level => ?_⟩
  · exact exec_request_of_effect (k := .clearFault) (fields := []) takes level rfl
      (u := { s with pins := s.pinsOf o, mrh := { s.mrh with fault := none } }) rfl
  · have handled : handleRequest .restart o.source [] (setCommission o.commission s)
        = restart (setCommission o.commission s) := handleRequest_of_allowed level rfl
    refine ⟨_, exec_request_eq takes .restart o [], ?_, ?_, ?_⟩
    · rw [handled]; rfl
    · rw [handled]
      simp [placeReply, placeAnswer, restart]
    · rw [handled]
      exact finish_placeReply_replies o.source .restart _

/-! ## Resets (R181, R198) -/

/-- Every volatile item after a reset has its reset value (R198). -/
theorem afterReset_hasResetValues (cause : ResetCause) (pins : Pins) (store : Store)
    (schedule : List Order) (pending : List Instr) :
    (State.afterReset cause pins store schedule pending).HasResetValues cause where
  flc := by simp [State.afterReset, Flc.reset]
  tbu := by simp [State.afterReset, Tbu.reset]
  sensors k := by simp [State.afterReset, Cmu.reset]
  conds z q := Cmu.cond_reset z q
  cmu := by simp [State.afterReset, Cmu.reset]
  accounts a := by simp [State.afterReset, Dau.reset, AccountDyn.reset]
  dau := by simp [State.afterReset, Dau.reset]
  monitors i := by simp [State.afterReset, Dau.reset]
  zones z := by simp [State.afterReset, Zcu.reset, ZoneDyn.reset]
  flags k := by simp [State.afterReset, Zcu.reset]
  actuators k := by simp [State.afterReset, Cgu.reset]
  bli := by simp [State.afterReset, Bli.reset]
  mrh := by simp [State.afterReset, Mrh.reset]
  trackers z q := by cases q <;> simp [State.afterReset, Xsu.reset, Xsu.tracker, PerQ.get, Tracker.fresh]
  xsu := by simp [State.afterReset, Xsu.reset]
  histograms q b := by cases q <;> simp [State.afterReset, Xsu.reset, PerQ.get]
  nvs := by simp [State.afterReset, Nvs.reset]
  pending a := by simp [State.afterReset, Nvs.reset]

/-- Settles O57: each reset by its definition, the torn item by the write in progress. -/
theorem resetsLeaveResetValues : Obligations.ResetsLeaveResetValues := by
  unfold Obligations.ResetsLeaveResetValues
  intro s
  refine ⟨fun asserted => rfl, fun released => ?_, fun asserted => ?_, fun pending halted free => ?_,
    fun a c write => ?_, fun i write => ?_, fun free => ?_, fun cause pins store => ?_⟩
  · simp [exec, execPinReset, released, resetBy]
  · simp [exec, execPinResetRelease, asserted, finish, State.setPins, State.setBli,
      State.setSchedule]
  · simp [exec, execRestartReset, State.restartDue, pending, halted, free]
  · refine ⟨by simp [State.tornStore, write], by simp [State.tornStore, write], fun b other => ?_⟩
    simp [State.tornStore, write, Tab.get_set_ne _ _ other]
  · simp [State.tornStore, write]
  · simp [State.tornStore, free]
  · exact ⟨afterReset_hasResetValues .., rfl, rfl, rfl⟩

end Sys2Proof.Machine

/-! PROOFS. Zone entries and trackers: what a write of one leaves, and what an entry's change makes of
the Condition Monitor and the Statistics Unit (R67 to R72, R185 to R188). -/

namespace Sys2Proof.Machine

open Sys2Proof Host

variable {s : State} {t : Tables} {z : Fin 16} {q : CondQ}

/-! ## One entry of four, and one of sixteen times four -/

theorem PerQ.get_set {α : Type} (p : PerQ α) (q q' : CondQ) (a : α) :
    (p.set q a).get q' = if q' = q then a else p.get q' := by
  cases q <;> cases q' <;> rfl

@[simp] theorem PerQ.get_map {α β : Type} (p : PerQ α) (f : α → β) (q : CondQ) :
    (p.map f).get q = f (p.get q) := by
  cases q <;> rfl

/-- An entry of a table of four each, after one was replaced. -/
theorem Tab.get_set_perQ {α : Type} (p : Tab (PerQ α) 16) (z z' : Fin 16) (q q' : CondQ) (a : α) :
    ((p.set z ((p.get z).set q a)).get z').get q'
      = if (z', q') = (z, q) then a else (p.get z').get q' := by
  by_cases hz : z' = z
  · subst hz; simp [PerQ.get_set]
  · simp [Tab.get_set_ne _ _ hz, hz]

theorem Cmu.cond_setCond (c : Cmu) (z z' : Fin 16) (q q' : CondQ) (e : ZoneCond) :
    (c.setCond z q e).cond z' q' = if (z', q') = (z, q) then e else c.cond z' q' :=
  Tab.get_set_perQ c.conds z z' q q' e

theorem Xsu.tracker_setTracker (x : Xsu) (z z' : Fin 16) (q q' : CondQ) (t : Tracker) :
    (x.setTracker z q t).tracker z' q' = if (z', q') = (z, q) then t else x.tracker z' q' :=
  Tab.get_set_perQ x.trackers z z' q q' t

/-! ## Change reports (R185, R187) -/

/-- The unit after an OPEN excursion has closed at NORMAL (R187). -/
def Xsu.counted (x : Xsu) (z : Fin 16) (q : CondQ) : Xsu :=
  let t := x.tracker z q
  let h := x.histograms.get q
  let bin := binOf t.duration
  if x.selects z then
    Xsu.setTracker { x with histograms := x.histograms.set q (h.set bin (h.get bin).raise) } z q
      { t with state := .closed, ending := some .counted }
  else x.setTracker z q { t with state := .closed, ending := some .notSelected }

/-- The unit after a change report (R185). -/
def Xsu.reported (x : Xsu) (z : Fin 16) (q : CondQ) (e : ZoneCond) : Xsu :=
  let t := x.tracker z q
  match t.state with
  | .closed =>
    if e.coverage = .live ∧ e.worst ≠ .normal then x.setTracker z q ⟨.open_, 0, some e.worst, none⟩
    else x
  | .open_ =>
    if e.coverage ≠ .live then
      x.setTracker z q { t with state := .closed, ending := some .discarded }
    else if e.worst = .normal then x.counted z q
    else if e.worst = .alarm then x.setTracker z q { t with peak := some .alarm }
    else x

/-- A tracker after a change report, where its zone is selected or not (R185, R187). -/
def Tracker.reported (selected : Bool) (e : ZoneCond) (t : Tracker) : Tracker :=
  match t.state with
  | .closed =>
    if e.coverage = .live ∧ e.worst ≠ .normal then ⟨.open_, 0, some e.worst, none⟩ else t
  | .open_ =>
    if e.coverage ≠ .live then { t with state := .closed, ending := some .discarded }
    else if e.worst = .normal then
      { t with state := .closed, ending := some (if selected then .counted else .notSelected) }
    else if e.worst = .alarm then { t with peak := some .alarm }
    else t

@[simp] theorem countExcursion_xsu (z : Fin 16) (q : CondQ) (s : State) :
    (countExcursion z q s).xsu = s.xsu.counted z q := by
  simp only [countExcursion, Xsu.counted]
  split
  · split <;> simp
  · simp

/-- What a report makes of the unit rests on the unit alone (R185). -/
@[simp] theorem changeReport_xsu (z : Fin 16) (q : CondQ) (e : ZoneCond) (s : State) :
    (changeReport z q e s).xsu = s.xsu.reported z q e := by
  simp only [changeReport, Xsu.reported]
  cases state : (s.xsu.tracker z q).state with
  | closed =>
    simp only
    split <;> simp
  | open_ =>
    simp only
    split
    · simp
    · split
      · simp
      · split <;> simp

/-- A count leaves the settings, and every tracker but its own (R187). -/
theorem Xsu.counted_keeps (x : Xsu) (z : Fin 16) (q : CondQ) :
    (x.counted z q).enable = x.enable ∧ (x.counted z q).zoneMask = x.zoneMask
      ∧ (x.counted z q).combine = x.combine := by
  unfold Xsu.counted
  simp only
  split <;> simp [Xsu.setTracker]

theorem Xsu.tracker_counted (x : Xsu) (z z' : Fin 16) (q q' : CondQ) :
    (x.counted z q).tracker z' q' = if (z', q') = (z, q) then
        { x.tracker z q with
          state := .closed, ending := some (if x.selects z then .counted else .notSelected) }
      else x.tracker z' q' := by
  unfold Xsu.counted
  simp only
  split
  · rw [Xsu.tracker_setTracker]; simp [Xsu.tracker]
  · rw [Xsu.tracker_setTracker]

/-- A report leaves the settings (R185). -/
@[simp] theorem Xsu.reported_keeps (x : Xsu) (z : Fin 16) (q : CondQ) (e : ZoneCond) :
    (x.reported z q e).enable = x.enable ∧ (x.reported z q e).zoneMask = x.zoneMask
      ∧ (x.reported z q e).combine = x.combine := by
  unfold Xsu.reported
  simp only
  split
  · split <;> simp [Xsu.setTracker]
  · split
    · simp [Xsu.setTracker]
    · split
      · exact x.counted_keeps z q
      · split <;> simp [Xsu.setTracker]

/-- A report moves its own tracker, as R185 says, and no other. -/
theorem Xsu.tracker_reported (x : Xsu) (z z' : Fin 16) (q q' : CondQ) (e : ZoneCond) :
    (x.reported z q e).tracker z' q' = if (z', q') = (z, q) then
        (x.tracker z q).reported (x.selects z) e
      else x.tracker z' q' := by
  have same : x.tracker z' q' = if (z', q') = (z, q) then x.tracker z q else x.tracker z' q' := by
    split
    · next h => cases h; rfl
    · rfl
  unfold Xsu.reported Tracker.reported
  simp only
  cases (x.tracker z q).state with
  | closed =>
    simp only
    split
    · rw [Xsu.tracker_setTracker]
    · exact same
  | open_ =>
    simp only
    split
    · rw [Xsu.tracker_setTracker]
    · split
      · rw [Xsu.tracker_counted]
      · split
        · rw [Xsu.tracker_setTracker]
        · exact same

/-! ## An entry moved and announced (R69, R72, R73) -/

/-- The worse of two sides is NORMAL where both are (R68). -/
theorem ZoneCond.worst_eq_normal_iff (e : ZoneCond) :
    e.worst = .normal ↔ e.low = .normal ∧ e.high = .normal := by
  unfold ZoneCond.worst
  cases e.low <;> cases e.high <;> decide

/-- The worse of two sides is ALARM where one is (R68). -/
theorem ZoneCond.worst_eq_alarm_iff (e : ZoneCond) :
    e.worst = .alarm ↔ e.low = .alarm ∨ e.high = .alarm := by
  unfold ZoneCond.worst
  cases e.low <;> cases e.high <;> decide

/-- An entry is not reported again where sides and coverage stand (section 9.2). -/
theorem ZoneCond.reportable_eq_false_iff (old new : ZoneCond) :
    old.reportable new = false
      ↔ old.low = new.low ∧ old.high = new.high ∧ old.coverage = new.coverage := by
  simp [ZoneCond.reportable, and_assoc]

/-- The announcement of a changed entry leaves the entries (R72). -/
@[simp] theorem announce_cmu (first : Bool) (t : Tables) (z : Fin 16) (q : CondQ) (old : ZoneCond)
    (s : State) : (runSteps (announceSteps first t z q old) s).cmu = s.cmu := by
  cases first <;> simp [announceSteps]

/-- What the announcement of a changed entry makes of the Statistics Unit (R185). -/
theorem announce_xsu (first : Bool) (t : Tables) (z : Fin 16) (q : CondQ) (old : ZoneCond)
    (s : State) : (runSteps (announceSteps first t z q old) s).xsu
      = if old.reportable (s.cmu.cond z q) then s.xsu.reported z q (s.cmu.cond z q) else s.xsu := by
  have told : ∀ u : State, (tellStatistics z q old u).xsu
      = if old.reportable (u.cmu.cond z q) then u.xsu.reported z q (u.cmu.cond z q) else u.xsu := by
    intro u
    simp only [tellStatistics, reportCondition]
    split <;> simp
  cases first <;> simp [announceSteps, told]

/-- An entry brought to a new value, and no other entry, record or band (R69). -/
theorem changeEntry_cmu (t : Tables) (z : Fin 16) (q : CondQ) (e : ZoneCond) (s : State) :
    let u := changeEntry t z q (s.cmu.cond z q) e s
    (∀ z' q', u.cmu.cond z' q' = if (z', q') = (z, q) then e else s.cmu.cond z' q')
      ∧ u.cmu.sensors = s.cmu.sensors ∧ u.cmu.band = s.cmu.band := by
  simp only [changeEntry]
  split
  · next same =>
    refine ⟨fun z' q' => ?_, rfl, rfl⟩
    split
    · next h => cases h; exact same.symm
    · rfl
  · exact ⟨fun z' q' => Cmu.cond_setCond s.cmu z z' q q' e, rfl, rfl⟩

/-- An entry moved and announced: the entry alone of the Condition Monitor changes. -/
theorem moveEntry_cmu (t : Tables) (z : Fin 16) (q : CondQ) (e : ZoneCond) (s : State) :
    let u := moveEntry t z q (s.cmu.cond z q) e s
    (∀ z' q', u.cmu.cond z' q' = if (z', q') = (z, q) then e else s.cmu.cond z' q')
      ∧ u.cmu.sensors = s.cmu.sensors ∧ u.cmu.band = s.cmu.band := by
  simp only [moveEntry, announce_cmu]
  exact changeEntry_cmu t z q e s

/-- An entry moved and announced: the report to the Statistics Unit (R185). -/
theorem moveEntry_xsu (t : Tables) (z : Fin 16) (q : CondQ) (e : ZoneCond) (s : State) :
    (moveEntry t z q (s.cmu.cond z q) e s).xsu
      = if (s.cmu.cond z q).reportable e then s.xsu.reported z q e else s.xsu := by
  have here : (changeEntry t z q (s.cmu.cond z q) e s).cmu.cond z q = e := by
    simpa using (changeEntry_cmu t z q e s).1 z q
  rw [moveEntry, announce_xsu, here, (changeEntry_frame ..).2.2.2.2.2.2.2.2.1]

end Sys2Proof.Machine

/-! PROOFS. The requests on tables and on what stands: READ RECORD, WRITE RECORD, COMMIT, READ STATE
and CLEAR LATCH (R36 to R40, R43, R46, R70, R174). -/

namespace Sys2Proof.Machine

open Sys2Proof Host

variable {s : State} {o : Origin}

/-! ## Indices -/

theorem finOf_eq_some_iff {n k : Nat} {i : Fin n} : finOf n k = some i ↔ i.val = k := by
  unfold finOf
  split
  · next lt => rw [Option.some.injEq, Fin.ext_iff]; exact eq_comm
  · next ge => simp only [reduceCtorEq, false_iff]; rintro rfl; exact ge i.isLt

theorem finOf_eq_none_iff {n k : Nat} : finOf n k = none ↔ n ≤ k := by
  unfold finOf
  split <;> simp <;> omega

@[simp] theorem finOf_val {n : Nat} (i : Fin n) : finOf n i.val = some i := finOf_eq_some_iff.mpr rfl

/-! ## Records (R36, R37) -/

/-- A table has a record at each index below its size, and no other (R29 to R34). -/
theorem Tables.record_isSome (t : Tables) (id : TableId) (j : Nat) :
    (t.record id j).isSome = true ↔ j < id.size := by
  have indexed : ∀ n, (finOf n j).isSome = true ↔ j < n := fun n => by
    rw [Option.isSome_iff_ne_none, ne_eq, finOf_eq_none_iff, not_le]
  cases id with
  | bus =>
    simp only [Tables.record, TableId.size]
    split <;> simp <;> omega
  | _ => simp only [Tables.record, TableId.size, Option.isSome_map, indexed]

/-- A record of one table, by its index, after one entry was replaced. -/
theorem Tab.map_finOf_set {α β : Type} {n i : Nat} (tab : Tab α n) (k : Fin n) (a : α) (f : α → β)
    (at_ : k.val = i) (j : Nat) :
    ((finOf n j).map fun l => f ((tab.set k a).get l))
      = if j = i then some (f a) else (finOf n j).map fun l => f (tab.get l) := by
  by_cases here : j = i
  · rw [if_pos here, here, ← at_, finOf_val]
    simp
  · rw [if_neg here]
    cases found : finOf n j with
    | none => rfl
    | some l =>
      have apart : l ≠ k := fun e => here (by rw [← finOf_eq_some_iff.mp found, e, at_])
      simp [Tab.get_set_ne _ _ apart]

/-- The record written is read back, and no other record changes (R37). -/
theorem Tables.record_writeRecord (t : Tables) {id : TableId} {i : Nat} (bs : List Byte)
    (exists_ : i < id.size) (id' : TableId) (j : Nat) :
    (t.writeRecord id i bs).record id' j
      = if id' = id ∧ j = i then some (id.recordOfBytes bs) else t.record id' j := by
  cases id with
  | bus =>
    have zero : i = 0 := by simpa [TableId.size] using exists_
    subst zero
    cases id' with
    | bus =>
      by_cases first : j = 0 <;>
        simp [Tables.writeRecord, Tables.record, TableId.recordOfBytes, first]
    | _ => simp [Tables.writeRecord, Tables.record]
  | slotMap | zone | drift | account | requester =>
    obtain ⟨k, at_, found⟩ : ∃ k : Fin _, k.val = i ∧ finOf _ i = some k :=
      ⟨⟨i, exists_⟩, rfl, finOf_eq_some_iff.mpr rfl⟩
    simp only [TableId.size] at k at_ found
    cases id' <;>
      simp only [Tables.writeRecord, found, Tables.record, Tab.map_finOf_set _ k _ _ at_,
        TableId.recordOfBytes, reduceCtorEq, false_and, true_and, if_false]

/-- The records of a run, index by index (R36). -/
theorem recordsOf_eq_map (t : Tables) (id : TableId) (first count : Nat)
    (inside : first + count ≤ id.size) :
    ∃ r : Nat → TableRecord, recordsOf t id first count = (List.range count).map r
      ∧ ∀ i, i < count → t.record id (first + i) = some (r i) := by
  have each : ∀ i, ∃ r, i < count → t.record id (first + i) = some r := fun i => by
    by_cases below : i < count
    · obtain ⟨r, same⟩ := Option.isSome_iff_exists.mp
        ((t.record_isSome id (first + i)).mpr (by omega))
      exact ⟨r, fun _ => same⟩
    · exact ⟨.drift none, fun h => absurd h below⟩
  choose r same using each
  refine ⟨r, ?_, fun i below => same i below⟩
  rw [recordsOf, ← List.filterMap_eq_map]
  exact List.filterMap_congr fun i mem => same i (List.mem_range.mp mem)

/-- A READ RECORD of a run that exists is answered with as many of its records as fit (R36). -/
theorem readRecord_of_run {table first count copy : Byte} {id : TableId}
    (known : TableId.ofCode table.toNat = some id) (some_ : 1 ≤ count.toNat)
    (few : count.toNat ≤ 8) (inside : first.toNat + count.toNat ≤ id.size)
    (copies : copy.toNat ≤ 1) (s : State) :
    readRecord [table, first, count, copy] s = (s, .ok, .records id first.toNat
      (fitRecords id (recordsOf (if copy.toNat = 0 then s.tbu.active else s.tbu.staged) id
        first.toNat count.toNat))) := by
  have run : runOk id first.toNat count.toNat = true := by simp [runOk, some_, few, inside]
  have named : s.tbu.copy copy.toNat
      = some (if copy.toNat = 0 then s.tbu.active else s.tbu.staged) := by
    rcases Nat.le_one_iff_eq_zero_or_eq_one.mp copies with zero | one
    · simp [zero, Tbu.copy]
    · simp [one, Tbu.copy]
  simp [readRecord, operand8, known, named, run]

/-- A READ RECORD of a table, a copy or a run that does not exist (R36). -/
theorem readRecord_of_none {table first count copy : Byte}
    (wrong : TableId.ofCode table.toNat = none ∨ count.toNat = 0 ∨ 8 < count.toNat
      ∨ 1 < copy.toNat
      ∨ ∃ id, TableId.ofCode table.toNat = some id ∧ id.size < first.toNat + count.toNat)
    (s : State) : readRecord [table, first, count, copy] s = (s, .range, .nothing) := by
  unfold readRecord
  simp only [operand8, List.getD_cons_zero, List.getD_cons_succ, refuse]
  split
  · next id t known named =>
    have copies : copy.toNat ≤ 1 := by
      by_contra above
      obtain ⟨n, more⟩ := Nat.exists_eq_add_of_le (Nat.lt_of_not_le above)
      rw [more, Nat.add_comm] at named
      cases named
    refine if_neg ?_
    simp only [runOk, Bool.and_eq_true, decide_eq_true_eq]
    rintro ⟨⟨atLeast, atMost⟩, fits⟩
    rcases wrong with none_ | zero | many | copy' | ⟨id', known', past⟩
    · rw [known] at none_; cases none_
    · omega
    · omega
    · omega
    · rw [known] at known'; cases known'; omega
  · rfl

/-- Settles O42: the run's records where it exists, RANGE where it does not. -/
theorem readRecordReturnsTheRun : Obligations.ReadRecordReturnsTheRun := by
  unfold Obligations.ReadRecordReturnsTheRun
  intro s o table first count copy takes level
  obtain ⟨t, run, same, replies⟩ := exec_request_of_effect (k := .readRecord)
    (fields := [table, first, count, copy]) takes level rfl
    (u := setCommission o.commission s)
    (status := (readRecord [table, first, count, copy] (setCommission o.commission s)).2.1)
    (c := (readRecord [table, first, count, copy] (setCommission o.commission s)).2.2)
    (Prod.ext (readRecord_state _ _) rfl)
  refine ⟨t, run, same, fun id known some_ few inside copies => ?_, fun wrong => ?_⟩
  · rw [readRecord_of_run known some_ few inside copies] at replies
    obtain ⟨r, records, here⟩ := recordsOf_eq_map
      (if copy.toNat = 0 then s.tbu.active else s.tbu.staged) id first.toNat count.toNat inside
    refine ⟨_, replies, ?_, fun i below => ?_⟩
    · rw [fitRecords, List.length_take, Nat.min_comm]
      refine congrArg₂ min ?_ rfl
      exact (congrArg List.length records).trans (by simp)
    · have fits : (setCommission o.commission s).tbu = s.tbu := rfl
      simp only [fits, fitRecords, records] at below ⊢
      simp only [List.length_take, List.length_map, List.length_range, Nat.lt_min] at below
      rw [List.getElem?_take_of_lt below.1, here i below.2]
      simp [below.2]
  · rw [readRecord_of_none wrong] at replies
    exact replies

end Sys2Proof.Machine

/-! PROOFS. WRITE RECORD, COMMIT, READ STATE and CLEAR LATCH (R37, R39, R40, R43, R46, R70, R174). -/

namespace Sys2Proof.Machine

open Sys2Proof Host

variable {s : State} {o : Origin}

/-! ## WRITE RECORD (R37) -/

/-- The records of a run written one after the other, and no other record (R37). -/
theorem record_writeRecords (t : Tables) {id : TableId} {first count : Nat} (bytes : List Byte)
    (inside : first + count ≤ id.size) (id' : TableId) (j : Nat) :
    (writeRecords t id first count bytes).record id' j
      = if id' = id ∧ first ≤ j ∧ j < first + count then
          some (id.recordOfBytes ((bytes.drop ((j - first) * id.recordBytes)).take id.recordBytes))
        else t.record id' j := by
  unfold writeRecords
  induction count with
  | zero =>
    rw [if_neg (by omega)]
    rfl
  | succ n ih =>
    rw [List.range_succ, List.foldl_append, List.foldl_cons, List.foldl_nil,
      Tables.record_writeRecord _ _ (by omega), ih (by omega)]
    by_cases last : id' = id ∧ j = first + n
    · obtain ⟨rfl, rfl⟩ := last
      rw [if_pos ⟨rfl, rfl⟩, if_pos ⟨rfl, by omega, by omega⟩, Nat.add_sub_cancel_left]
    · rw [if_neg last]
      refine if_congr ?_ rfl rfl
      constructor
      · rintro ⟨rfl, low, high⟩
        exact ⟨rfl, low, by omega⟩
      · rintro ⟨rfl, low, high⟩
        have : j ≠ first + n := fun e => last ⟨rfl, e⟩
        exact ⟨rfl, low, by omega⟩

/-- A WRITE RECORD of whole records at a run of a table, no swap awaited (R37). -/
theorem writeRecord_of_run {table first count : Byte} {bytes : List Byte} {id : TableId}
    (free : s.tbu.commit ≠ .pendingSwap) (known : TableId.ofCode table.toNat = some id)
    (some_ : 1 ≤ count.toNat) (few : count.toNat ≤ 8) (zones : id = .zone → count.toNat ≤ 5)
    (inside : first.toNat + count.toNat ≤ id.size)
    (whole : bytes.length = count.toNat * id.recordBytes) :
    writeRecord (table :: first :: count :: bytes) s = (s.setTbu { s.tbu with
      staged := writeRecords s.tbu.staged id first.toNat count.toNat bytes }, .ok, .nothing) := by
  have fits : writeOk id first.toNat count.toNat (table :: first :: count :: bytes) = true := by
    have run : runOk id first.toNat count.toNat = true := by simp [runOk, some_, few, inside]
    have zone : (id != .zone || decide (count.toNat ≤ 5)) = true := by
      by_cases h : id = .zone
      · simp [zones h]
      · simp [h]
    simp only [writeOk, run, zone, Bool.true_and, beq_iff_eq, List.length_cons, whole]
    omega
  simp [writeRecord, free, operand8, known, fits]

/-- Settles O43: BUSY while a swap is awaited, else the run's records and no other. -/
theorem writeRecordReplacesStagedRun : Obligations.WriteRecordReplacesStagedRun := by
  unfold Obligations.WriteRecordReplacesStagedRun
  intro s o table first count bytes takes level
  refine ⟨fun awaited => ?_, fun id free known some_ few zones inside whole => ?_⟩
  · exact exec_request_of_refusal (k := .writeRecord) takes level rfl (if_pos awaited)
  · obtain ⟨t, run, same, replies⟩ := exec_request_of_effect (k := .writeRecord) takes level rfl
      (writeRecord_of_run (s := setCommission o.commission s) free known some_ few zones inside
        whole)
    have tbu : t.tbu = { s.tbu with
        staged := writeRecords s.tbu.staged id first.toNat count.toNat bytes } := by
      rw [same]; rfl
    refine ⟨t, run, by rw [tbu]; exact same, by rw [tbu], by rw [tbu], by rw [tbu], replies,
      fun i below => ?_, fun id' j outside => ?_⟩
    · rw [tbu, record_writeRecords _ _ inside, if_pos ⟨rfl, by omega, by omega⟩,
        Nat.add_sub_cancel_left]
    · rw [tbu, record_writeRecords _ _ inside, if_neg outside]

/-! ## COMMIT (R39, R40, R43, R46) -/

/-- A COMMIT outside IDLE (R39). -/
theorem commit_of_busy (busy : s.tbu.commit ≠ .idle) : commit s = (s, .busy, .nothing) :=
  if_pos busy

/-- A COMMIT of an invalid staged copy (R40). -/
theorem commit_of_invalid {id : TableId} {i : Nat} {c : CheckName} (idle : s.tbu.commit = .idle)
    (invalid : validate s.tbu.staged = some (id, i, c)) :
    commit s = (s, .invalid, .invalid id i c) := by
  simp [commit, idle, invalid]

/-- A COMMIT of a valid staged copy while the FLC cycles (R43). -/
theorem commit_of_cycling (idle : s.tbu.commit = .idle) (valid : validate s.tbu.staged = none)
    (cycling : s.flc.state ≠ .stopped) :
    commit s = (s.setTbu { s.tbu with commit := .pendingSwap, swapCycle := some s.flc.nextClose },
      .accepted, .nothing) := by
  simp [commit, idle, valid, cycling]

/-- A COMMIT of a valid staged copy while the FLC is STOPPED (R46). -/
theorem commit_of_stopped (idle : s.tbu.commit = .idle) (valid : validate s.tbu.staged = none)
    (stopped : s.flc.state = .stopped) : commit s = (swapNow s, .accepted, .nothing) := by
  simp [commit, idle, valid, stopped]

/-- The Table Unit after a swap at once (R44, R46, R47). -/
theorem swapNow_tables (s : State) :
    (swapNow s).tbu.active = s.tbu.staged ∧ (swapNow s).tbu.staged = s.tbu.staged
      ∧ (swapNow s).tbu.commit = if s.nvs.state = .failed then .idle else .storing := by
  obtain ⟨active, staged, -⟩ := swapWorks_tables s.tbu.active s.tbu.staged (activate s)
  obtain ⟨isActive, isStaged, -⟩ := activate_tables s
  exact ⟨active.trans isActive, staged.trans isStaged, swap_commit (.refl s.tbu.active _)⟩

/-- The FLC after a swap at once begins cycle 0 with the new tables (R3, R46). -/
theorem swapNow_flc (s : State) : (swapNow s).flc = s.flc.beginMark s.tbu.staged 0#16 := by
  have active : (swapWorks s.tbu.active s.tbu.staged (activate s)).tbu.active = s.tbu.staged :=
    (swapWorks_tables _ _ _).1.trans (activate_tables s).1
  simp [swapNow, startCycling, active]

/-- Settles O45, by what the commit state, the checks and the FLC allow. -/
theorem commitJudgesStagedCopy : Obligations.CommitJudgesStagedCopy := by
  unfold Obligations.CommitJudgesStagedCopy
  intro s o takes level
  obtain ⟨t, run, same, replies⟩ :=
    exec_request_of_takesAtOnce (k := .commit) (fields := []) takes level rfl
  have effect : requestEffect .commit o.source [] (setCommission o.commission s)
      = commit (setCommission o.commission s) := rfl
  rw [effect] at same replies
  refine ⟨t, run, fun busy => ?_, fun id i c idle invalid => ?_, fun idle valid cycling => ?_,
    fun idle valid stopped => ?_⟩
  · rw [commit_of_busy (s := setCommission o.commission s) busy] at same replies
    exact ⟨same, replies⟩
  · rw [commit_of_invalid (s := setCommission o.commission s) idle invalid] at same replies
    exact ⟨same, replies⟩
  · rw [commit_of_cycling (s := setCommission o.commission s) idle valid cycling] at same replies
    exact ⟨same, replies⟩
  · rw [commit_of_stopped (s := setCommission o.commission s) idle valid stopped] at same replies
    have tbu : t.tbu = (swapNow (setCommission o.commission s)).tbu := by rw [same]
    have flc : t.flc = (swapNow (setCommission o.commission s)).flc := by rw [same]
    obtain ⟨active, staged, committed⟩ := swapNow_tables (setCommission o.commission s)
    rw [tbu, flc, swapNow_flc]
    exact ⟨active, staged, committed, rfl, rfl, rfl, replies⟩

/-! ## READ STATE (R174, R175) -/

/-- A subject kind above 14 is none (R174). -/
theorem readSubject_of_above {kind : Nat} (above : 14 < kind) (source : Byte)
    (index quantity : Nat) (s : State) : readSubject source kind index quantity s = none := by
  obtain ⟨n, rfl⟩ := Nat.exists_eq_add_of_lt above
  rw [show 14 + n + 1 = n + 15 by omega]
  rfl

/-- A READ STATE of a subject that stands (R174). -/
theorem readState_of_some {source : Byte} {fields : List Byte} {r : Reading}
    (subject : readSubject source (operand8 fields 0) (operand8 fields 1) (operand8 fields 2) s
      = some r) : readState source fields s = (s, .ok, .reading s.flc.state s.flc.cycle r) := by
  simp [readState, subject]

/-- A READ STATE of a subject that is none (R174). -/
theorem readState_of_none {source : Byte} {fields : List Byte}
    (subject : readSubject source (operand8 fields 0) (operand8 fields 1) (operand8 fields 2) s
      = none) : readState source fields s = (s, .range, .nothing) := by
  simp [readState, subject, refuse]

/-- The code of a quantity names it. -/
@[simp] theorem CondQ.ofCode_code (q : CondQ) : CondQ.ofCode q.code = some q := by
  cases q <;> rfl

/-- Settles O47, subject by subject. -/
theorem readStateShowsAndChangesNothing : Obligations.ReadStateShowsAndChangesNothing := by
  unfold Obligations.ReadStateShowsAndChangesNothing
  intro s o kind index quantity takes
  have level : (s.levelOf o).allows (ReqKind.needs .readState [kind, index, quantity]) = true :=
    Level.allows_observe _
  obtain ⟨t, run, same, replies⟩ := exec_request_of_takesAtOnce (k := .readState)
    (fields := [kind, index, quantity]) takes level rfl
  have effect : requestEffect .readState o.source [kind, index, quantity]
      (setCommission o.commission s)
      = readState o.source [kind, index, quantity] (setCommission o.commission s) := rfl
  rw [effect] at same replies
  rw [readState_state] at same
  have shown : ∀ r, readSubject o.source kind.toNat index.toNat quantity.toNat
      (setCommission o.commission s) = some r →
      t.Replies o.source .readState .ok (.reading s.flc.state s.flc.cycle r) := fun r subject => by
    rw [readState_of_some (fields := [kind, index, quantity]) subject] at replies
    exact replies
  have none_ : readSubject o.source kind.toNat index.toNat quantity.toNat
      (setCommission o.commission s) = none →
      t.Replies o.source .readState .range .nothing := fun subject => by
    rw [readState_of_none (fields := [kind, index, quantity]) subject] at replies
    exact replies
  refine ⟨t, run, same, fun above => none_ (readSubject_of_above above ..), fun zero => ?_,
    fun a six at_ => ?_, fun z q nine at_ of_ => ?_, fun six above => ?_⟩
  · exact shown _ (by rw [zero]; rfl)
  · exact shown _ (by rw [six, at_, readSubject, finOf_val]; rfl)
  · refine shown _ ?_
    rw [nine, at_, of_]
    simp only [readSubject, finOf_val, CondQ.ofCode_code]
    rfl
  · refine none_ ?_
    rw [six, readSubject, finOf_eq_none_iff.mpr above]
    rfl

/-! ## CLEAR LATCH (R70) -/

/-- The fields that name a zone, a quantity and a side (R205). -/
theorem clearLatchRequest_of_fields (z : Fin 16) (q : CondQ) (side : Side) (s : State) :
    clearLatchRequest
        [BitVec.ofNat 8 z.val, BitVec.ofNat 8 q.code, if side = .low then 0#8 else 1#8] s
      = if side = .low ∧ q.hasLow = false then refuse .range s
        else if !s.tbu.active.zoneEnabled z then refuse .notEnabled s
        else if (s.cmu.cond z q).side side = .alarm then refuse .stillActive s
        else (clearLatch z q side s, .ok, .nothing) := by
  have zone : (BitVec.ofNat 8 z.val).toNat = z.val := by
    rw [BitVec.toNat_ofNat]; omega
  have quantity : CondQ.ofCode (q.code % 256) = some q := by cases q <;> rfl
  have named : Side.ofCode (if side = .low then 0#8 else 1#8 : Byte).toNat = some side := by
    cases side <;> rfl
  simp [clearLatchRequest, operandZone, operand8, zone, quantity, named]

/-- A side without a low limit (R70). -/
theorem CondQ.hasLow_eq_false_iff (q : CondQ) : q.hasLow = false ↔ q = .lux ∨ q = .uv := by
  cases q <;> simp [CondQ.hasLow]

/-- A latch cleared is told to no tracker (section 9.2). -/
theorem clearLatch_xsu (z : Fin 16) (q : CondQ) (side : Side) (s : State) :
    (clearLatch z q side s).xsu = s.xsu := by
  have silent : (s.cmu.cond z q).reportable ((s.cmu.cond z q).clearLatch side) = false := by
    rw [ZoneCond.reportable_eq_false_iff]
    cases side <;> exact ⟨rfl, rfl, rfl⟩
  rw [clearLatch, moveEntry_xsu, silent]
  rfl

/-- Settles O49: three refusals, and the named latch cleared. -/
theorem clearLatchClearsOneLatch : Obligations.ClearLatchClearsOneLatch := by
  unfold Obligations.ClearLatchClearsOneLatch
  intro s o z q side takes level fields
  obtain ⟨t, run, same, replies⟩ :=
    exec_request_of_takesAtOnce (k := .clearLatch) (fields := fields) takes level rfl
  have effect : requestEffect .clearLatch o.source fields (setCommission o.commission s) = _ :=
    clearLatchRequest_of_fields z q side (setCommission o.commission s)
  rw [effect] at same replies
  rw [← CondQ.hasLow_eq_false_iff]
  refine ⟨t, run, fun lacks => ?_, fun has disabled => ?_, fun has enabled alarm => ?_,
    fun has enabled quiet => ?_⟩
  · rw [if_pos lacks] at same replies
    exact ⟨same, replies⟩
  · have disabled' : (!(setCommission o.commission s).tbu.active.zoneEnabled z) = true := by
      simpa [setCommission] using disabled
    rw [if_neg has, if_pos disabled'] at same replies
    exact ⟨same, replies⟩
  · have enabled' : ¬ (!(setCommission o.commission s).tbu.active.zoneEnabled z) = true := by
      simpa [setCommission] using enabled
    rw [if_neg has, if_neg enabled', if_pos (by exact alarm)] at same replies
    exact ⟨same, replies⟩
  · have enabled' : ¬ (!(setCommission o.commission s).tbu.active.zoneEnabled z) = true := by
      simpa [setCommission] using enabled
    rw [if_neg has, if_neg enabled', if_neg (by exact quiet)] at same replies
    have cmu : t.cmu = (clearLatch z q side (setCommission o.commission s)).cmu := by rw [same]
    obtain ⟨entries, sensors, band⟩ := moveEntry_cmu s.tbu.active z q
      ((s.cmu.cond z q).clearLatch side) (setCommission o.commission s)
    refine ⟨?_, ?_, fun z' q' other => ?_, ?_, ?_, replies⟩
    · refine same.trans ?_
      simp only [cmu, clearLatch_xsu, clearLatch_frame]
      rfl
    · rw [cmu]
      refine (entries z q).trans ?_
      rw [if_pos rfl]
      cases side <;> rfl
    · rw [cmu]
      exact (entries z' q').trans (if_neg other)
    · rw [cmu]; exact sensors
    · rw [cmu]; exact band

end Sys2Proof.Machine

/-! PROOFS. Notices on the board: what a post leaves there, and that what stands there stays until it
is sent (R161 to R166). -/

namespace Sys2Proof.Machine

open Sys2Proof Host

variable {s u : State} {n m : Notice}

/-! ## A post by its row (R162, R163) -/

/-- A post whose kind the mask disables (R162, first row). -/
theorem boardPost_of_disabled {mask : BitVec 16} (disabled : n.enabledBy mask = false)
    (board : List BoardEntry) : boardPost mask n board = board := by
  simp [boardPost, disabled]

/-- A post whose key the board holds (R162, second row). -/
theorem boardPost_of_held {mask : BitVec 16} (enabled : n.enabledBy mask = true)
    {board : List BoardEntry} (held : holdsKey board n = true) :
    boardPost mask n board = mergeInto board n := by
  simp [boardPost, enabled, held]

/-- A post that finds room (R162, third row). -/
theorem boardPost_of_room {mask : BitVec 16} (enabled : n.enabledBy mask = true)
    {board : List BoardEntry} (new : holdsKey board n = false) (keyed : n ≠ .boardFull)
    (room : keyedCount board < 63) : boardPost mask n board = board ++ [⟨n, 1⟩] := by
  simp [boardPost, enabled, new, keyed, Config.keyedCapacity, room, atTail]

/-- A post that finds no room (R163). -/
theorem boardPost_of_full {mask : BitVec 16} (enabled : n.enabledBy mask = true)
    {board : List BoardEntry} (new : holdsKey board n = false) (full : 63 ≤ keyedCount board) :
    boardPost mask n board = boardFullPost mask board := by
  have noRoom : ¬ keyedCount board < Config.keyedCapacity := Nat.not_lt.mpr full
  simp [boardPost, enabled, new, noRoom]

/-! ## What stands on a board -/

/-- A notice stands on a list of entries. -/
def StandsOn (n : Notice) (board : List BoardEntry) : Prop := ∃ e ∈ board, e.notice = n

/-- A merge of another key leaves an entry, and a merge of its own leaves its notice. -/
theorem StandsOn.mergeInto {board : List BoardEntry} (h : StandsOn n board)
    (apart : m.key = n.key → m = n) : StandsOn n (mergeInto board m) := by
  obtain ⟨e, mem, rfl⟩ := h
  refine ⟨_, List.mem_map_of_mem mem, ?_⟩
  by_cases same : e.notice.key = m.key
  · rw [if_pos same]; exact apart same.symm
  · rw [if_neg same]

/-- A merge puts its notice where its key stood. -/
theorem standsOn_mergeInto {board : List BoardEntry} (held : holdsKey board n = true) :
    StandsOn n (mergeInto board n) := by
  obtain ⟨e, mem, same⟩ := (holdsKey_eq_true_iff board n).mp held
  exact ⟨_, List.mem_map_of_mem mem, by rw [if_pos same]⟩

theorem StandsOn.append {board : List BoardEntry} (h : StandsOn n board) (l : List BoardEntry) :
    StandsOn n (board ++ l) := by
  obtain ⟨e, mem, same⟩ := h
  exact ⟨e, List.mem_append_left _ mem, same⟩

/-- The post of BOARD_FULL loses nothing (R163). -/
theorem StandsOn.boardFullPost {board : List BoardEntry} (h : StandsOn n board)
    (mask : BitVec 16) : StandsOn n (boardFullPost mask board) := by
  unfold Machine.boardFullPost
  split
  · exact h
  · split
    · exact h.mergeInto fun same => ((Notice.key_eq_boardFull_iff n).mp same.symm).symm
    · exact h.append _

/-- A post under another key loses nothing that stands (R162). -/
theorem StandsOn.boardPost {board : List BoardEntry} (h : StandsOn n board)
    (apart : m.key = n.key → m = n) (mask : BitVec 16) : StandsOn n (boardPost mask m board) := by
  unfold Machine.boardPost
  split
  · exact h
  · split
    · exact h.mergeInto apart
    · split
      · exact h.append _
      · exact h.boardFullPost mask

/-- A post that finds room stands (R162). -/
theorem standsOn_boardPost {mask : BitVec 16} (enabled : n.enabledBy mask = true)
    (keyed : n ≠ .boardFull) {board : List BoardEntry} (room : keyedCount board < 63) :
    StandsOn n (boardPost mask n board) := by
  cases held : holdsKey board n with
  | true => rw [boardPost_of_held enabled held]; exact standsOn_mergeInto held
  | false => rw [boardPost_of_room enabled held keyed room]; exact ⟨⟨n, 1⟩, by simp, rfl⟩

/-- A post adds at most one keyed entry (R162, R163). -/
theorem keyedCount_boardPost (mask : BitVec 16) (n : Notice) (board : List BoardEntry) :
    keyedCount (boardPost mask n board) ≤ keyedCount board + 1 := by
  have tail : ∀ m : Notice, keyedCount (atTail board m) ≤ keyedCount board + 1 := fun m => by
    simp only [keyedCount, atTail, List.filter_append, List.length_append]
    exact Nat.add_le_add_left (List.length_filter_le _ [_]) _
  unfold boardPost
  split
  · omega
  · split
    · rw [keyedCount_mergeInto]; omega
    · split
      · exact tail n
      · unfold boardFullPost
        split
        · omega
        · split
          · rw [keyedCount_mergeInto]; omega
          · exact tail _

/-- The arbiter adds nothing to the board (R165). -/
theorem keyedCount_arbitrate (b : Bli) : keyedCount b.arbitrate.board ≤ keyedCount b.board := by
  rcases b.arbitrate_board with same | tail
  · rw [same]
  · rw [tail]
    exact ((List.tail_sublist _).filter _).length_le

/-! ## What a link announces -/

/-- A notice that a link announces rests on its board and its transmitter. -/
def Bli.Announces (b : Bli) (n : Notice) : Prop :=
  StandsOn n b.board ∨ ∃ e, e.notice = n ∧ b.tx = .sending (.notice e)

theorem State.announces_iff (s : State) (n : Notice) : s.Announces n ↔ s.bli.Announces n := Iff.rfl

/-- The arbiter loses no notice that stands (R165). -/
theorem Bli.Announces.arbitrate {b : Bli} (h : b.Announces n) : b.arbitrate.Announces n := by
  unfold Bli.arbitrate
  split
  · next idle =>
    have stands : StandsOn n b.board := by
      rcases h with stands | ⟨e, -, sending⟩
      · exact stands
      · rw [idle.1] at sending; cases sending
    split
    · exact .inl stands
    · split
      · exact .inl stands
      · split
        · next e rest board =>
          obtain ⟨e', mem, same⟩ := stands
          rw [board, List.mem_cons] at mem
          rcases mem with rfl | mem
          · exact .inr ⟨e', same, rfl⟩
          · exact .inl ⟨e', mem, same⟩
        · exact .inl stands
  · exact h

/-- A placement loses no notice that stands (R165). -/
theorem State.Announces.settlePlacement {b : Bli} (h : b.Announces n) (s : State) :
    (s.settlePlacement b).Announces n := by
  rw [State.announces_iff, State.settlePlacement, State.setBli_bli]
  split
  · exact h.arbitrate
  · exact h

/-- The end of an event loses no notice that stands (R165). -/
theorem State.Announces.finish (h : s.Announces n) : (finish s).Announces n :=
  Bli.Announces.arbitrate (b := s.bli) h

/-- An answer placed loses no notice that stands (R156). -/
theorem State.Announces.placeAnswer (h : s.Announces n) (dest : Byte) (a : Answering) :
    (placeAnswer dest a s).Announces n :=
  State.Announces.settlePlacement (b := { s.bli with replySlot := some ⟨dest, a⟩ }) h s

/-- A post under another key loses no notice that stands (R162). -/
theorem State.Announces.post (h : s.Announces n) (apart : m.key = n.key → m = n) :
    (post m s).Announces n := by
  refine State.Announces.settlePlacement (b := s.posted m) ?_ s
  rcases h with stands | sending
  · exact .inl (StandsOn.boardPost stands apart _)
  · exact .inr sending

/-- A post that finds room stands at once (R162). -/
theorem post_announces (enabled : n.enabledBy s.tbu.active.bus.mask = true) (keyed : n ≠ .boardFull)
    (room : keyedCount s.bli.board < 63) : (post n s).Announces n :=
  State.Announces.settlePlacement (b := s.posted n) (.inl (standsOn_boardPost enabled keyed room)) s

/-- A post fills at most one place more (R162). -/
theorem keyedCount_post (n : Notice) (s : State) :
    keyedCount (post n s).bli.board ≤ keyedCount s.bli.board + 1 := by
  have posted : keyedCount (s.posted n).board ≤ keyedCount s.bli.board + 1 :=
    keyedCount_boardPost _ n _
  rw [post, State.settlePlacement, State.setBli_bli]
  split
  · exact (keyedCount_arbitrate _).trans posted
  · exact posted

/-- A list of posts fills at most as many places (R162). -/
theorem keyedCount_postAll (ns : List Notice) (s : State) :
    keyedCount (postAll ns s).bli.board ≤ keyedCount s.bli.board + ns.length := by
  unfold postAll
  induction ns generalizing s with
  | nil => simp
  | cons n ns ih =>
    have first := keyedCount_post n s
    have rest := ih (post n s)
    simp only [List.foldl_cons, List.length_cons] at rest ⊢
    omega

/-- A list of posts under other keys loses no notice that stands (R162). -/
theorem State.Announces.postAll (h : s.Announces n) {ns : List Notice}
    (apart : ∀ m ∈ ns, m.key = n.key → m = n) : (postAll ns s).Announces n := by
  unfold Machine.postAll
  induction ns generalizing s with
  | nil => exact h
  | cons m ns ih =>
    exact ih (h.post (apart m (by simp))) fun k mem => apart k (by simp [mem])

/-! ## Settles O36 -/

/-- The board after a post that the arbiter does not follow at once (assumption log 4). -/
theorem post_board_of_not_eager (late : s.order.eager = false) (n : Notice) :
    (post n s).bli.board = boardPost s.tbu.active.bus.mask n s.bli.board := by
  simp [post, State.settlePlacement, late, State.posted]

/-- Settles O36, row by row. -/
theorem postFollowsFirstRow : Obligations.PostFollowsFirstRow := by
  unfold Obligations.PostFollowsFirstRow
  intro s n late mask b b'
  have board : b' = boardPost mask n b := post_board_of_not_eager late n
  rw [board]
  refine ⟨fun disabled => boardPost_of_disabled disabled b, fun enabled held => ?_,
    fun enabled new keyed room => ?_, fun enabled new keyed full => ?_⟩
  · exact boardPost_of_held enabled ((holdsKey_eq_true_iff b n).mpr held)
  · exact boardPost_of_room enabled ((holdsKey_eq_false_iff b n).mpr new) keyed room
  · have held : holdsKey b .boardFull = b.any fun e => e.notice == .boardFull := by
      simp [holdsKey, Notice.key_eq_boardFull_iff, beq_eq_decide]
    rw [boardPost_of_full enabled ((holdsKey_eq_false_iff b n).mpr new) full, boardFullPost, held]
    have bit : Notice.boardFull.enabledBy mask = mask.getLsbD 15 := rfl
    rw [bit]
    simp only [mergeInto, Notice.key_eq_boardFull_iff, atTail, Bool.not_eq_true']
    rfl

end Sys2Proof.Machine

/-! PROOFS. COMMANDs: the checks of R126, the taking of a SET and of an ACTION (R127, R128), and the
messages that no block answers (R154, R157). -/

namespace Sys2Proof.Machine

open Sys2Proof Host

variable {s u : State} {o : Origin} {k : Fin 48} {r : ActuatorRecord}

/-! ## The outcome of a COMMAND that is taken at once -/

/-- A COMMAND that is taken at once is judged and done, its RESULT placed, and the event ended. -/
theorem exec_command_of_taken (takes : s.TakesAtOnce) {i : Instr} {body : List Byte}
    (arrives : arrivalOf i = some (o, kindCommand, body)) {result : CmdResult}
    (taken : takeCommand o.source body (setCommission o.commission s) = (u, result)) :
    ∃ t, exec i s = .next t ∧ t = { u with bli := t.bli, schedule := t.schedule }
      ∧ t.Answers o.source (.result result)
      ∧ ∀ n, u.Announces n → t.Announces n := by
  have run : exec i s = .next (finish (placeAnswer o.source (.result result) u)) := by
    rw [Laws.exec_arrival s arrives, messageArrives_of_takesAtOnce takes]
    simp [dispatch, answerCommand, taken]
  exact ⟨_, run, rfl, (placeAnswer_answers ..).finish, fun n h => (h.placeAnswer ..).finish⟩

/-- A COMMAND with no effect (R126). -/
theorem exec_command_of_refused (takes : s.TakesAtOnce) {i : Instr} {body : List Byte}
    (arrives : arrivalOf i = some (o, kindCommand, body)) {result : CmdResult}
    (refused : takeCommand o.source body (setCommission o.commission s)
      = (setCommission o.commission s, result)) :
    ∃ t, exec i s = .next t
      ∧ t = { s with pins := s.pinsOf o, bli := t.bli, schedule := t.schedule }
      ∧ t.Answers o.source (.result result) := by
  obtain ⟨t, run, same, answers, -⟩ := exec_command_of_taken takes arrives refused
  exact ⟨t, run, same, answers⟩

/-! ## Bodies (R204) -/

/-- Two bytes of a value spell it. -/
@[simp] theorem halfOf_be16 (h : Half) : halfOf (h.extractLsb' 8 8) (h.extractLsb' 0 8) = h := by
  unfold halfOf
  rw [BitVec.extractLsb'_append_extractLsb'_eq_extractLsb' (by rfl)]
  simp

@[simp] theorem commandId_commandBody (id value : Half) (node kind : Byte) :
    commandId (commandBody id node kind value) = id := halfOf_be16 id

@[simp] theorem commandNode_commandBody (id value : Half) (node kind : Byte) :
    commandNode (commandBody id node kind value) = some [node] := rfl

/-- The id of a COMMAND is its first two bytes (R204). -/
theorem commandId_eq (body : List Byte) :
    commandId body = (match body with
      | hi :: lo :: _ => hi ++ lo
      | _ => 0#16) := by
  rcases body with _ | ⟨_, _ | _⟩ <;> rfl

/-- The node of a COMMAND is its third byte (R204). -/
theorem commandNode_eq (body : List Byte) :
    commandNode body = (match body with
      | _ :: _ :: node :: _ => some [node]
      | _ => none) := by
  rcases body with _ | ⟨_, _ | ⟨_, _ | _⟩⟩ <;> rfl

@[simp] theorem parseCommand_set (id value : Half) (node : Byte) :
    parseCommand (commandBody id node 1#8 value) = some ⟨id, node.toNat, .set value⟩ := by
  simp [parseCommand, commandBody, be16]

@[simp] theorem parseCommand_action (id code : Half) (node : Byte) :
    parseCommand (commandBody id node 2#8 code) = some ⟨id, node.toNat, .action code⟩ := by
  simp [parseCommand, commandBody, be16]

/-- A body is read as a COMMAND where it has the length and the kind byte of one (R204). -/
theorem parseCommand_eq_none {body : List Byte} (neither : isSetOrAction body = false) :
    parseCommand body = none := by
  unfold parseCommand
  split
  · next kind _ _ =>
    have known : ¬ kind = 1#8 ∧ ¬ kind = 2#8 := by simpa [isSetOrAction] using neither
    rw [if_neg known.1, if_neg known.2]
  · rfl

/-! ## The checks (R126) -/

section
variable {source : Byte} {body : List Byte}

/-- A COMMAND while the FLC is STOPPED (R126, check 1). -/
theorem takeCommand_of_stopped (stopped : s.flc.state = .stopped) :
    takeCommand source body s = (s, ⟨commandId body, .notRunning, .nothing⟩) := if_pos stopped

/-- A COMMAND below OPERATE (R126, check 2). -/
theorem takeCommand_of_denied (cycling : s.flc.state ≠ .stopped)
    (level : (s.level source).allows .operate = false) :
    takeCommand source body s
      = (deny source .command (commandNode body) s, ⟨commandId body, .denied, .nothing⟩) := by
  simp [takeCommand, cycling, level]

/-- A COMMAND past the first two checks (R126). -/
theorem takeCommand_of_allowed (cycling : s.flc.state ≠ .stopped)
    (level : (s.level source).allows .operate = true) :
    takeCommand source body s = commandEffect body s := by
  simp [takeCommand, cycling, level]

/-- A COMMAND that is neither SET nor ACTION (R126, check 3). -/
theorem commandEffect_of_unread (unread : parseCommand body = none) :
    commandEffect body s = (s, ⟨commandId body, .range, .nothing⟩) := by
  simp [commandEffect, unread]

/-- A COMMAND refused by checks 4 to 9 (R126). -/
theorem commandEffect_of_refused {c : Command} (read : parseCommand body = some c) {status : Status}
    (refused : judgeCommand s c = .inl status) :
    commandEffect body s = (s, ⟨c.id, status, .nothing⟩) := by
  simp [commandEffect, read, refused]

/-- A SET past every check is taken (R126, R127). -/
theorem commandEffect_of_set {id v : Half} {node : Nat}
    (read : parseCommand body = some ⟨id, node, .set v⟩)
    (judged : judgeCommand s ⟨id, node, .set v⟩ = .inr (k, r)) :
    commandEffect body s
      = (takeSet k r id (setValue r.kind v) s, setResult s r id (setValue r.kind v)) := by
  simp [commandEffect, read, judged]

/-- An ACTION past every check is taken (R126, R128). -/
theorem commandEffect_of_action {id code : Half} {node : Nat} {a : ActionCode}
    (read : parseCommand body = some ⟨id, node, .action code⟩)
    (judged : judgeCommand s ⟨id, node, .action code⟩ = .inr (k, r))
    (known : ActionCode.ofCode code.toNat = some a) :
    commandEffect body s
      = (takeAction k r id a s, ⟨id, .taken, .action (r.queue.length + 1)⟩) := by
  simp [commandEffect, read, judged, known]

end

/-! ### Checks 4 to 9 -/

/-- The slot of a node is the used slot that has it (R126). -/
theorem Tables.slotOfNode_eq_none_iff (t : Tables) (node : Nat) :
    t.slotOfNode node = none
      ↔ ∀ k, (t.slots.get k).isUsed = true → (t.slots.get k).node ≠ some node := by
  rw [Tables.slotOfNode, Tab.find?_eq_none_iff]
  exact forall_congr' fun k => by simp

theorem judgeCommand_of_unknown {c : Command} (h : s.tbu.active.slotOfNode c.node = none) :
    judgeCommand s c = .inl .unknownNode := by
  simp [judgeCommand, h]

theorem judgeCommand_of_none {c : Command} (slot : s.tbu.active.slotOfNode c.node = some k)
    (none_ : s.cgu.actuators.get k = none) : judgeCommand s c = .inl .notActuator := by
  simp [judgeCommand, slot, none_]

/-- The checks of a SET whose actuator has a record (R126). -/
theorem judgeCommand_set {node : Nat} (slot : s.tbu.active.slotOfNode node = some k)
    (held : s.cgu.actuators.get k = some r) (id v : Half) :
    judgeCommand s ⟨id, node, .set v⟩
      = if r.kind.accepts (setValue r.kind v) = false then .inl .range
        else if r.kind = .humidifier ∧ (s.tbu.active.zoneRec r.zone).isCurve = true
            ∧ s.cmu.band = none
        then .inl .noReference
        else .inr (k, r) := by
  simp [judgeCommand, slot, held]

/-- The checks of an ACTION whose actuator has a record (R126). -/
theorem judgeCommand_action {node : Nat} (slot : s.tbu.active.slotOfNode node = some k)
    (held : s.cgu.actuators.get k = some r) (id code : Half) :
    judgeCommand s ⟨id, node, .action code⟩
      = if (ActionCode.ofCode code.toNat).isNone = true then .inl .range
        else if r.link = .lost then .inl .actuatorLost
        else if 4 ≤ r.queue.length then .inl .queueFull
        else .inr (k, r) := by
  simp only [judgeCommand, slot, held]
  rfl

/-- A SET value is signed for CLIMATE, unsigned otherwise (R205). -/
theorem setValue_eq (kind : ActKind) (v : Half) :
    setValue kind v = if kind = .climate then v.toInt else (v.toNat : Int) := by
  cases kind <;> rfl

/-- A value outside a kind's range (section 6 outline). -/
theorem ActKind.accepts_eq_false_iff (kind : ActKind) (v : Int) :
    kind.accepts v = false ↔ v < kind.low ∨ kind.high < v := by
  rw [ActKind.accepts, Bool.and_eq_false_iff, decide_eq_false_iff_not, decide_eq_false_iff_not,
    not_le, not_le]

/-- The action codes are 1 to 3 (R203). -/
theorem ActionCode.ofCode_isNone_iff (n : Nat) :
    (ActionCode.ofCode n).isNone = true ↔ n = 0 ∨ 3 < n := by
  rcases n with _ | _ | _ | _ | n <;> simp [ActionCode.ofCode]

@[simp] theorem ActionCode.ofCode_code (a : ActionCode) : ActionCode.ofCode a.code = some a := by
  cases a <;> rfl

/-! ## Settles O33 -/

section
variable {i : Instr} {body : List Byte} {id : Half} {node : Option (List Byte)}

/-- A COMMAND while the FLC is STOPPED has no effect (R126, check 1). -/
theorem exec_command_notRunning (takes : s.TakesAtOnce)
    (arrives : arrivalOf i = some (o, kindCommand, body)) (carries : commandId body = id)
    (stopped : s.flc.state = .stopped) :
    ∃ t, exec i s = .next t
      ∧ t = { s with pins := s.pinsOf o, bli := t.bli, schedule := t.schedule }
      ∧ t.Answers o.source (.result ⟨id, .notRunning, .nothing⟩) := by
  subst carries
  exact exec_command_of_refused takes arrives (takeCommand_of_stopped stopped)

/-- A COMMAND below OPERATE is recorded, and nothing else changes (R176, R177). -/
theorem exec_command_denied (takes : s.TakesAtOnce)
    (arrives : arrivalOf i = some (o, kindCommand, body)) (carries : commandId body = id)
    (subject : commandNode body = node) (cycling : s.flc.state ≠ .stopped)
    (level : (s.levelOf o).allows .operate = false) :
    ∃ t, exec i s = .next t
      ∧ t = { s with pins := s.pinsOf o, mrh := t.mrh, bli := t.bli, schedule := t.schedule }
      ∧ t.mrh = { s.mrh with fault := match s.mrh.fault with
          | none => some ⟨o.source, .command, node, false⟩
          | some f => some { f with further := true } }
      ∧ t.Answers o.source (.result ⟨id, .denied, .nothing⟩) := by
  subst carries subject
  obtain ⟨t, run, same, answers, -⟩ := exec_command_of_taken takes arrives
    (takeCommand_of_denied (s := setCommission o.commission s) cycling level)
  have mrh : t.mrh = { s.mrh with
      fault := recordDenial o.source .command (commandNode body) s.mrh.fault } := by
    rw [same]; rfl
  refine ⟨t, run, ?_, ?_, answers⟩
  · rw [mrh]; exact same
  · rw [mrh]; cases s.mrh.fault <;> rfl

end

/-- A SET or ACTION that checks 4 to 9 refuse has no effect (R126). -/
theorem exec_command_refused (takes : s.TakesAtOnce) {i : Instr} {body : List Byte}
    (arrives : arrivalOf i = some (o, kindCommand, body)) (cycling : s.flc.state ≠ .stopped)
    (level : (s.levelOf o).allows .operate = true) {c : Command} (read : parseCommand body = some c)
    {status : Status} (refused : judgeCommand s c = .inl status) :
    ∃ t, exec i s = .next t
      ∧ t = { s with pins := s.pinsOf o, bli := t.bli, schedule := t.schedule }
      ∧ t.Answers o.source (.result ⟨c.id, status, .nothing⟩) :=
  exec_command_of_refused takes arrives
    ((takeCommand_of_allowed (s := setCommission o.commission s) cycling level).trans
      (commandEffect_of_refused read refused))

/-- Settles O33, check by check. -/
theorem commandsAreJudgedFirst : Obligations.CommandsAreJudgedFirst := by
  unfold Obligations.CommandsAreJudgedFirst
  intro s o takes
  refine ⟨fun id value node => ⟨fun stopped => ?_, fun stopped => ?_, fun cycling level => ?_,
    fun cycling level => ?_, fun cycling level => ⟨fun unknown => ?_, fun k slot =>
      ⟨fun none_ => ⟨?_, ?_⟩, fun r held => ?_⟩⟩⟩, fun body wf => ?_⟩
  · exact exec_command_notRunning takes rfl (commandId_commandBody id value node 1#8) stopped
  · exact exec_command_notRunning takes rfl (commandId_commandBody id value node 2#8) stopped
  · exact exec_command_denied takes rfl (commandId_commandBody id value node 1#8) rfl cycling level
  · exact exec_command_denied takes rfl (commandId_commandBody id value node 2#8) rfl cycling level
  · have unknown := (s.tbu.active.slotOfNode_eq_none_iff node.toNat).mpr unknown
    exact ⟨exec_command_refused takes rfl cycling level (parseCommand_set id value node)
        (judgeCommand_of_unknown unknown),
      exec_command_refused takes rfl cycling level (parseCommand_action id value node)
        (judgeCommand_of_unknown unknown)⟩
  · exact exec_command_refused takes rfl cycling level (parseCommand_set id value node)
      (judgeCommand_of_none slot none_)
  · exact exec_command_refused takes rfl cycling level (parseCommand_action id value node)
      (judgeCommand_of_none slot none_)
  · have inside {v : Int} (above : r.kind.low ≤ v) (below : v ≤ r.kind.high) :
        ¬ r.kind.accepts v = false := by
      rw [ActKind.accepts_eq_false_iff]; omega
    have set {status : Status} (h : judgeCommand s ⟨id, node.toNat, .set value⟩ = .inl status) :=
      exec_command_refused (i := .commandSet o id node value) takes rfl cycling level
        (parseCommand_set id value node) h
    have action {status : Status}
        (h : judgeCommand s ⟨id, node.toNat, .action value⟩ = .inl status) :=
      exec_command_refused (i := .commandAction o id node value) takes rfl cycling level
        (parseCommand_action id value node) h
    rw [judgeCommand_set slot held] at set
    rw [judgeCommand_action slot held] at action
    simp only [← setValue_eq]
    refine ⟨fun outside => set ?_, fun above below kind curve band => set ?_, fun code => action ?_,
      fun one three lost => action ?_, fun one three link full => action ?_⟩
    · refine if_pos ((r.kind.accepts_eq_false_iff _).mpr ?_)
      revert outside
      cases r.kind <;> exact fun h => h
    · rw [kind] at above below inside ⊢
      rw [if_neg (inside above below), if_pos ⟨rfl, curve, band⟩]
    · exact if_pos ((ActionCode.ofCode_isNone_iff _).mpr code)
    · rw [if_neg (by rw [ActionCode.ofCode_isNone_iff]; omega), if_pos lost]
    · rw [if_neg (by rw [ActionCode.ofCode_isNone_iff]; omega), if_neg link, if_pos full]
  · have neither : isSetOrAction body = false := by
      simp only [Instr.wellFormed, Bool.and_eq_true, Bool.not_eq_true'] at wf
      exact wf.1
    have carries := commandId_eq body
    refine ⟨exec_command_notRunning takes rfl carries,
      exec_command_denied takes rfl carries (commandNode_eq body), fun cycling level => ?_⟩
    have refused := exec_command_of_refused takes (i := .commandNeitherSetNorAction o body) rfl
      ((takeCommand_of_allowed (s := setCommission o.commission s) cycling level).trans
        (commandEffect_of_unread (parseCommand_eq_none neither)))
    rw [carries] at refused
    exact refused

/-! ## Settling (R130) -/

/-- An effective target rests on the tables, the conditions and the ceilings (R124). -/
theorem effectiveTarget_congr (tbu : u.tbu = s.tbu) (cmu : u.cmu = s.cmu) (zcu : u.zcu = s.zcu)
    (r : ActuatorRecord) : effectiveTarget u r = effectiveTarget s r := by
  simp only [effectiveTarget, clampTarget, tbu, cmu, zcu]

/-- What a settle check finds rests on the tables, the conditions and the ceilings (R124, R130). -/
theorem settledSet_congr (tbu : u.tbu = s.tbu) (cmu : u.cmu = s.cmu) (zcu : u.zcu = s.zcu)
    (r : ActuatorRecord) : settledSet u r = settledSet s r := by
  simp only [settledSet, effectiveTarget_congr tbu cmu zcu]

/-- What a settle check finds settled is the owed id (R130). -/
theorem latestSet_of_settledSet {id : Half} (h : settledSet s r = some id) :
    r.latestSet = some id := by
  unfold settledSet at h
  split at h
  · next owed _ =>
    split at h
    · rw [owed, h]
    · cases h
  · cases h

/-- A settle check that finds nothing settled does nothing (R130). -/
theorem settleCheck_of_unsettled (held : s.cgu.actuators.get k = some r)
    (unsettled : settledSet s r = none) : settleCheck k s = s := by
  simp [settleCheck, held, unsettled]

/-- A settle check that finds a SET settled posts DONE, and its id is owed no more (R130). -/
theorem settleCheck_of_settled (held : s.cgu.actuators.get k = some r) {id : Half}
    (settled : settledSet s r = some id) :
    settleCheck k s
      = post (.commandOutcome r.node id .done) (putActuator k { r with latestSet := none } s) := by
  simp [settleCheck, held, settled]

/-- A record after its settle check (R130). -/
def settledRecord (s : State) (r : ActuatorRecord) : ActuatorRecord :=
  { r with latestSet := if settledSet s r = none then r.latestSet else none }

/-- The record of a settle check, and that no other changes (R130). -/
theorem settleCheck_actuators (held : s.cgu.actuators.get k = some r) :
    (settleCheck k s).cgu.actuators.get k = some (settledRecord s r)
      ∧ ∀ j, j ≠ k → (settleCheck k s).cgu.actuators.get j = s.cgu.actuators.get j := by
  cases settled : settledSet s r with
  | none => simp [settleCheck_of_unsettled held settled, settledRecord, settled, held]
  | some id =>
    rw [settleCheck_of_settled held settled]
    exact ⟨by simp [putActuator, Cgu.setActuator, settledRecord, settled],
      fun j other => by simp [putActuator, Cgu.setActuator, Tab.get_set_ne _ _ other]⟩

/-! ## Two posts under one key (R162) -/

/-- A notice fits on a board of fewer than `room` keyed entries, or of no more where its key is one
of them (R162). -/
def Fits (n : Notice) (room : Nat) (board : List BoardEntry) : Prop :=
  keyedCount board < room ∨ holdsKey board n = true ∧ keyedCount board ≤ room

section
variable {n m : Notice} {room : Nat} {board : List BoardEntry}

theorem Fits.mono {more : Nat} (fits : Fits n room board) (le : room ≤ more) :
    Fits n more board := by
  rcases fits with few | ⟨held, few⟩
  · exact .inl (by omega)
  · exact .inr ⟨held, by omega⟩

/-- A post that finds its place stands (R162). -/
theorem Fits.standsOn {mask : BitVec 16} (fits : Fits n room board) (le : room ≤ 63)
    (enabled : n.enabledBy mask = true) (keyed : n ≠ .boardFull) :
    StandsOn n (boardPost mask n board) := by
  rcases fits with few | ⟨held, -⟩
  · exact standsOn_boardPost enabled keyed (by omega)
  · rw [boardPost_of_held enabled held]; exact standsOn_mergeInto held

/-- A merge changes no key (R162). -/
theorem holdsKey_mergeInto (board : List BoardEntry) (m n : Notice) :
    holdsKey (mergeInto board m) n = holdsKey board n := by
  simp only [holdsKey, mergeInto, List.any_map]
  congr 1
  funext e
  by_cases same : e.notice.key = m.key
  · simp [same]
  · simp [same]

/-- A post takes no key off the board (R162). -/
theorem holdsKey_boardPost (held : holdsKey board n = true) (mask : BitVec 16) (m : Notice) :
    holdsKey (boardPost mask m board) n = true := by
  have merge (m : Notice) : holdsKey (mergeInto board m) n = true := by
    rw [holdsKey_mergeInto]; exact held
  have tail (m : Notice) : holdsKey (atTail board m) n = true := by
    simp [holdsKey, atTail] at held ⊢; exact .inl held
  unfold boardPost
  split
  · exact held
  · split
    · exact merge m
    · split
      · exact tail m
      · unfold boardFullPost
        split
        · exact held
        · split
          · exact merge _
          · exact tail _

/-- A post under another key takes at most one place (R162). -/
theorem Fits.boardPost (fits : Fits n room board) (mask : BitVec 16) (m : Notice) :
    Fits n (room + 1) (boardPost mask m board) := by
  have more := keyedCount_boardPost mask m board
  rcases fits with few | ⟨held, few⟩
  · exact .inl (by omega)
  · exact .inr ⟨holdsKey_boardPost held mask m, by omega⟩

/-- A post under a notice's own key takes the notice's place for it (R162). -/
theorem Fits.boardPost_same (fits : Fits n room board) (le : room ≤ 63) (keyed : n ≠ .boardFull)
    (same : m.key = n.key) (mask : BitVec 16) : Fits n room (Machine.boardPost mask m board) := by
  have key (b : List BoardEntry) : holdsKey b m = holdsKey b n := by simp only [holdsKey, same]
  cases enabled : m.enabledBy mask with
  | false => rw [boardPost_of_disabled enabled]; exact fits
  | true =>
    cases held : holdsKey board m with
    | true =>
      have few : keyedCount board ≤ room := by
        rcases fits with few | ⟨-, few⟩
        · exact few.le
        · exact few
      rw [boardPost_of_held enabled held]
      exact .inr ⟨by rw [holdsKey_mergeInto, ← key, held], by rw [keyedCount_mergeInto]; exact few⟩
    | false =>
      have few : keyedCount board < room := by
        rcases fits with few | ⟨held', -⟩
        · exact few
        · rw [← key, held] at held'; cases held'
      have keyed' : m ≠ .boardFull := fun full => by
        rw [full] at same
        exact keyed ((Notice.key_eq_boardFull_iff n).mp same.symm)
      have more := keyedCount_boardPost mask m board
      rw [boardPost_of_room enabled held keyed' (by omega)] at more ⊢
      refine .inr ⟨?_, by omega⟩
      rw [← key, holdsKey_eq_true_iff]
      exact ⟨⟨m, 1⟩, by simp, rfl⟩

/-- The entry that the arbiter takes leaves its place (R165). -/
theorem Fits.arbitrate {b : Bli} (fits : Fits n room b.board) (keyed : n ≠ .boardFull) :
    Fits n room b.arbitrate.board := by
  rcases b.arbitrate_board with same | tail
  · rw [same]; exact fits
  · rw [tail]
    cases board : b.board with
    | nil => rw [board] at fits; exact fits
    | cons e rest =>
      rw [board] at fits
      have count : keyedCount (e :: rest) = keyedCount rest + if e.keyed then 1 else 0 := by
        unfold keyedCount
        rw [List.filter_cons]
        split <;> rfl
      rcases fits with few | ⟨held, few⟩
      · exact .inl (show keyedCount rest < room by omega)
      · by_cases own : e.notice.key = n.key
        · have taken : e.keyed = true := by
            rw [BoardEntry.keyed, bne_iff_ne]
            intro full
            rw [full] at own
            exact keyed ((Notice.key_eq_boardFull_iff n).mp own.symm)
          rw [taken] at count
          exact .inl (show keyedCount rest < room by simp only [if_true] at count; omega)
        · refine .inr ⟨?_, show keyedCount rest ≤ room by omega⟩
          simpa [holdsKey, own] using held

/-- A placement takes no place (R165). -/
theorem Fits.settlePlacement {b : Bli} (fits : Fits n room b.board) (keyed : n ≠ .boardFull)
    (s : State) : Fits n room (s.settlePlacement b).bli.board := by
  rw [State.settlePlacement, State.setBli_bli]
  split
  · exact fits.arbitrate keyed
  · exact fits

/-- A post under another key takes at most one place (R162). -/
theorem Fits.post (fits : Fits n room s.bli.board) (keyed : n ≠ .boardFull) (m : Notice) :
    Fits n (room + 1) (post m s).bli.board :=
  Fits.settlePlacement (b := s.posted m) (fits.boardPost _ m) keyed s

/-- A post under a notice's own key takes the notice's place for it (R162). -/
theorem Fits.post_same (fits : Fits n room s.bli.board) (le : room ≤ 63) (keyed : n ≠ .boardFull)
    (same : m.key = n.key) : Fits n room (Machine.post m s).bli.board :=
  Fits.settlePlacement (b := s.posted m) (fits.boardPost_same le keyed same _) keyed s

/-- A list of posts takes at most one place each (R162). -/
theorem Fits.postAll (fits : Fits n room s.bli.board) (keyed : n ≠ .boardFull) (ns : List Notice) :
    Fits n (room + ns.length) (postAll ns s).bli.board := by
  unfold Machine.postAll
  induction ns generalizing s room with
  | nil => exact fits
  | cons m ns ih => exact (ih (fits.post keyed m)).mono (by simp only [List.length_cons]; omega)

/-- A post that finds its place stands at once (R162). -/
theorem Fits.announces (fits : Fits n room s.bli.board) (le : room ≤ 63)
    (enabled : n.enabledBy s.tbu.active.bus.mask = true) (keyed : n ≠ .boardFull) :
    (Machine.post n s).Announces n :=
  State.Announces.settlePlacement (b := s.posted n) (.inl (fits.standsOn le enabled keyed)) s

end

/-! ## Settles O34 and O35 -/

/-- The target of a taken SET, its record not yet checked for settling (R127). -/
abbrev ActuatorRecord.withTarget (r : ActuatorRecord) (id : Half) (v : Int) : ActuatorRecord :=
  { r with target := some v, latestSet := some id }

/-- The post of a SET that takes an owed SET's place (R127). -/
def supersededPosts (r : ActuatorRecord) : List Notice :=
  match r.latestSet with
  | some old => [.commandOutcome r.node old .superseded]
  | none => []

/-- A taken SET in its steps: the post, the record, the settle check (R127). -/
theorem takeSet_eq (k : Fin 48) (r : ActuatorRecord) (id : Half) (v : Int) (s : State) :
    takeSet k r id v s
      = settleCheck k (putActuator k (r.withTarget id v) (postAll (supersededPosts r) s)) := rfl

/-- Every post of a SET that takes another's place is under its node's key (R161). -/
theorem key_of_mem_supersededPosts {n : Notice} (mem : n ∈ supersededPosts r) :
    n.key = (8, r.node) := by
  unfold supersededPosts at mem
  split at mem
  · rw [List.mem_singleton.mp mem]; rfl
  · cases mem

/-- What a taken SET leaves of the actuator records (R127, R130). -/
theorem takeSet_actuators (k : Fin 48) (r : ActuatorRecord) (id : Half) (v : Int) (s : State) :
    (takeSet k r id v s).cgu.actuators.get k = some (settledRecord s (r.withTarget id v))
      ∧ ∀ j, j ≠ k → (takeSet k r id v s).cgu.actuators.get j = s.cgu.actuators.get j := by
  let u := putActuator k (r.withTarget id v) (postAll (supersededPosts r) s)
  have held : u.cgu.actuators.get k = some (r.withTarget id v) := by
    simp [u, putActuator, Cgu.setActuator]
  have found : settledSet u (r.withTarget id v) = settledSet s (r.withTarget id v) :=
    settledSet_congr (by simp [u, putActuator]) (by simp [u, putActuator])
      (by simp [u, putActuator]) _
  obtain ⟨here, others⟩ := settleCheck_actuators held
  rw [takeSet_eq]
  refine ⟨by rw [here, settledRecord, settledRecord, found], fun j other => ?_⟩
  rw [others j other]
  simp [u, putActuator, Cgu.setActuator, Tab.get_set_ne _ _ other]

/-- What a taken SET posts (R127, R130). -/
theorem takeSet_announces (k : Fin 48) (r : ActuatorRecord) (id : Half) (v : Int) {c : Half}
    {outcome : CommandOutcome}
    (enabled : (Notice.commandOutcome r.node c outcome).enabledBy s.tbu.active.bus.mask = true)
    (room : keyedCount s.bli.board < 63) :
    (settledSet s (r.withTarget id v) = none → r.latestSet = some c → outcome = .superseded →
        (takeSet k r id v s).Announces (.commandOutcome r.node c outcome))
      ∧ (settledSet s (r.withTarget id v) = some c → outcome = .done →
        (takeSet k r id v s).Announces (.commandOutcome r.node c outcome)) := by
  let u := putActuator k (r.withTarget id v) (postAll (supersededPosts r) s)
  have held : u.cgu.actuators.get k = some (r.withTarget id v) := by
    simp [u, putActuator, Cgu.setActuator]
  have found : settledSet u (r.withTarget id v) = settledSet s (r.withTarget id v) :=
    settledSet_congr (by simp [u, putActuator]) (by simp [u, putActuator])
      (by simp [u, putActuator]) _
  have keyed : (.commandOutcome r.node c outcome) ≠ Notice.boardFull := nofun
  rw [takeSet_eq]
  refine ⟨fun unsettled owed superseded => ?_, fun settled done => ?_⟩
  · subst superseded
    rw [settleCheck_of_unsettled held (found.trans unsettled)]
    change (postAll (supersededPosts r) s).Announces _
    simp only [supersededPosts, owed]
    exact post_announces enabled keyed room
  · subst done
    rw [settleCheck_of_settled held (found.trans settled)]
    have fits : Fits (.commandOutcome r.node c .done) 63
        (postAll (supersededPosts r) s).bli.board := by
      unfold supersededPosts
      split
      · exact Fits.post_same (.inl room) le_rfl keyed rfl
      · exact .inl room
    exact Fits.announces (s := putActuator k _ u) fits le_rfl (by simpa [u, putActuator] using enabled) keyed

/-- Settles O34. -/
theorem setIsTakenWithItsTarget : Obligations.SetIsTakenWithItsTarget := by
  unfold Obligations.SetIsTakenWithItsTarget
  intro s o id value node k r takes cycling level slot held v accepts reference r1 effective posts
  have value_eq : setValue r.kind value = v := setValue_eq r.kind value
  have judged : judgeCommand (setCommission o.commission s) ⟨id, node.toNat, .set value⟩
      = .inr (k, r) := by
    rw [judgeCommand_set (s := setCommission o.commission s) slot held, value_eq,
      if_neg (by rw [accepts]; nofun)]
    exact if_neg reference
  obtain ⟨t, run, same, answers, announces⟩ := exec_command_of_taken takes
    (i := .commandSet o id node value) rfl
    ((takeCommand_of_allowed (s := setCommission o.commission s) cycling level).trans
      (commandEffect_of_set (parseCommand_set id value node) judged))
  rw [value_eq] at same answers announces
  have cgu : t.cgu = (takeSet k r id v (setCommission o.commission s)).cgu := by rw [same]
  have found : settledSet (setCommission o.commission s) r1 = settledSet s r1 :=
    settledSet_congr rfl rfl rfl r1
  obtain ⟨here, others⟩ := takeSet_actuators k r id v (setCommission o.commission s)
  refine ⟨t, run, ?_, ?_, fun j other => ?_, ?_, fun old owed unsettled enabled room => ?_,
    fun settled enabled room => ?_⟩
  · refine same.trans ?_
    simp only [cgu, takeSet_frame]
    rfl
  · rw [cgu, here]
    simp only [settledRecord, found, r1]
  · rw [cgu, others j other]; rfl
  · have clamped : (effective != some v) = decide (effective ≠ some v) := by
      rw [bne_eq, beq_eq_decide, decide_not]
    have deferred : (r.link == .unknown || r.link == .lost)
        = decide (r.link = .unknown ∨ r.link = .lost) := by
      cases r.link <;> rfl
    rw [← clamped, ← deferred]
    exact answers
  · exact announces _ ((takeSet_announces (s := setCommission o.commission s) k r id v enabled room).1
      (found.trans unsettled) owed rfl)
  · exact announces _ ((takeSet_announces (s := setCommission o.commission s) k r id v enabled room).2
      (found.trans settled) rfl)

/-- Settles O35. -/
theorem actionJoinsItsQueue : Obligations.ActionJoinsItsQueue := by
  unfold Obligations.ActionJoinsItsQueue
  intro s o id code node k r takes cycling level slot held
  have judge := judgeCommand_action (s := setCommission o.commission s) slot held id code
  refine ⟨fun a same_code link room => ?_, fun unknown => ?_⟩
  · have known : ActionCode.ofCode code.toNat = some a := by rw [same_code, ActionCode.ofCode_code]
    rw [known, if_neg (by simp), if_neg link, if_neg (by omega)] at judge
    obtain ⟨t, run, same, answers, -⟩ := exec_command_of_taken takes
      (i := .commandAction o id node code) rfl
      ((takeCommand_of_allowed (s := setCommission o.commission s) cycling level).trans
        (commandEffect_of_action (parseCommand_action id code node) judge known))
    have cgu : t.cgu = s.cgu.setActuator k { r with queue := r.queue ++ [⟨id, a⟩] } := by
      rw [same]; rfl
    refine ⟨t, run, ?_, ?_, fun j other => ?_, answers⟩
    · rw [cgu]; exact same
    · rw [cgu]; simp [Cgu.setActuator]
    · rw [cgu]; simp [Cgu.setActuator, Tab.get_set_ne _ _ other]
  · rw [if_pos ((ActionCode.ofCode_isNone_iff _).mpr unknown)] at judge
    exact exec_command_refused takes rfl cycling level (parseCommand_action id code node) judge

end Sys2Proof.Machine

/-! PROOFS. The building link: what it discards or answers by itself, what it sends next, and how it
receives (R152 to R157, R165, R166). -/

namespace Sys2Proof.Machine

open Sys2Proof Host

variable {s u v : State} {o : Origin}

/-! ## A transmitter that is sending -/

/-- An event's work that leaves a busy transmitter sending, and the messages held as they were. -/
structure Sends (s u : State) : Prop where
  sending : s.bli.tx ≠ .idle → u.bli.tx = s.bli.tx
  holding : u.bli.holding = s.bli.holding

@[refl] theorem Sends.refl (s : State) : Sends s s := ⟨fun _ => rfl, rfl⟩

theorem Sends.trans (h : Sends s u) (g : Sends u v) : Sends s v :=
  ⟨fun busy => (g.sending (by rw [h.sending busy]; exact busy)).trans (h.sending busy),
    g.holding.trans h.holding⟩

/-- Work leaves what the link sends and holds. -/
theorem Keeps.sends {t : Tables} (h : Keeps t s u) : Sends s u := ⟨h.sending, h.holding⟩

/-- What leaves the building link alone leaves what it sends and holds. -/
theorem Sends.of_bli (h : u.bli = s.bli) : Sends s u := ⟨fun _ => by rw [h], by rw [h]⟩

/-- A swap at a COMMIT leaves what the link sends and holds (R40). -/
theorem swapNow_sends (s : State) : Sends s (swapNow s) := by
  have swap := (activate_swapKeeps s).trans (swapWorks_swapKeeps s.tbu.active s.tbu.staged _)
  exact ⟨swap.sending, swap.holding⟩

/-- A COMMIT leaves what the link sends and holds (R40). -/
theorem commit_sends (s : State) : Sends s (commit s).1 := by
  unfold commit
  split
  · rfl
  · split
    · rfl
    · split
      · exact swapNow_sends s
      · exact .of_bli rfl

/-- A request's effect leaves what the link sends and holds (R172). -/
theorem requestEffect_sends (k : ReqKind) (source : Byte) (fields : List Byte) (s : State) :
    Sends s (requestEffect k source fields s).1 := by
  cases k with
  | readRecord => rw [requestEffect, readRecord_state]
  | readState => rw [requestEffect, readState_state]
  | linkReadAccount => exact (linkReadAccount_work (t := s.tbu.active) source fields s).sends
  | readFault => rfl
  | clearLatch => exact (clearLatchRequest_work fields s).sends
  | holdOccupied => exact (holdOccupied_work fields s).sends
  | releaseHold => exact (releaseHold_work fields s).sends
  | grantExtension => exact (grantExtension_work source fields s).sends
  | statsControl => exact .of_bli (by simp only [requestEffect, statsControl]; split <;> rfl)
  | statsClear => exact .of_bli rfl
  | clearFault => exact .of_bli rfl
  | writeRecord =>
    refine .of_bli ?_
    simp only [requestEffect, writeRecord]
    split
    · rfl
    · split
      · split <;> rfl
      · rfl
  | discardStaged => exact .of_bli (by simp only [requestEffect, discardStaged]; split <;> rfl)
  | commit => exact commit_sends s
  | suspendAccount =>
    exact (onAccount_work (fun a enabled => suspend_work enabled s rfl) rfl).sends
  | resumeAccount =>
    exact (onAccount_work (fun a enabled => resume_work enabled s rfl) rfl).sends
  | seedAccount => exact (seedAccount_work fields s).sends
  | restart => exact (restart_work (t := s.tbu.active) s).sends

/-- A request judged and done leaves what the link sends and holds (R171). -/
theorem handleRequest_sends (k : ReqKind) (source : Byte) (fields : List Byte) (s : State) :
    Sends s (handleRequest k source fields s).1 := by
  unfold handleRequest
  split
  · exact (deny_work (t := s.tbu.active) source _ _ s).sends
  · split
    · rfl
    · exact requestEffect_sends k source fields s

/-- Every message but a TIME is answered: the answer is the last thing done (R156). -/
theorem dispatch_answers {m : Message} (other : m.kind ≠ kindTime) (s : State) :
    ∃ u a, Sends s u ∧ dispatch m s = placeAnswer m.source a u := by
  unfold dispatch
  split
  · exact ⟨_, _, (takeCommand_work (t := s.tbu.active) m.source m.body s).sends, rfl⟩
  · split
    · unfold takeRequest
      split
      · exact ⟨s, _, .refl s, rfl⟩
      · split
        · exact ⟨_, _, handleRequest_sends _ m.source _ s, rfl⟩
        · exact ⟨s, _, .refl s, rfl⟩
    · exact ⟨s, _, .refl s, rfl⟩

/-! ## Taking (R155) -/

/-- Nothing is taken where the conditions do not hold. -/
theorem takeUpTo_of_not_canTake (h : s.bli.canTake = false) (n : Nat) : takeUpTo n s = s := by
  cases n with
  | zero => rfl
  | succ n => simp [takeUpTo, h]

/-- Nothing is taken where no message is held. -/
theorem takeAll_of_empty (h : s.bli.holding = []) : takeAll s = s :=
  takeUpTo_of_not_canTake (by simp [Bli.canTake, h]) _

/-- The oldest message taken while the transmitter sends and the slot is free: its answer fills the
slot, and the rest stay held (R155). -/
theorem takeAll_of_sending {x : Message} {rest : List Message} {m : OutMsg}
    (sending : s.bli.tx = .sending m) (canTake : s.bli.canTake = true)
    (holding : s.bli.holding = x :: rest) (other : x.kind ≠ kindTime) :
    ∃ a, (takeAll s).bli.holding = rest ∧ (takeAll s).bli.replySlot = some ⟨x.source, a⟩
      ∧ (takeAll s).bli.tx = .sending m := by
  let s1 := s.setBli { s.bli with holding := rest }
  obtain ⟨u, a, sends, answered⟩ := dispatch_answers other s1
  have tx : u.bli.tx = .sending m :=
    (sends.sending (by rw [show s1.bli.tx = _ from sending]; nofun)).trans sending
  have placed : (placeAnswer x.source a u).bli = { u.bli with replySlot := some ⟨x.source, a⟩ } := by
    rw [placeAnswer, State.settlePlacement, State.setBli_bli]
    split
    · exact Bli.arbitrate_of_sending (by rw [tx]; nofun)
    · rfl
  have head : (takeHead s).bli = { u.bli with replySlot := some ⟨x.source, a⟩ } := by
    have eq : takeHead s = arbitrate (dispatch x s1) := by simp only [takeHead, holding, s1]
    rw [eq, answered, arbitrate, State.setBli_bli, placed]
    exact Bli.arbitrate_of_sending (by rw [tx]; nofun)
  have all : takeAll s = takeHead s := by
    rw [takeAll, holding, List.length_cons]
    unfold takeUpTo
    rw [canTake, if_pos rfl]
    exact takeUpTo_of_not_canTake (by rw [head]; simp [Bli.canTake]) _
  exact ⟨a, by rw [all, head]; exact sends.holding, by rw [all, head], by rw [all, head]; exact tx⟩

/-! ## Settles O37 -/

/-- The end of a transmission after which the arbiter does not halt (R166, R168). -/
theorem endTransmission_of_continues {m : OutMsg}
    (continues : (m.endsRestart && s.mrh.restartPending) = false) :
    endTransmission m s = s.setBli { s.bli with tx := .idle } := by
  simp [endTransmission, continues]

/-- A transmission's end, in steps (R155, R166). -/
theorem exec_transmissionEnd {m : OutMsg} (sending : s.bli.tx = .sending m) (level : Bool) :
    exec (.transmissionEnd level) s
      = .next (finish (takeAll (arbitrate (endTransmission m (setCommission level s))))) := by
  simp only [exec, execTransmissionEnd, sending]

/-- A transmission's end where a reply waits: the link before it takes what is held (R155). -/
theorem arbitrate_endTransmission_of_reply {m : OutMsg} {r : ReplyMsg} {level : Bool}
    (runs : s.bli.halted = false) (waits : s.bli.replySlot = some r)
    (continues : (m.endsRestart && s.mrh.restartPending) = false) :
    arbitrate (endTransmission m (setCommission level s)) = { s with
      pins := { s.pins with commission := level }
      bli := { s.bli with tx := .sending (.answer r), replySlot := none } } := by
  rw [endTransmission_of_continues (s := setCommission level s) continues]
  simp only [arbitrate, State.setBli_bli, Bli.arbitrate]
  rw [if_pos ⟨trivial, runs⟩]
  simp only [setCommission, State.setPins, State.setBli, waits]

/-- Settles O37: the arbiter's choice by what waits, then what the free slot lets be taken. -/
theorem transmissionEndChoosesNext : Obligations.TransmissionEndChoosesNext := by
  unfold Obligations.TransmissionEndChoosesNext
  intro s m level sending runs
  refine ⟨fun empty => ?_, fun r waits taking enabled continues => ⟨?_, ?_⟩⟩
  · have nothing : takeAll (arbitrate (endTransmission m (setCommission level s)))
        = arbitrate (endTransmission m (setCommission level s)) := by
      refine takeAll_of_empty ?_
      rw [arbitrate, State.setBli_bli, (Bli.arbitrate_keeps _).2.2.2.1]
      exact empty
    rw [exec_transmissionEnd sending, nothing, finish_arbitrate]
    refine ⟨_, rfl, rfl, fun halts => ?_, fun continues => ?_⟩
    · have restart : (endTransmission m (setCommission level s)).bli
          = { s.bli with tx := .idle, halted := true } := by
        have halts' : (m.endsRestart && (setCommission level s).mrh.restartPending) = true := halts
        simp only [endTransmission, halts', Bool.or_true]
        rfl
      rw [finish_bli, restart]
      simp [Bli.arbitrate]
    · have ended : (endTransmission m (setCommission level s)).bli = { s.bli with tx := .idle } := by
        rw [endTransmission_of_continues (s := setCommission level s) continues]
        rfl
      rw [finish_bli, ended]
      refine ⟨fun r waits => ?_, fun r free waits => ?_, fun e rest free none_ board => ?_,
        fun free none_ board => ?_⟩
      · simp [Bli.arbitrate, runs, waits]
      · simp [Bli.arbitrate, runs, free, waits]
      · simp [Bli.arbitrate, runs, free, none_, board]
      · simp [Bli.arbitrate, runs, free, none_, board]
  · intro x rest holding other
    rw [exec_transmissionEnd sending, arbitrate_endTransmission_of_reply runs waits continues]
    obtain ⟨a, rest_held, slot, tx⟩ := takeAll_of_sending (x := x) (rest := rest)
      (m := .answer r) (s := { s with
        pins := { s.pins with commission := level }
        bli := { s.bli with tx := .sending (.answer r), replySlot := none } })
      rfl (by simp [Bli.canTake, taking, holding]) holding other
    refine ⟨_, a, rfl, ?_⟩
    rw [finish_bli, Bli.arbitrate_of_sending (by rw [tx]; nofun)]
    exact ⟨rest_held, slot, tx⟩
  · intro i source kind body arrives holding
    rw [exec_transmissionEnd sending, arbitrate_endTransmission_of_reply runs waits continues,
      Laws.exec_arrival _ arrives]
    let s0 : State := { s with
      bli := { s.bli with tx := .sending (.answer r), replySlot := none, holding := [] } }
    have takes : s0.TakesAtOnce := ⟨enabled, taking, rfl, rfl⟩
    have held : { s with
        pins := { s.pins with commission := level }
        bli := { s.bli with tx := .sending (.answer r), replySlot := none } }
      = (setCommission level s0).setBli
        { (setCommission level s0).bli with holding := [⟨source, kind, body⟩] } := by
      simp only [setCommission, State.setPins, State.setBli, s0, ← holding]
    rw [messageArrives_of_takesAtOnce takes, held, takeAll, ← finish_arbitrate (dispatch _ _),
      ← takeHead_single (takes.setCommission level).2.2.1]
    simp [takeUpTo, Bli.canTake, taking, s0, setCommission]

/-! ## Settles O40 -/

/-- A request code is one of 1 to 18 (R172). -/
theorem ReqKind.ofCode_isSome_range {n : Nat} {k : ReqKind} (h : ReqKind.ofCode n = some k) :
    1 ≤ n ∧ n ≤ 18 := by
  have code : k.code = n := by
    simpa using List.find?_some h
  rw [← code]
  cases k <;> decide

/-- A building link that has discarded a message for which it has no place (R154). -/
def State.overflowed (s : State) : State := s.setBli (s.posted (.linkError .overflow))

/-- A message for which no place is left (R154). -/
theorem messageArrives_of_full {kind : Byte} {body : List Byte} (enabled : s.bli.rx ≠ .disabled)
    (full : s.bli.holding.length = 4) (waits : s.bli.replySlot ≠ none)
    (late : s.order.eager = false) :
    messageArrives o kind body s = finish (setCommission o.commission s).overflowed := by
  have later : ¬ (setCommission o.commission s).order.eager = true := by
    rw [Bool.not_eq_true]; exact late
  have noPlace : ¬ (setCommission o.commission s).bli.holding.length < Config.holdingCapacity := by
    rw [show (setCommission o.commission s).bli.holding.length = 4 from full]; decide
  have offered : offer ⟨o.source, kind, body⟩ (setCommission o.commission s)
      = (setCommission o.commission s).overflowed := by
    rw [offer, if_neg noPlace, post, State.settlePlacement, if_neg later, State.overflowed]
  have noTaking : (setCommission o.commission s).overflowed.bli.canTake = false := by
    have held : s.bli.replySlot.isNone = false := by
      rw [Bool.eq_false_iff, ne_eq, Option.isNone_iff_eq_none]
      exact waits
    have same : (setCommission o.commission s).overflowed.bli.replySlot = s.bli.replySlot := rfl
    rw [Bli.canTake, same, held, Bool.and_false]
  rw [messageArrives]
  simp only [if_neg enabled, arrive, offered, takeAll, takeUpTo_of_not_canTake noTaking]

/-- A message that the link answers by itself (R157, R171). -/
theorem exec_of_replyUnknown (takes : s.TakesAtOnce) {i : Instr} {kind code : Byte}
    {body : List Byte} (arrives : arrivalOf i = some (o, kind, body))
    (unknown : ∀ s, dispatch ⟨o.source, kind, body⟩ s = replyUnknown o.source code s) :
    ∃ t, exec i s = .next t
      ∧ t = { s with pins := s.pinsOf o, bli := t.bli, schedule := t.schedule }
      ∧ t.Answers o.source (.reply ⟨code, .unknownRequest, .nothing⟩) := by
  rw [Laws.exec_arrival s arrives, messageArrives_of_takesAtOnce takes, unknown]
  exact ⟨_, rfl, rfl, (placeAnswer_answers ..).finish⟩

/-- Settles O40. -/
theorem linkDiscardsOrAnswersByItself : Obligations.LinkDiscardsOrAnswersByItself := by
  unfold Obligations.LinkDiscardsOrAnswersByItself
  intro s o kind body
  refine ⟨fun i arrives enabled full waits late => ?_, fun takes wf => ?_, fun takes wf => ?_⟩
  · rw [Laws.exec_arrival s arrives, messageArrives_of_full enabled full waits late]
    rfl
  · refine exec_of_replyUnknown takes rfl fun s => ?_
    have other : kind ≠ 1#8 ∧ kind ≠ 2#8 ∧ kind ≠ 3#8 := by
      rw [Instr.wellFormed, Bool.and_eq_true] at wf
      simpa [isInboundKind, and_assoc] using wf.1
    simp [dispatch, kindCommand, kindTime, kindRequest, other]
  · refine exec_of_replyUnknown takes rfl fun s => ?_
    have request : dispatch ⟨o.source, kindRequest, body⟩ s = takeRequest o.source body s := by
      simp [dispatch, kindCommand, kindTime, kindRequest]
    rw [request]
    cases body with
    | nil => rfl
    | cons c fields =>
      have unknown : ReqKind.ofCode c.toNat = none := by
        cases found : ReqKind.ofCode c.toNat with
        | none => rfl
        | some k =>
          have range := ReqKind.ofCode_isSome_range found
          simp [Instr.wellFormed, hasRequestCode, range.1] at wf
          omega
      simp [takeRequest, unknown]

end Sys2Proof.Machine

/-! PROOFS. Reception on the building link, character by character (R152, R153). -/

namespace Sys2Proof.Machine

open Sys2Proof Host

variable {s u : State} {o : Origin} {c : Byte}

/-! ## A character by the receive state (R152) -/

/-- The state that a character inside a frame finds or leaves (R152). -/
def State.reading (s : State) (frame : List Byte) : State :=
  s.setBli { s.bli with rx := .inFrame, frame := frame }

/-- A character received, and the end of its event. -/
theorem exec_character (framed : Bool) (c : Byte) (level : Bool) (s : State) :
    exec (.blCharacterReceived framed c level) s
      = .next (finish (receive framed c (setCommission level s))) := rfl

/-- A start code begins a frame (R152). -/
theorem receive_of_start {framed : Bool} (hunting : s.bli.rx = .hunting)
    (start : framed = true ∧ c = 0xA5#8) : receive framed c s = s.reading [] := by
  simp [receive, hunting, start, Config.startCode, State.reading]

/-- Any other character is hunted through (R152). -/
theorem receive_of_noStart {framed : Bool} (hunting : s.bli.rx = .hunting)
    (noStart : ¬ (framed = true ∧ c = 0xA5#8)) : receive framed c s = s := by
  simp only [receive, hunting]
  exact if_neg noStart

/-- A framed character inside a frame (R152). -/
theorem receive_inFrame (inside : s.bli.rx = .inFrame) (c : Byte) :
    receive true c s = takeFrameCharacter c s := by
  simp [receive, inside]

/-- A framing fault inside a frame breaks it (R152). -/
theorem receive_unframed (inside : s.bli.rx = .inFrame) (c : Byte) :
    receive false c s = breakFrame s := by
  simp [receive, inside]

/-- The length that a frame's characters give, once there are four (R204). -/
theorem length_of_frame {frame : List Byte} (more : 3 < frame.length) (c : Byte) :
    (frame ++ [c]).getD 3 0#8 = frame.getD 3 0#8 := by
  simp [List.getD_eq_getElem?_getD, List.getElem?_append_left more]

/-- The fourth character is the length (R204). -/
theorem length_of_fourth {frame : List Byte} (three : frame.length = 3) (c : Byte) :
    (frame ++ [c]).getD 3 0#8 = c := by
  simp [List.getD_eq_getElem?_getD, ← three]

/-- A frame goes on: fewer than four characters, or fewer than the length asks for (R152). -/
def FrameGoesOn (frame : List Byte) (c : Byte) : Prop :=
  frame.length < 3 ∨ (frame.length = 3 ∧ c.toNat ≤ 250)
    ∨ (3 < frame.length ∧ frame.length + 1 ≠ 6 + (frame.getD 3 0#8).toNat)

/-- A character of a frame that goes on joins it (R152). -/
theorem takeFrameCharacter_of_goesOn (goesOn : FrameGoesOn s.bli.frame c) :
    takeFrameCharacter c s = s.setBli { s.bli with frame := s.bli.frame ++ [c] } := by
  simp only [takeFrameCharacter, List.length_append, List.length_singleton, Config.bodyMax]
  rcases goesOn with few | ⟨three, inside⟩ | ⟨more, unfinished⟩
  · rw [if_neg (by omega), if_neg (by omega)]
  · rw [length_of_fourth three, if_neg (by omega), if_neg (by omega)]
  · rw [length_of_frame more, if_neg (by omega), if_neg (by omega)]

/-- A length above 250 breaks the frame (R152). -/
theorem takeFrameCharacter_of_long (three : s.bli.frame.length = 3) (long : 250 < c.toNat) :
    takeFrameCharacter c s = breakFrame s := by
  simp only [takeFrameCharacter, List.length_append, List.length_singleton, Config.bodyMax]
  rw [length_of_fourth three, if_pos (by omega)]

/-- The last character of a frame completes it (R152, R153). -/
theorem takeFrameCharacter_of_last (more : 3 < s.bli.frame.length)
    (last : s.bli.frame.length + 1 = 6 + (s.bli.frame.getD 3 0#8).toNat) :
    takeFrameCharacter c s = frameComplete (s.bli.frame ++ [c]) s := by
  simp only [takeFrameCharacter, List.length_append, List.length_singleton, Config.bodyMax]
  rw [length_of_frame more, if_neg (by omega), if_pos (by omega)]

/-! ## Frames that are broken or complete (R152, R153) -/

/-- A frame discarded with its post (R152, R153). -/
theorem breakFrame_broken (s : State) (level : Bool) :
    let t := finish (breakFrame (setCommission level s))
    t = { s with
        pins := { s.pins with commission := level }, bli := t.bli, schedule := s.schedule.tail }
      ∧ t.bli.rx = .hunting ∧ t.bli.frame = [] ∧ t.bli.holding = s.bli.holding
      ∧ ((Notice.linkError .badCheck).enabledBy s.tbu.active.bus.mask = true →
        keyedCount s.bli.board < 63 → t.Announces (.linkError .badCheck)) := by
  refine ⟨rfl, ?_, ?_, ?_, fun enabled room => ?_⟩
  · simp [breakFrame, finish_bli]
  · simp [breakFrame, finish_bli]
  · simp [breakFrame, finish_bli, setCommission]
  · exact State.Announces.finish (post_announces (s := (setCommission level s).setBli
      { s.bli with rx := .hunting, frame := [] }) enabled nofun room)

/-- A complete frame, its covered characters and its CRC apart (R153). -/
theorem frameComplete_eq {frame : List Byte} (some_ : frame ≠ []) (c : Byte) (s : State) :
    frameComplete (frame ++ [c]) s
      = let covered := frame.take (frame.length - 1)
        let s1 := s.setBli { s.bli with rx := .hunting, frame := [] }
        if be16 (crc16 covered) ≠ frame.drop (frame.length - 1) ++ [c] then
          post (.linkError .badCheck) s1
        else if covered.getD 0 0#8 ≠ s.bli.own then s1
        else arrive ⟨covered.getD 1 0#8, covered.getD 2 0#8, covered.drop 4⟩ s1 := by
  have positive : 0 < frame.length := List.length_pos_of_ne_nil some_
  have length : (frame ++ [c]).length - 2 = frame.length - 1 := by simp
  simp only [frameComplete, length]
  rw [List.take_append_of_le_length (by omega), List.drop_append_of_le_length (by omega)]

/-- A frame with a wrong CRC is discarded with the post of a broken one (R153). -/
theorem frameComplete_of_badCheck {frame : List Byte} (some_ : frame ≠ [])
    (bad : be16 (crc16 (frame.take (frame.length - 1))) ≠ frame.drop (frame.length - 1) ++ [c])
    (s : State) : frameComplete (frame ++ [c]) s = breakFrame s := by
  rw [frameComplete_eq some_]
  exact if_pos bad

/-- A frame for another destination is discarded (R153). -/
theorem frameComplete_of_other {frame : List Byte} (some_ : frame ≠ [])
    (good : be16 (crc16 (frame.take (frame.length - 1))) = frame.drop (frame.length - 1) ++ [c])
    (other : (frame.take (frame.length - 1)).getD 0 0#8 ≠ s.bli.own) :
    frameComplete (frame ++ [c]) s = s.setBli { s.bli with rx := .hunting, frame := [] } := by
  rw [frameComplete_eq some_]
  exact (if_neg (not_not.mpr good)).trans (if_pos other)

/-- Settles O38, by the receive state and the place of the character in its frame. -/
theorem receiverFollowsCharacters : Obligations.ReceiverFollowsCharacters := by
  unfold Obligations.ReceiverFollowsCharacters
  intro s c framed level pins broken
  refine ⟨fun hunting => ?_, fun inside good goesOn => ?_, fun inside bad => ?_, fun inside => ?_,
    fun inside good more last => ⟨fun bad => ?_, fun agrees other => ?_⟩⟩
  · rw [exec_character]
    by_cases start : framed = true ∧ c = 0xA5#8
    · rw [receive_of_start (s := setCommission level s) hunting start, if_pos start, if_pos start]
      rfl
    · rw [receive_of_noStart (s := setCommission level s) hunting start, if_neg start,
        if_neg start, ← hunting]
      rfl
  · subst good
    rw [exec_character, receive_inFrame (s := setCommission level s) inside,
      takeFrameCharacter_of_goesOn (s := setCommission level s) goesOn]
    rfl
  · have breaks : receive framed c (setCommission level s) = breakFrame (setCommission level s) := by
      cases framed with
      | false => exact receive_unframed (s := setCommission level s) inside c
      | true =>
        obtain ⟨three, long⟩ := bad.resolve_left nofun
        rw [receive_inFrame (s := setCommission level s) inside]
        exact takeFrameCharacter_of_long (s := setCommission level s) three long
    rw [exec_character, breaks]
    exact ⟨_, rfl, breakFrame_broken s level⟩
  · have run : exec .frameGapTimeout s = .next (finish (breakFrame (setCommission
        s.pins.commission s))) := by
      rw [exec, execFrameGapTimeout, if_pos inside]
      rfl
    exact ⟨_, run, breakFrame_broken s s.pins.commission⟩
  · subst good
    have some_ : s.bli.frame ≠ [] := fun e => by rw [e] at more; cases more
    rw [exec_character, receive_inFrame (s := setCommission level s) inside,
      takeFrameCharacter_of_last (s := setCommission level s) more last,
      frameComplete_of_badCheck (frame := (setCommission level s).bli.frame) some_ bad]
    exact ⟨_, rfl, breakFrame_broken s level⟩
  · subst good
    have some_ : s.bli.frame ≠ [] := fun e => by rw [e] at more; cases more
    rw [exec_character, receive_inFrame (s := setCommission level s) inside,
      takeFrameCharacter_of_last (s := setCommission level s) more last,
      frameComplete_of_other (frame := (setCommission level s).bli.frame)
        (s := setCommission level s) some_ agrees other]
    rfl

/-! ## Settles O39 -/

/-- The arbiter looks at neither the receiver nor its frame (R165). -/
theorem Bli.arbitrate_reading (b : Bli) (rx : RxState) (frame : List Byte) :
    ({ b with rx := rx, frame := frame } : Bli).arbitrate
      = { b.arbitrate with rx := rx, frame := frame } := by
  unfold Bli.arbitrate
  simp only
  split
  · split
    · rfl
    · split
      · rfl
      · split <;> rfl
  · rfl

/-- A part at rest for the frame to come: nothing to send, no open order, the pin as it stands. -/
structure State.AtRest (s : State) (level : Bool) : Prop where
  nothing_to_send : s.bli.arbitrate = s.bli
  no_order : s.schedule = []
  pin : s.pins.commission = level

section
variable {level : Bool}

/-- A pin that stands as the event brings it. -/
theorem State.AtRest.setCommission (h : s.AtRest level) : setCommission level s = s := by
  rw [Machine.setCommission, ← h.pin]; rfl

/-- The end of an event that leaves a part at rest reading a frame. -/
theorem State.AtRest.finish_reading (h : s.AtRest level) (frame : List Byte) :
    finish (s.reading frame) = s.reading frame := by
  simp only [finish, State.reading, State.setBli_bli, Bli.arbitrate_reading, h.nothing_to_send,
    State.setBli_setBli, State.setBli_schedule]
  simp only [State.setSchedule, State.setBli, h.no_order, List.tail_nil]

theorem State.AtRest.reading (h : s.AtRest level) (frame : List Byte) :
    (s.reading frame).AtRest level where
  nothing_to_send := by
    rw [State.reading, State.setBli_bli, Bli.arbitrate_reading, h.nothing_to_send]
  no_order := h.no_order
  pin := h.pin

/-- A start code, and the end of its event. -/
theorem exec_start (h : s.AtRest level) (hunting : s.bli.rx = .hunting) :
    exec (.blCharacterReceived true Config.startCode level) s = .next (s.reading []) := by
  rw [exec_character, h.setCommission, receive_of_start (c := Config.startCode) hunting ⟨rfl, rfl⟩,
    h.finish_reading]

/-- A character of a frame that goes on, and the end of its event. -/
theorem exec_reading (h : s.AtRest level) {frame : List Byte} (goesOn : FrameGoesOn frame c) :
    exec (.blCharacterReceived true c level) (s.reading frame)
      = .next (s.reading (frame ++ [c])) := by
  rw [exec_character, (h.reading frame).setCommission, receive_inFrame rfl,
    takeFrameCharacter_of_goesOn goesOn]
  exact congrArg Outcome.next (h.finish_reading (frame ++ [c]))

/-- A run of characters received one by one. -/
def receiveRun (level : Bool) (cs : List Byte) (o : Outcome State Fault Refusal) :
    Outcome State Fault Refusal :=
  cs.foldl (fun x c => match x with
    | .next u => exec (.blCharacterReceived true c level) u
    | other => other) o

/-- The characters of a frame but its last are read one by one. -/
theorem receiveRun_reading (h : s.AtRest level) {frame : List Byte} (cs : List Byte)
    (goesOn : ∀ p c q, cs = p ++ c :: q → FrameGoesOn (frame ++ p) c) :
    receiveRun level cs (.next (s.reading frame)) = .next (s.reading (frame ++ cs)) := by
  induction cs generalizing frame with
  | nil => simp [receiveRun]
  | cons c cs ih =>
    have first : FrameGoesOn frame c := by simpa using goesOn [] c cs rfl
    have rest := ih (frame := frame ++ [c]) fun p c' q split => by
      rw [List.append_assoc]
      exact goesOn (c :: p) c' q (by rw [split]; rfl)
    simp only [List.append_assoc, List.singleton_append] at rest
    rw [← rest]
    simp only [receiveRun, List.foldl_cons, exec_reading h first]

end

theorem fitsBody_iff (body : List Byte) : fitsBody body = true ↔ body.length ≤ 250 :=
  decide_eq_true_iff

theorem fitsRequest_iff (fields : List Byte) :
    fitsRequest fields = true ↔ fields.length + 1 ≤ 250 := decide_eq_true_iff

/-- The body of a well formed message fits (R204). -/
theorem length_of_arrival {i : Instr} {kind : Byte} {body : List Byte}
    (arrives : arrivalOf i = some (o, kind, body)) (wf : i.wellFormed = true) :
    body.length ≤ 250 := by
  cases i <;> simp only [arrivalOf, reduceCtorEq, Option.some.injEq, Prod.mk.injEq] at arrives <;>
    obtain ⟨-, -, rfl⟩ := arrives <;>
    simp_all [Instr.wellFormed, fitsBody_iff, fitsRequest_iff, commandBody, be16]

/-- A frame to its last character (R204). -/
def frameButLast (dest src kind : Byte) (body : List Byte) : List Byte :=
  [dest, src, kind, byte body.length] ++ body
    ++ [(crc16 ([dest, src, kind, byte body.length] ++ body)).extractLsb' 8 8]

section
variable (dest src kind : Byte) {body : List Byte}

/-- A frame is its start code, then all but its last character, then that. -/
theorem frameOf_eq (body : List Byte) :
    frameOf dest src kind body = Config.startCode :: (frameButLast dest src kind body
      ++ [(crc16 ([dest, src, kind, byte body.length] ++ body)).extractLsb' 0 8]) := by
  simp [frameOf, frameButLast, be16]

/-- A frame goes on until its last character (R152). -/
theorem frameButLast_goesOn (fits : body.length ≤ 250) {p q : List Byte} {c : Byte}
    (split : frameButLast dest src kind body = p ++ c :: q) : FrameGoesOn p c := by
  have length : (byte body.length).toNat = body.length := by
    simp [byte]; omega
  have fourth : (p ++ c :: q)[3]? = some (byte body.length) := by rw [← split]; rfl
  have total : p.length + (q.length + 1) = body.length + 5 := by
    have same := congrArg List.length split
    simp only [frameButLast, List.length_append, List.length_cons, List.length_nil] at same
    omega
  rcases Nat.lt_trichotomy p.length 3 with few | three | more
  · exact .inl few
  · rw [← three, List.getElem?_append_right le_rfl, Nat.sub_self, List.getElem?_cons_zero,
      Option.some.injEq] at fourth
    exact .inr (.inl ⟨three, by rw [fourth, length]; exact fits⟩)
  · rw [List.getElem?_append_left more] at fourth
    refine .inr (.inr ⟨more, ?_⟩)
    rw [List.getD_eq_getElem?_getD, fourth, Option.getD_some, length]
    omega

/-- The last character of a good frame for the part completes it, and its message arrives (R153). -/
theorem takeFrameCharacter_of_good (fits : body.length ≤ 250) (hunting : s.bli.rx = .hunting)
    (empty : s.bli.frame = []) :
    takeFrameCharacter
        ((crc16 ([s.bli.own, src, kind, byte body.length] ++ body)).extractLsb' 0 8)
        (s.reading (frameButLast s.bli.own src kind body))
      = arrive ⟨src, kind, body⟩ s := by
  let frame := frameButLast s.bli.own src kind body
  have length : (byte body.length).toNat = body.length := by
    simp [byte]; omega
  have total : frame.length = body.length + 5 := by simp [frame, frameButLast]
  have fourth : frame.getD 3 0#8 = byte body.length := rfl
  have before : frame.length - 1 = ([s.bli.own, src, kind, byte body.length] ++ body).length := by
    simp [total]
  have covered : frame.take (frame.length - 1)
      = [s.bli.own, src, kind, byte body.length] ++ body := by
    rw [before]; exact List.take_left' rfl
  have crc : frame.drop (frame.length - 1)
      = [(crc16 ([s.bli.own, src, kind, byte body.length] ++ body)).extractLsb' 8 8] := by
    rw [before]; exact List.drop_left' rfl
  have back : (s.reading frame).setBli { (s.reading frame).bli with rx := .hunting, frame := [] }
      = s := by
    simp only [State.reading, State.setBli, ← hunting, ← empty]
  refine (takeFrameCharacter_of_last (s := s.reading frame) (show 3 < frame.length by omega)
    (show frame.length + 1 = 6 + (frame.getD 3 0#8).toNat by rw [fourth, length, total]; omega)).trans
    ((frameComplete_eq (frame := frame) (List.ne_nil_of_length_pos (by omega)) _ _).trans ?_)
  simp only [back, covered, crc]
  rw [if_neg (by simp [be16]), if_neg (by simp [State.reading])]
  rfl

end

/-- Settles O39: the start code, the characters of the frame but the last, and the last. -/
theorem frameDeliversItsMessage : Obligations.FrameDeliversItsMessage := by
  unfold Obligations.FrameDeliversItsMessage
  intro s i o kind body arrives wf hunting empty nothing noOrder pin
  have rest : s.AtRest o.commission := ⟨nothing, noOrder, pin⟩
  have fits := length_of_arrival arrives wf
  change receiveRun o.commission (frameOf s.bli.own o.source kind body) (.next s) = exec i s
  have run := receiveRun_reading rest (frame := []) (frameButLast s.bli.own o.source kind body)
    fun p c q split => frameButLast_goesOn s.bli.own o.source kind fits split
  have started : ∀ cs, receiveRun o.commission (Config.startCode :: cs) (.next s)
      = receiveRun o.commission cs (.next (s.reading [])) := fun cs => by
    simp only [receiveRun, List.foldl_cons, exec_start rest hunting]
  have ended : ∀ cs c x, receiveRun o.commission (cs ++ [c]) x
      = receiveRun o.commission [c] (receiveRun o.commission cs x) := fun cs c x => by
    simp only [receiveRun, List.foldl_append]
  have single : ∀ c u, receiveRun o.commission [c] (.next u)
      = exec (.blCharacterReceived true c o.commission) u := fun _ _ => rfl
  rw [frameOf_eq, started, ended, run, List.nil_append, single, exec_character, (rest.reading _).setCommission, receive_inFrame rfl,
    takeFrameCharacter_of_good o.source kind fits hunting empty, Laws.exec_arrival s arrives]
  simp only [messageArrives, rest.setCommission]
  rw [if_neg (by rw [hunting]; nofun)]

end Sys2Proof.Machine

/-! PROOFS. The ends of store writes: what the store controller does next, and what is posted (R48,
R195 to R197). -/

namespace Sys2Proof.Machine

open Sys2Proof Host

variable {s : State} {n : Notice}

/-! ## The lowest pending account (R195) -/

/-- The first entry that a search finds (R195). -/
theorem Tab.find?_eq_some_of_first {α : Type} {m : Nat} {tab : Tab α m} {p : Fin m → α → Bool}
    {i : Fin m} (here : p i (tab.get i) = true) (before : ∀ j, j < i → p j (tab.get j) = false) :
    tab.find? p = some i := by
  cases found : tab.find? p with
  | none => rw [(Tab.find?_eq_none_iff _ _).mp found i] at here; cases here
  | some j =>
    have passes : p j (tab.get j) = true := Tab.find?_some found
    obtain ⟨-, as, bs, split, none_before⟩ := List.find?_eq_some_iff_append.mp found
    have order : ((List.finRange m).Pairwise (· < ·)) := List.pairwise_lt_finRange m
    rw [split, List.pairwise_append] at order
    have mem : i ∈ as ++ j :: bs := by rw [← split]; exact List.mem_finRange i
    rcases List.mem_append.mp mem with earlier | rest
    · simpa [here] using none_before i earlier
    · rcases List.mem_cons.mp rest with same | later
      · rw [same]
      · rw [before j ((List.pairwise_cons.mp order.2.1).1 i later)] at passes
        cases passes

/-- What the store controller does next, freed of a write (R195, R197). -/
theorem serveStore_freed {nvs : Nvs} (freed : s.nvs = nvs.freed) :
    ((s.mrh.restartPending = true ∧ s.bli.halted = true
        ∨ nvs.pendingConfig = false ∧ ∀ a, nvs.pendingAccounts.get a = false) →
      (serveStore s).nvs = { nvs with state := .idle, write := none })
    ∧ (¬ (s.mrh.restartPending = true ∧ s.bli.halted = true) →
      (nvs.pendingConfig = true → (serveStore s).nvs = { nvs with
        pendingConfig := false, state := .writingConfig,
        write := some (.config s.tbu.active) })
      ∧ (∀ a, nvs.pendingConfig = false → nvs.pendingAccounts.get a = true →
        (∀ b, b < a → nvs.pendingAccounts.get b = false) →
        (serveStore s).nvs = { nvs with
          pendingAccounts := nvs.pendingAccounts.set a false
          state := .writingRecord
          write := some (.record a (captureRecord s.dau a)) })) := by
  have idle : s.nvs.state = .idle := by rw [freed]; rfl
  have config : s.nvs.pendingConfig = nvs.pendingConfig := by rw [freed]; rfl
  have accounts : s.nvs.pendingAccounts = nvs.pendingAccounts := by rw [freed]; rfl
  have held : s.storeHeld = true ↔ s.mrh.restartPending = true ∧ s.bli.halted = true := by
    rw [State.storeHeld, Bool.and_eq_true]
  refine ⟨fun stays => ?_, fun runs => ?_⟩
  · have same : serveStore s = s := by
      rcases stays with held' | ⟨noConfig, noAccount⟩
      · exact serveStore_of_busy fun free => by rw [held.mpr held'] at free; cases free.2
      · refine serveStore_of_nothing (config.trans noConfig) ?_
        rw [Nvs.lowestPending, accounts]
        exact (Tab.find?_eq_none_iff _ _).mpr fun a => noAccount a
    rw [same, freed]
    rfl
  · have free : s.nvs.state = .idle ∧ s.storeHeld = false :=
      ⟨idle, by rw [Bool.eq_false_iff, ne_eq, held]; exact runs⟩
    refine ⟨fun owed => ?_, fun a noConfig owed lowest => ?_⟩
    · rw [serveStore_of_config free (config.trans owed), State.setNvs_nvs, freed]
      rfl
    · have found : s.nvs.lowestPending = some a := by
        rw [Nvs.lowestPending, accounts]
        exact Tab.find?_eq_some_of_first owed lowest
      rw [serveStore_of_account free (config.trans noConfig) found, State.setNvs_nvs, freed]
      rfl

/-- What a record write captures, in the statements' terms (R195). -/
theorem captureRecord_eq (d : Dau) (a : Fin 64) :
    captureRecord d a = ⟨a.val, d.ledger,
      if (d.accounts.get a).state = .idle then 0 else (d.accounts.get a).usedToday,
      if (d.accounts.get a).state = .idle then 0 else (d.accounts.get a).usedYear,
      if (d.accounts.get a).state = .idle then 0 else (d.accounts.get a).extension,
      decide ((d.accounts.get a).state = .suspended)⟩ := by
  simp only [captureRecord, beq_eq_decide, decide_eq_true_eq]

/-- The store controller's choice changes that controller alone (R195). -/
theorem serveStore_eq (s : State) : serveStore s = s.setNvs (serveStore s).nvs := by
  rcases serveStore_cases s with same | ⟨-, -, config⟩ | ⟨-, -, a, -, record⟩
  · rw [same]; rfl
  · rw [config]; rfl
  · rw [record]; rfl

/-- The store controller's choice is no business of the building link (R195). -/
theorem State.Announces.serveStore (h : s.Announces n) : (serveStore s).Announces n := by
  rw [State.announces_iff, (serveStore_frame s).2.2.2.2.2.2.2.1]
  exact h

/-! ## Settles O59 and O60 -/

/-- The two posts at the end of a commit whose store has FAILED (R48, R197). -/
theorem endCommit_writeFails_announces (f : CommitField) (s : State)
    (room : keyedCount s.bli.board < 62) :
    ((Notice.storeFault).enabledBy s.tbu.active.bus.mask = true →
        (finish (endCommit f (writeFails s))).Announces .storeFault)
      ∧ ((Notice.commit f).enabledBy s.tbu.active.bus.mask = true →
        (finish (endCommit f (writeFails s))).Announces (.commit f)) := by
  rw [endCommit_writeFails]
  refine ⟨fun enabled => State.Announces.finish (State.Announces.post
    (post_announces (s := s.endWrite s.nvs.fails) enabled nofun ?_) (by simp [Notice.key, Notice.code])),
    fun enabled => State.Announces.finish (post_announces ?_ nofun ?_)⟩
  · exact room.trans (by decide)
  · rw [(post_frame _ _).2.2.1]
    exact enabled
  · have count := keyedCount_post .storeFault (s.endWrite s.nvs.fails)
    have same : keyedCount (s.endWrite s.nvs.fails).bli.board = keyedCount s.bli.board := rfl
    omega

/-- What a commit that ends with its store FAILED leaves (R48, R197). -/
theorem endCommit_writeFails_state (f : CommitField) (s : State) :
    finish (endCommit f (writeFails s)) = { s with
      tbu := { s.tbu with commit := .idle }
      nvs := s.nvs.fails
      bli := (finish (endCommit f (writeFails s))).bli
      schedule := s.schedule.tail } := rfl

/-- What a write that has failed leaves (R197). -/
theorem writeFails_state (s : State) :
    finish (writeFails s) = { s with
      nvs := s.nvs.fails, bli := (finish (writeFails s)).bli, schedule := s.schedule.tail } := rfl

/-- The post at the end of a write that has failed (R197). -/
theorem writeFails_announces (s : State) (room : keyedCount s.bli.board < 62)
    (enabled : (Notice.storeFault).enabledBy s.tbu.active.bus.mask = true) :
    (finish (writeFails s)).Announces .storeFault := by
  rw [writeFails_eq]
  have less : keyedCount (s.setNvs s.nvs.fails).bli.board < 63 := Nat.lt_trans room (by decide)
  exact (post_announces (s := s.setNvs s.nvs.fails) enabled nofun less).finish

/-- Settles O59. -/
theorem configurationWriteEndsCommit : Obligations.ConfigurationWriteEndsCommit := by
  unfold Obligations.ConfigurationWriteEndsCommit
  intro s image left write posts
  let s1 := putImage (imageItem image) s
  let u := post (.commit .done) (s1.endWrite s1.nvs.freed)
  have run : exec (.configurationWriteComplete .agrees) s = .next (finish (serveStore u)) := by
    simp only [exec, execConfigurationWriteComplete, write]
    rfl
  have run' : exec (.configurationWriteComplete (.disagrees left)) s
      = .next (finish (endCommit .storeFailed (writeFails (putImage left s)))) := by
    simp only [exec, execConfigurationWriteComplete, write]
  have next := serveStore_freed (s := u) (nvs := s.nvs) rfl
  have halted : u.bli.halted = s.bli.halted := (post_keeps _ _).2.2.2.2.2.2
  have mrh : u.mrh = s.mrh := rfl
  have dau : u.dau = s.dau := rfl
  have tables : u.tbu.active = s.tbu.active := rfl
  rw [halted, mrh, dau, tables] at next
  simp only [captureRecord_eq] at next
  refine ⟨⟨_, run, ?_, fun enabled room => ?_, next⟩, ⟨_, run', rfl, fun enabled room => ?_,
    fun enabled room => ?_⟩⟩
  · rw [serveStore_eq u]; rfl
  · exact (post_announces (s := s1.endWrite s1.nvs.freed) enabled nofun room).serveStore.finish
  · exact (endCommit_writeFails_announces .storeFailed (putImage left s) room).1 enabled
  · exact (endCommit_writeFails_announces .storeFailed (putImage left s) room).2 enabled

/-- Settles O60. -/
theorem recordWriteFreesOrFailsStore : Obligations.RecordWriteFreesOrFailsStore := by
  unfold Obligations.RecordWriteFreesOrFailsStore
  intro s a item left write posts
  let u := (putRecord a (recordItem item) s).setNvs s.nvs.freed
  have run : exec (.accountRecordWriteComplete .agrees) s = .next (finish (serveStore u)) := by
    simp only [exec, execAccountRecordWriteComplete, write]
    rfl
  have run' : exec (.accountRecordWriteComplete (.disagrees left)) s
      = .next (finish (recordWriteFails (putRecord a left s))) := by
    simp only [exec, execAccountRecordWriteComplete, write]
  have next := serveStore_freed (s := u) (nvs := s.nvs) rfl
  simp only [captureRecord_eq] at next
  refine ⟨⟨_, run, ?_, next⟩, ?_⟩
  · rw [serveStore_eq u]; rfl
  · have mask : (putRecord a left s).tbu.active.bus.mask = s.tbu.active.bus.mask := rfl
    have board : (putRecord a left s).bli.board = s.bli.board := rfl
    rw [run']
    cases owed : s.nvs.pendingConfig with
    | true =>
      have fails : recordWriteFails (putRecord a left s)
          = endCommit .notStored (writeFails (putRecord a left s)) := if_pos owed
      rw [fails]
      refine ⟨_, rfl, endCommit_writeFails_state .notStored _, fun enabled room => ?_,
        fun _ enabled room => ?_⟩
      · rw [← mask] at enabled
        rw [← board] at room
        exact (endCommit_writeFails_announces .notStored _ room).1 enabled
      · rw [← mask] at enabled
        rw [← board] at room
        exact (endCommit_writeFails_announces .notStored _ room).2 enabled
    | false =>
      have fails : recordWriteFails (putRecord a left s) = writeFails (putRecord a left s) :=
        if_neg (by rw [show (putRecord a left s).nvs.pendingConfig = false from owed]; nofun)
      rw [fails]
      refine ⟨_, rfl, writeFails_state _, fun enabled room => ?_, nofun⟩
      rw [← mask] at enabled
      rw [← board] at room
      exact writeFails_announces _ room enabled

end Sys2Proof.Machine

/-! PROOFS. The end of start-up: what is restored from the store, and START as the first message sent
(R101 to R103, R164, R199 to R202). -/

namespace Sys2Proof.Machine

open Sys2Proof Host

variable {s : State} {t : Tables} {records : Tab (StoredItem AccountItem) 64} {a : Fin 64}

/-! ## The oldest entry (R161, R164) -/

/-- A post under another key leaves the oldest entry oldest (R162). -/
theorem boardPost_head {e : BoardEntry} {l : List BoardEntry} {n : Notice}
    (apart : e.notice.key ≠ n.key) (keyed : e.notice ≠ .boardFull) (mask : BitVec 16) :
    ∃ l', boardPost mask n (e :: l) = e :: l' := by
  have merge : ∀ m : Notice, e.notice.key ≠ m.key → ∃ l', mergeInto (e :: l) m = e :: l' :=
    fun m other => ⟨mergeInto l m, by simp [mergeInto, other]⟩
  have tail : ∀ m : Notice, ∃ l', atTail (e :: l) m = e :: l' := fun m => ⟨_, rfl⟩
  unfold boardPost
  split
  · exact ⟨l, rfl⟩
  · split
    · exact merge n apart
    · split
      · exact tail n
      · unfold boardFullPost
        split
        · exact ⟨l, rfl⟩
        · split
          · exact merge _ fun same => keyed ((Notice.key_eq_boardFull_iff _).mp same)
          · exact tail _

/-- Held posts under other keys leave the oldest entry oldest, and change the board alone (R164). -/
theorem postAllHeld_head {e : BoardEntry} {l : List BoardEntry} {ns : List Notice}
    (board : s.bli.board = e :: l) (keyed : e.notice ≠ .boardFull)
    (apart : ∀ n ∈ ns, e.notice.key ≠ n.key) :
    ∃ l', (postAllHeld ns s).bli = { s.bli with board := e :: l' } := by
  unfold postAllHeld
  induction ns generalizing s l with
  | nil => exact ⟨l, by rw [← board]; rfl⟩
  | cons n ns ih =>
    obtain ⟨l1, first⟩ := boardPost_head (l := l) (apart n (by simp)) keyed s.tbu.active.bus.mask
    rw [← board] at first
    have bli : (postHeld n s).bli = { s.bli with board := e :: l1 } := by
      rw [postHeld_keeps, first]
    obtain ⟨l2, rest⟩ := ih (s := postHeld n s) (l := l1) (by rw [bli]) fun m mem =>
      apart m (by simp [mem])
    exact ⟨l2, by rw [List.foldl_cons, rest, bli]⟩

/-- START stands alone on the board of a part that has just announced it (R202). -/
theorem announceStart_bli (outcome : StartState) (reset : s.bli = .reset) :
    (announceStart outcome s).bli
      = { Bli.reset with board := [⟨.start s.nvs.cause outcome, 1⟩] } := by
  rw [announceStart, postHeld_keeps]
  simp only [State.setNvs_bli, reset]
  rfl

/-- A link opened with START its oldest entry sends that first (R164, R202). -/
theorem arbitrate_of_start {b : Bli} {e : BoardEntry} {l : List BoardEntry} (idle : b.tx = .idle)
    (runs : b.halted = false) (noReply : b.replySlot = none) (noReport : b.report = none)
    (board : b.board = e :: l) :
    b.arbitrate = { b with board := l, tx := .sending (.notice e) } := by
  simp [Bli.arbitrate, idle, runs, noReply, noReport, board]

/-- The building link at the end of start-up: open at its own address, and sending START. -/
structure State.LinkStarted (s : State) (addr : BitVec 4) (n : Notice) : Prop where
  own : s.bli.own = BitVec.ofNat 8 (48 + addr.toNat)
  hunting : s.bli.rx = .hunting
  takingOpen : s.bli.takingOpen = true
  sending : s.bli.tx = .sending (.notice ⟨n, 1⟩)

theorem State.LinkStarted.announces {addr : BitVec 4} {n : Notice} (h : s.LinkStarted addr n) :
    s.Announces n := .inr ⟨_, rfl, h.sending⟩

/-- A link opened with START its oldest entry has started up at the end of the event. -/
theorem finish_linkStarted {addr : BitVec 4} {n : Notice} {l : List BoardEntry}
    (bli : s.bli = { Bli.reset with
      board := ⟨n, 1⟩ :: l, own := ownAddress addr, rx := .hunting, takingOpen := true }) :
    (finish s).LinkStarted addr n := by
  have sent : (finish s).bli = { s.bli with board := l, tx := .sending (.notice ⟨n, 1⟩) } := by
    rw [finish_bli]
    exact arbitrate_of_start (by rw [bli]; rfl) (by rw [bli]; rfl) (by rw [bli]; rfl)
      (by rw [bli]; rfl) (by rw [bli])
  constructor <;> rw [sent]
  · rw [bli]; rfl
  · rw [bli]
  · rw [bli]

theorem enterFallback_linkStarted (reset : s.bli = .reset) (addr : BitVec 4) :
    (finish (enterFallback addr s)).LinkStarted addr (.start s.nvs.cause .fallback) := by
  refine finish_linkStarted (l := []) ?_
  have start := announceStart_bli (s := loadTables .blank s) .fallback reset
  rw [enterFallback, openLink, State.setBli_bli]
  simp only [State.setPins_bli, start]
  rfl

theorem enterRunning_linkStarted (reset : s.bli = .reset) (addr : BitVec 4) :
    (finish (enterRunning addr s)).LinkStarted addr (.start s.nvs.cause .running) := by
  have start := announceStart_bli .running reset
  obtain ⟨l, restored⟩ : ∃ l, (restoreAccounts (announceStart .running s)).bli
      = { Bli.reset with board := ⟨.start s.nvs.cause .running, 1⟩ :: l } := by
    let s1 := announceStart .running s
    let d := restoredDau s1.tbu.active s1.store.records
    let s2 := postAllHeld (restorePosts s1.tbu.active d) (s1.setDau d)
    obtain ⟨l1, accounts⟩ := postAllHeld_head (s := s1.setDau d)
      (e := ⟨.start s.nvs.cause .running, 1⟩) (l := []) (ns := restorePosts s1.tbu.active d)
      (by rw [State.setDau_bli, start]) nofun (by
        intro n mem
        obtain ⟨b, -, post⟩ := List.mem_filterMap.mp mem
        simp only [Option.ite_none_left_eq_some, Option.some.injEq] at post
        rw [← post.2]
        nofun)
    obtain ⟨l2, ceilings⟩ := postAllHeld_head (s := ceilingsAtStart s1.tbu.active s2)
      (e := ⟨.start s.nvs.cause .running, 1⟩) (l := l1)
      (ns := ceilingPosts s1.tbu.active (ceilingsAtStart s1.tbu.active s2).zcu)
      (by rw [ceilingsAtStart, State.setZcu_bli, accounts]) nofun (by
        intro n mem
        obtain ⟨b, -, post⟩ := List.mem_filterMap.mp mem
        simp only [Option.ite_none_left_eq_some, Option.some.injEq] at post
        rw [← post.2]
        nofun)
    refine ⟨l2, ?_⟩
    rw [restoreAccounts]
    refine ceilings.trans ?_
    rw [ceilingsAtStart, State.setZcu_bli, accounts, State.setDau_bli, start]
  refine finish_linkStarted (l := l) ?_
  rw [enterRunning, startCycling, State.setFlc_bli, openLink, State.setBli_bli]
  simp only [State.setPins_bli, State.setCgu_bli, State.setCmu_bli, restored]

/-! ## The ledger date (R101) -/

/-- A ledger date is no earlier than a date (R87, R101). -/
def Covers (ledger : Option Date) (d : Date) : Prop :=
  ∃ l, ledger = some l ∧ (d.year < l.year ∨ (d.year = l.year ∧ d.day ≤ l.day))

theorem Date.later_iff (x y : Date) :
    x.later y = true ↔ y.year < x.year ∨ (x.year = y.year ∧ y.day < x.day) := by
  simp [Date.later]

theorem covers_self (d : Date) : Covers (some d) d := ⟨d, rfl, .inr ⟨rfl, le_rfl⟩⟩

/-- The later of two dates covers what the first covers (R101). -/
theorem Covers.latest {ledger : Option Date} {d : Date} (h : Covers ledger d) (o : Option Date) :
    Covers (latestDate ledger o) d := by
  obtain ⟨l, rfl, order⟩ := h
  cases o with
  | none => exact ⟨l, rfl, order⟩
  | some y =>
    cases later : y.later l with
    | false => exact ⟨l, by simp [latestDate, later], order⟩
    | true =>
      have after := (Date.later_iff y l).mp later
      exact ⟨y, by simp [latestDate, later], by omega⟩

/-- The later of two dates covers the second (R101). -/
theorem covers_latest (ledger : Option Date) (d : Date) : Covers (latestDate ledger (some d)) d := by
  cases ledger with
  | none => exact covers_self d
  | some l =>
    cases later : d.later l with
    | true => simpa [latestDate, later] using covers_self d
    | false =>
      have after := (Date.later_iff d l).not.mp (by rw [later]; nofun)
      exact ⟨l, by simp [latestDate, later], by omega⟩

/-- The later of two dates is one of them (R101). -/
theorem latestDate_cases {a b : Option Date} {d : Date} (h : latestDate a b = some d) :
    a = some d ∨ b = some d := by
  unfold latestDate at h
  split at h
  · exact .inr h
  · exact .inl h
  · split at h
    · exact .inr h
    · exact .inl h

/-- The ledger date so far, one account more (R101). -/
def latestOf (records : Tab (StoredItem AccountItem) 64) (d : Option Date) (a : Fin 64) :
    Option Date :=
  match validRecord a (records.get a) with
  | some r => latestDate d r.date
  | none => d

theorem restoredLedger_eq (t : Tables) (records : Tab (StoredItem AccountItem) 64) :
    restoredLedger t records = t.enabledAccounts.foldl (latestOf records) none := rfl

theorem Covers.latestOf {ledger : Option Date} {d : Date} (h : Covers ledger d)
    (records : Tab (StoredItem AccountItem) 64) (a : Fin 64) :
    Covers (Machine.latestOf records ledger a) d := by
  unfold Machine.latestOf
  split
  · exact h.latest _
  · exact h

/-- A fold over accounts covers what it covers at the start. -/
theorem Covers.foldl {ledger : Option Date} {d : Date} (h : Covers ledger d)
    (records : Tab (StoredItem AccountItem) 64) (as : List (Fin 64)) :
    Covers (as.foldl (Machine.latestOf records) ledger) d := by
  induction as generalizing ledger with
  | nil => exact h
  | cons a as ih => exact ih (h.latestOf records a)

/-- The ledger date covers the date of every valid record of an enabled account (R101). -/
theorem restoredLedger_covers (enabled : t.accountEnabled a = true) {r : AccountItem}
    (valid : validRecord a (records.get a) = some r) {d : Date} (date : r.date = some d) :
    Covers (restoredLedger t records) d := by
  obtain ⟨before, after, split⟩ := List.append_of_mem ((t.mem_enabledAccounts a).mpr enabled)
  rw [restoredLedger_eq, split, List.foldl_append, List.foldl_cons]
  refine Covers.foldl ?_ records after
  simp only [latestOf, valid, date]
  exact covers_latest _ d

/-- The ledger date is that of a valid record of an enabled account (R101). -/
theorem restoredLedger_source {d : Date} (h : restoredLedger t records = some d) :
    ∃ a r, t.accountEnabled a = true ∧ validRecord a (records.get a) = some r
      ∧ r.date = some d := by
  have among : ∀ (as : List (Fin 64)) (o : Option Date), as.foldl (latestOf records) o = some d →
      o = some d ∨ ∃ a ∈ as, ∃ r, validRecord a (records.get a) = some r ∧ r.date = some d := by
    intro as
    induction as with
    | nil => exact fun o => .inl
    | cons a as ih =>
      intro o found
      rcases ih _ found with here | ⟨b, mem, rest⟩
      · unfold latestOf at here
        split at here
        · next r valid =>
          rcases latestDate_cases here with old | new
          · exact .inl old
          · exact .inr ⟨a, by simp, r, valid, new⟩
        · exact .inl here
      · exact .inr ⟨b, by simp [mem], rest⟩
  rcases among _ none h with none_ | ⟨a, mem, r, valid, date⟩
  · cases none_
  · exact ⟨a, r, (t.mem_enabledAccounts a).mp mem, valid, date⟩

/-! ## Restored accounts (R102, R103) -/

/-- A record restored with its counts, and evaluated (R85, R102). -/
def restoredAs (cfg : AccountRec) (r : AccountItem) (today year extension : Nat) : AccountDyn :=
  let e := min extension (num cfg.allowance)
  ⟨if r.suspended = true then .suspended
    else if cfg.budgetLuxSeconds ≤ year then .annualSpent
    else if (num cfg.allowance + e) * 3600 ≤ today then .dailySpent
    else .open_, today, year, e, none, 0, 0#16, false⟩

/-- A record's counts of its day still stand at the ledger date (R102). -/
def keepsDay : Option Date → Option Date → Bool
  | some d, some l => d == l
  | _, _ => true

/-- A record's counts of its year still stand at the ledger date (R102). -/
def keepsYear : Option Date → Option Date → Bool
  | some d, some l => d.year == l.year
  | _, _ => true

/-- A restored account, by what of its record's counts still stands (R102). -/
theorem restoredAccount_eq (cfg : AccountRec) (ledger : Option Date) (r : AccountItem) :
    restoredAccount cfg ledger r = restoredAs cfg r
      (if keepsDay r.date ledger then r.usedToday else 0)
      (if keepsYear r.date ledger then r.usedYear else 0)
      (if keepsDay r.date ledger then r.extension else 0) := by
  have rolled : restoredAccount cfg ledger r = AccountDyn.evaluate cfg
      ⟨if r.suspended then .suspended else .open_,
        if keepsDay r.date ledger then r.usedToday else 0,
        if keepsYear r.date ledger then r.usedYear else 0,
        min (if keepsDay r.date ledger then r.extension else 0) (num cfg.allowance),
        none, 0, 0#16, false⟩ := by
    unfold restoredAccount
    cases r.date <;> cases ledger <;> rfl
  rw [rolled]
  generalize (if keepsDay r.date ledger then r.usedToday else 0) = today
  generalize (if keepsYear r.date ledger then r.usedYear else 0) = year
  generalize (if keepsDay r.date ledger then r.extension else 0) = extension
  rw [AccountDyn.evaluate, restoredAs]
  cases r.suspended with
  | true => simp
  | false =>
    by_cases daily : (num cfg.allowance + min extension (num cfg.allowance)) * 3600 ≤ today <;>
      simp [evaluated, effectiveAllowance, Config.luxSecondsPerLuxHour, daily]

/-- A record without a date keeps its counts (R102). -/
theorem restoredAccount_of_undated (cfg : AccountRec) (ledger : Option Date) {r : AccountItem}
    (undated : r.date = none) :
    restoredAccount cfg ledger r = restoredAs cfg r r.usedToday r.usedYear r.extension := by
  simp [restoredAccount_eq, undated, keepsDay, keepsYear]

/-- A record with a date is rolled to the ledger date (R102). -/
theorem restoredAccount_of_dated (cfg : AccountRec) {r : AccountItem} {d l : Date}
    (dated : r.date = some d) :
    (d = l → restoredAccount cfg (some l) r
        = restoredAs cfg r r.usedToday r.usedYear r.extension)
      ∧ (d.year = l.year → d.day < l.day →
        restoredAccount cfg (some l) r = restoredAs cfg r 0 r.usedYear 0)
      ∧ (d.year < l.year → restoredAccount cfg (some l) r = restoredAs cfg r 0 0 0) := by
  refine ⟨fun same => ?_, fun year day => ?_, fun year => ?_⟩
  · simp [restoredAccount_eq, dated, keepsDay, keepsYear, same]
  · have other : d ≠ l := fun same => by rw [same] at day; omega
    simp [restoredAccount_eq, dated, keepsDay, keepsYear, other, year]
  · have other : d ≠ l := fun same => by rw [same] at year; omega
    simp [restoredAccount_eq, dated, keepsDay, keepsYear, other, year.ne]

/-- An account charged as spent is ANNUAL_SPENT (R85, R103). -/
theorem condemnedAccount_eq (cfg : AccountRec) :
    condemnedAccount cfg = ⟨.annualSpent, 0, cfg.budgetLuxSeconds, 0, none, 0, 0#16, true⟩ := by
  simp [condemnedAccount, AccountDyn.evaluate, evaluated]

/-! ## Settles O58 -/

/-- Start-up is under way (R198, R199). -/
theorem State.startsUp_of_starting (starting : s.nvs.start = .starting)
    (released : s.pins.resetAsserted = false) : s.startsUp = true := by
  simp [State.startsUp, starting, released]

/-- Settles O58, by what the store controller reads next. -/
theorem startUpEndsRunningOrFallback : Obligations.StartUpEndsRunningOrFallback := by
  unfold Obligations.StartUpEndsRunningOrFallback
  intro s addr starting released clean
  have startsUp := State.startsUp_of_starting starting released
  have flc := clean.flc starting
  have bli := clean.bli starting
  have quiet : s.bli.arbitrate = s.bli := by rw [bli]; rfl
  refine ⟨fun reading invalid => ?_, fun tables reading valid => ?_, fun k reading more => ?_,
    fun reading => ?_⟩
  · have run : exec (.configurationImageRead addr) s = .next (finish (enterFallback addr s)) := by
      simp [exec, execConfigurationImageRead, startsUp, reading, invalid]
    have link := enterFallback_linkStarted bli addr
    refine ⟨_, run, ?_, ?_, ?_, ?_, ?_, link.own, link.hunting, link.takingOpen, link.announces,
      rfl, link.sending⟩
    · simp [Nvs.started]
    · simp [Nvs.started]
    · simp
    · simp
    · exact flc
  · have run : exec (.configurationImageRead addr) s
        = .next (finish ((loadTables tables s).setNvs
          { (loadTables tables s).nvs with reading := .record 0 })) := by
      simp [exec, execConfigurationImageRead, startsUp, reading, valid]
    refine ⟨_, run, ?_⟩
    simp only [finish, State.setBli, State.setNvs, State.setSchedule, loadTables, State.setTbu,
      quiet]
  · have next : finOf 64 (k.val + 1) = some ⟨k.val + 1, by omega⟩ := finOf_eq_some_iff.mpr rfl
    have run : exec (.accountRecordRead addr) s
        = .next (finish (s.setNvs { s.nvs with reading := .record ⟨k.val + 1, by omega⟩ })) := by
      simp [exec, execAccountRecordRead, startsUp, reading, next]
    refine ⟨_, ⟨k.val + 1, by omega⟩, run, rfl, ?_⟩
    simp only [finish, State.setBli, State.setNvs, State.setSchedule, quiet]
  · have last : finOf 64 ((63 : Fin 64).val + 1) = none := finOf_eq_none_iff.mpr (by decide)
    have run : exec (.accountRecordRead addr) s = .next (finish (enterRunning addr s)) := by
      simp only [exec, execAccountRecordRead, startsUp, reading, last, if_true]
    have link := enterRunning_linkStarted bli addr
    have dau : (finish (enterRunning addr s)).dau
        = restoredDau s.tbu.active s.store.records := enterRunning_dau addr s
    have account (a : Fin 64) : (restoredDau s.tbu.active s.store.records).accounts.get a
        = accountAtStart s.tbu.active s.store.records a := by simp [restoredDau]
    refine ⟨_, run, ?_, ?_, ?_, ?_, ?_, ?_, ?_, ?_, fun i => ?_, ?_, ?_, fun d ledger => ?_,
      fun a disabled => ?_, fun a enabled => ?_, link.own, link.hunting, link.takingOpen,
      link.announces, ?_, ?_, link.sending⟩
    · simp [Nvs.started]
    · simp [Nvs.started]
    · simp [Flc.beginMark]
    · simp [Flc.beginMark]
    · simp [Flc.beginMark]
    · rw [dau]; rfl
    · rw [dau]; rfl
    · rw [dau]; rfl
    · rw [dau]; simp [restoredDau, Dau.reset]
    · simp [Nvs.started]
    · simp [Nvs.started]
    · rw [dau] at ledger
      obtain ⟨a, r, enabled, valid, date⟩ := restoredLedger_source ledger
      exact ⟨a, r, enabled, (validRecord_eq_some_iff a _ r).mp valid, date⟩
    · rw [dau, account, accountAtStart, disabled]
      rfl
    · rw [dau]
      simp only [account, accountAtStart, enabled, if_true]
      refine ⟨fun r valid => ?_, fun invalid => ?_⟩
      · have valid' := (validRecord_eq_some_iff a _ r).mpr valid
        simp only [valid']
        refine ⟨fun undated => restoredAccount_of_undated _ _ undated, fun d dated => ?_⟩
        obtain ⟨l, ledger, order⟩ := restoredLedger_covers enabled valid' dated
        refine ⟨l, ledger, order, ?_⟩
        rw [ledger]
        exact restoredAccount_of_dated _ dated
      · have none_ : validRecord a (s.store.records.get a) = none := by
          rw [Option.eq_none_iff_forall_ne_some]
          exact fun r valid => invalid r ((validRecord_eq_some_iff a _ r).mp valid)
        simp only [none_]
        exact condemnedAccount_eq _
    · simp [enterRunning, startCycling, restoreAccounts]
    · simp [enterRunning, startCycling, restoreAccounts]

end Sys2Proof.Machine

/-! PROOFS. Requests on zones and link monitors: HOLD OCCUPIED, RELEASE HOLD (R111 to R113, R115) and
LINK READ ACCOUNT (R80, R93). -/

namespace Sys2Proof.Machine

open Sys2Proof Host

variable {s : State} {o : Origin} {t : Tables} {z : Fin 16}

/-! ## Operands (R205) -/

/-- A zone that a byte names. -/
theorem operandZone_eq {b : Byte} {fields : List Byte} (h : b.toNat = z.val) :
    operandZone (b :: fields) = some z := finOf_eq_some_iff.mpr h.symm

/-- No zone above 15. -/
theorem operandZone_of_above {b : Byte} (fields : List Byte) (above : 15 < b.toNat) :
    operandZone (b :: fields) = none := finOf_eq_none_iff.mpr above

/-- An account that a byte names. -/
theorem operandAccount_eq {b : Byte} {fields : List Byte} {a : Fin 64} (h : b.toNat = a.val) :
    operandAccount (b :: fields) = some a := finOf_eq_some_iff.mpr h.symm

/-- No account above 63. -/
theorem operandAccount_of_above {b : Byte} (fields : List Byte) (above : 63 < b.toNat) :
    operandAccount (b :: fields) = none := finOf_eq_none_iff.mpr above

theorem toNat_byte_zone (z : Fin 16) : (BitVec.ofNat 8 z.val).toNat = z.val := by
  rw [BitVec.toNat_ofNat]; omega

theorem toNat_byte_account (a : Fin 64) : (BitVec.ofNat 8 a.val).toNat = a.val := by
  rw [BitVec.toNat_ofNat]; omega

/-- A two-byte field behind a first byte (R205). -/
theorem operand16_be16 (b : Byte) (h : Half) : operand16 (b :: be16 h) 1 = h.toNat := by
  simp [operand16, operandOf, ofBytes, be16, Nat.shiftRight_eq_div_pow]
  omega

/-! ## Holds (R111 to R113) -/

/-- A zone's record with a hold set or released, computed anew (R112, R113, R117). -/
def ZoneDyn.held (t : Tables) (d : Dau) (z : Fin 16) (h : Option Nat) (r : ZoneDyn) : ZoneDyn :=
  ({ r with hold := h } : ZoneDyn).computed t d z

/-- A hold set or released in an enabled zone: its record alone (R112, R113). -/
theorem setHold_zones (enabled : s.tbu.active.zoneEnabled z = true) (h : Option Nat) :
    (setHold z h s).zcu.zones.get z = (s.zcu.zones.get z).held s.tbu.active s.dau z h
      ∧ (∀ y, y ≠ z → (setHold z h s).zcu.zones.get y = s.zcu.zones.get y)
      ∧ (setHold z h s).zcu.vacantSeen = s.zcu.vacantSeen := by
  rw [setHold, recompute_zcu, if_pos enabled]
  refine ⟨?_, fun y other => ?_, rfl⟩
  · simp [Zcu.setZone, ZoneDyn.held]
  · simp [Zcu.setZone, Tab.get_set_ne _ _ other]

/-- A HOLD OCCUPIED of an enabled zone is taken (R112). -/
theorem holdOccupied_of_taken {b : Byte} {minutes : Half} (zone : b.toNat = z.val)
    (low : 1 ≤ minutes.toNat) (high : minutes.toNat ≤ 720)
    (enabled : s.tbu.active.zoneEnabled z = true) :
    holdOccupied (b :: be16 minutes) s
      = holdReply z (setHold z (some (minutes.toNat * 60)) s) := by
  have inside : ¬ (minutes.toNat < 1 ∨ 720 < minutes.toNat) := by omega
  simp only [holdOccupied, operandZone_eq zone, operand16_be16, if_neg inside, enabled]
  rfl

/-- A HOLD OCCUPIED of a zone that is not enabled (R112). -/
theorem holdOccupied_of_disabled {b : Byte} {minutes : Half} (zone : b.toNat = z.val)
    (low : 1 ≤ minutes.toNat) (high : minutes.toNat ≤ 720)
    (disabled : s.tbu.active.zoneEnabled z = false) :
    holdOccupied (b :: be16 minutes) s = (s, .notEnabled, .nothing) := by
  have inside : ¬ (minutes.toNat < 1 ∨ 720 < minutes.toNat) := by omega
  simp only [holdOccupied, operandZone_eq zone, operand16_be16, if_neg inside, disabled]
  rfl

/-- A HOLD OCCUPIED of no zone, or of minutes out of range (R112). -/
theorem holdOccupied_of_range {b : Byte} {minutes : Half}
    (wrong : 15 < b.toNat ∨ minutes.toNat < 1 ∨ 720 < minutes.toNat) :
    holdOccupied (b :: be16 minutes) s = (s, .range, .nothing) := by
  unfold holdOccupied
  split
  · rfl
  · next z zone =>
    have below : ¬ 15 < b.toNat := fun above => by
      rw [operandZone_of_above _ above] at zone; cases zone
    simp only [operand16_be16]
    exact if_pos (wrong.resolve_left below)

section
variable {k : ReqKind} {fields : List Byte}

/-- A hold that is taken, at the end of its event (R112, R113). -/
theorem exec_hold_of_taken (takes : s.TakesAtOnce)
    (level : (s.levelOf o).allows (k.needs fields) = true) (shape : k.shapeOk fields = true)
    (enabled : s.tbu.active.zoneEnabled z = true) {hold : Option Nat}
    (effect : requestEffect k o.source fields (setCommission o.commission s)
      = holdReply z (setHold z hold (setCommission o.commission s))) :
    ∃ t ceiling reason, exec (k.toInstr o fields) s = .next t
      ∧ t = { s with
          pins := s.pinsOf o, zcu := t.zcu, bli := t.bli, schedule := t.schedule }
      ∧ t.zcu.zones.get z = { s.zcu.zones.get z with
          hold := hold, ceiling := ceiling, reason := reason }
      ∧ (t.zcu.zones.get z).CeilingStands s.tbu.active s.dau z
      ∧ (∀ y, y ≠ z → t.zcu.zones.get y = s.zcu.zones.get y)
      ∧ t.zcu.vacantSeen = s.zcu.vacantSeen
      ∧ t.Replies o.source k .ok (.zone (t.zcu.zones.get z)) := by
  obtain ⟨t, run, same, replies⟩ := exec_request_of_effect takes level shape effect
  have zcu : t.zcu = (setHold z hold (setCommission o.commission s)).zcu := by rw [same]
  obtain ⟨here, others, flags⟩ := setHold_zones (s := setCommission o.commission s) enabled hold
  rw [← zcu] at here others flags
  refine ⟨t, _, _, run, ?_, here, ?_, others, flags, ?_⟩
  · refine same.trans ?_
    rw [zcu]
    simp only [setHold_frame]
    rfl
  · rw [here]
    exact ZoneDyn.computed_stands ..
  · rw [zcu]
    exact replies

end

/-- Settles O50: each request by its zone, its minutes and whether the zone is enabled. -/
theorem holdsAreTakenAndReleased : Obligations.HoldsAreTakenAndReleased := by
  unfold Obligations.HoldsAreTakenAndReleased
  intro s o takes level refused held
  have releases (b : Byte) : requestEffect .releaseHold o.source [b] (setCommission o.commission s)
      = releaseHold [b] (setCommission o.commission s) := rfl
  refine ⟨fun b minutes wrong => ?_, fun b above => ?_, fun z => ⟨fun disabled => ⟨?_, ?_⟩,
    fun enabled => ⟨?_, ?_⟩⟩⟩
  · exact exec_request_of_refusal (k := .holdOccupied) takes level rfl (holdOccupied_of_range wrong)
  · refine exec_request_of_refusal (k := .releaseHold) takes level rfl ?_
    rw [releases, releaseHold, operandZone_of_above _ above]
    rfl
  · intro minutes low high
    exact exec_request_of_refusal (k := .holdOccupied) takes level rfl
      (holdOccupied_of_disabled (s := setCommission o.commission s) (toNat_byte_zone z) low high
        disabled)
  · refine exec_request_of_refusal (k := .releaseHold) takes level rfl ?_
    have disabled' : (setCommission o.commission s).tbu.active.zoneEnabled z = false := disabled
    simp only [releases, releaseHold, operandZone_eq (toNat_byte_zone z), disabled']
    rfl
  · intro minutes low high
    exact exec_hold_of_taken (k := .holdOccupied) takes level rfl enabled
      (holdOccupied_of_taken (s := setCommission o.commission s) (toNat_byte_zone z) low high
        enabled)
  · refine exec_hold_of_taken (k := .releaseHold) takes level rfl enabled ?_
    have enabled' : (setCommission o.commission s).tbu.active.zoneEnabled z = true := enabled
    simp only [releases, releaseHold, operandZone_eq (toNat_byte_zone z), enabled']
    rfl

end Sys2Proof.Machine

/-! PROOFS. LINK READ ACCOUNT: the monitor that a requester opens, and what it leaves of the others
(R80, R93). -/

namespace Sys2Proof.Machine

open Sys2Proof Host

variable {s : State} {o : Origin} {ms : Tab Monitor 4} {requester : Byte} {i j : Fin 4}

/-! ## The oldest entry of a kind (R80, R93) -/

/-- An entry's opening order, 0 where it is FREE. -/
def rankOf (ms : Tab Monitor 4) (i : Fin 4) : Nat := ((ms.get i).entry?.map (·.order)).getD 0

theorem rankOf_eq {e : MonitorEntry} (h : (ms.get i).entry? = some e) : rankOf ms i = e.order := by
  simp [rankOf, h]

/-- The better of the best entry so far and the next: of lower opening order. -/
def olderOf (ms : Tab Monitor 4) (p : Monitor → Bool) (best : Option (Fin 4)) (i : Fin 4) :
    Option (Fin 4) :=
  if p (ms.get i) then
    match best with
    | none => some i
    | some j => if rankOf ms i < rankOf ms j then some i else best
  else best

theorem oldestMonitor_eq (ms : Tab Monitor 4) (p : Monitor → Bool) :
    oldestMonitor ms p = (List.finRange 4).foldl (olderOf ms p) none := rfl

/-- What a best entry is among those seen: of the kind, and of lowest opening order. -/
def BestOf (ms : Tab Monitor 4) (p : Monitor → Bool) (seen : Fin 4 → Prop) :
    Option (Fin 4) → Prop
  | none => ∀ j, seen j → p (ms.get j) = false
  | some i => p (ms.get i) = true ∧ ∀ j, seen j → p (ms.get j) = true → rankOf ms i ≤ rankOf ms j

/-- The better of two is best among one entry more. -/
theorem BestOf.olderOf {p : Monitor → Bool} {seen : Fin 4 → Prop} {best : Option (Fin 4)}
    (h : BestOf ms p seen best) (i : Fin 4) :
    BestOf ms p (fun j => seen j ∨ j = i) (Machine.olderOf ms p best i) := by
  unfold Machine.olderOf
  cases passes : p (ms.get i) with
  | false =>
    rw [if_neg nofun]
    cases best with
    | none =>
      rintro j (before | rfl)
      · exact h j before
      · exact passes
    | some b =>
      refine ⟨h.1, ?_⟩
      rintro j (before | rfl) pj
      · exact h.2 j before pj
      · rw [passes] at pj; cases pj
  | true =>
    rw [if_pos rfl]
    cases best with
    | none =>
      refine ⟨passes, ?_⟩
      rintro j (before | rfl) pj
      · rw [h j before] at pj; cases pj
      · exact le_rfl
    | some b =>
      simp only
      split
      · next lower =>
        refine ⟨passes, ?_⟩
        rintro j (before | rfl) pj
        · exact lower.le.trans (h.2 j before pj)
        · exact le_rfl
      · next notLower =>
        refine ⟨h.1, ?_⟩
        rintro j (before | rfl) pj
        · exact h.2 j before pj
        · exact not_lt.mp notLower

/-- The oldest entry of a kind is best among all (R93). -/
theorem oldestMonitor_best (ms : Tab Monitor 4) (p : Monitor → Bool) :
    BestOf ms p (fun _ => True) (oldestMonitor ms p) := by
  have among : ∀ (l : List (Fin 4)) (seen : Fin 4 → Prop) (best : Option (Fin 4)),
      BestOf ms p seen best → BestOf ms p (fun j => seen j ∨ j ∈ l) (l.foldl (olderOf ms p) best) := by
    intro l
    induction l with
    | nil => intro seen best h; simpa using h
    | cons i l ih =>
      intro seen best h
      have rest := ih _ _ (h.olderOf i)
      simpa only [List.mem_cons, or_assoc, List.foldl_cons] using rest
  have all := among (List.finRange 4) (fun _ => False) none fun _ => False.elim
  simpa only [oldestMonitor_eq, List.mem_finRange, or_true] using all

/-! ## The entry that a new monitor takes (R93 step 2) -/

/-- The first entry that a search finds: those before it fail the test. -/
theorem Tab.find?_first {α : Type} {m : Nat} {tab : Tab α m} {p : Fin m → α → Bool} {i : Fin m}
    (found : tab.find? p = some i) {k : Fin m} (below : k < i) : p k (tab.get k) = false := by
  by_contra passes
  rw [Bool.not_eq_false] at passes
  obtain ⟨k0, here, first⟩ : ∃ k0, p k0 (tab.get k0) = true ∧
      ∀ j, j < k0 → p j (tab.get j) = false := by
    obtain ⟨k0, mem, least⟩ := Finset.exists_min_image
      (Finset.univ.filter fun k => p k (tab.get k) = true) id ⟨k, by simpa using passes⟩
    refine ⟨k0, by simpa using mem, fun j lower => ?_⟩
    by_contra passes'
    rw [Bool.not_eq_false] at passes'
    exact absurd (least j (by simpa using passes')) (not_le.mpr lower)
  have same : k0 = i := by
    have at_ := Tab.find?_eq_some_of_first here first
    rw [found] at at_
    exact (Option.some.inj at_).symm
  rw [first k (by rw [same]; exact below)] at passes
  cases passes

/-- The lowest FREE entry, where there is one. -/
theorem chooseMonitor_of_free (free : ms.get j = .free) :
    ms.get (chooseMonitor ms) = .free ∧ ∀ k, k < chooseMonitor ms → ms.get k ≠ .free := by
  unfold chooseMonitor
  cases found : ms.find? fun _ m => m == .free with
  | none =>
    have none_ := (Tab.find?_eq_none_iff ms _).mp found j
    rw [free] at none_
    cases none_
  | some i =>
    refine ⟨by simpa using Tab.find?_some found, fun k below => ?_⟩
    simpa using Tab.find?_first found below

/-- No entry is FREE: none is found. -/
theorem find?_free_of_full (full : ∀ j, ms.get j ≠ .free) :
    (ms.find? fun _ m => m == .free) = none :=
  (Tab.find?_eq_none_iff ms _).mpr fun j => by simpa using full j

theorem Monitor.isLapsed_iff (m : Monitor) : m.isLapsed = true ↔ ∃ e, m = .lapsed e := by
  cases m <;> simp [Monitor.isLapsed]

theorem Monitor.isOpen_iff (m : Monitor) : m.isOpen = true ↔ ∃ e, m = .open_ e := by
  cases m <;> simp [Monitor.isOpen]

/-- Else the LAPSED entry of lowest opening order, where there is one. -/
theorem chooseMonitor_of_lapsed (full : ∀ j, ms.get j ≠ .free) {e : MonitorEntry}
    (lapsed : ms.get j = .lapsed e) :
    ∃ e, ms.get (chooseMonitor ms) = .lapsed e
      ∧ ∀ j f, ms.get j = .lapsed f → e.order ≤ f.order := by
  have best := oldestMonitor_best ms Monitor.isLapsed
  unfold chooseMonitor
  rw [find?_free_of_full full]
  cases found : oldestMonitor ms Monitor.isLapsed with
  | none =>
    rw [found] at best
    have none_ := best j trivial
    rw [lapsed] at none_
    cases none_
  | some i =>
    rw [found] at best
    obtain ⟨e, here⟩ := (Monitor.isLapsed_iff _).mp best.1
    refine ⟨e, here, fun k f lapsedK => ?_⟩
    have lower := best.2 k trivial (by rw [lapsedK]; rfl)
    rwa [rankOf_eq (e := e) (by rw [here]; rfl), rankOf_eq (e := f) (by rw [lapsedK]; rfl)] at lower

/-- Else the OPEN entry of lowest opening order. -/
theorem chooseMonitor_of_open (full : ∀ j, ms.get j ≠ .free)
    (none_lapsed : ∀ j e, ms.get j ≠ .lapsed e) :
    ∃ e, ms.get (chooseMonitor ms) = .open_ e
      ∧ ∀ j f, ms.get j = .open_ f → e.order ≤ f.order := by
  have no_lapsed : oldestMonitor ms Monitor.isLapsed = none := by
    have best := oldestMonitor_best ms Monitor.isLapsed
    cases found : oldestMonitor ms Monitor.isLapsed with
    | none => rfl
    | some i =>
      rw [found] at best
      obtain ⟨e, here⟩ := (Monitor.isLapsed_iff _).mp best.1
      exact absurd here (none_lapsed i e)
  have best := oldestMonitor_best ms Monitor.isOpen
  unfold chooseMonitor
  rw [find?_free_of_full full, no_lapsed]
  cases found : oldestMonitor ms Monitor.isOpen with
  | none =>
    rw [found] at best
    have none_ := best 0 trivial
    cases first : ms.get 0 with
    | free => exact absurd first (full 0)
    | open_ e => rw [first] at none_; cases none_
    | lapsed e => exact absurd first (none_lapsed 0 e)
  | some i =>
    rw [found] at best
    obtain ⟨e, here⟩ := (Monitor.isOpen_iff _).mp best.1
    refine ⟨e, here, fun k f openK => ?_⟩
    have lower := best.2 k trivial (by rw [openK]; rfl)
    rwa [rankOf_eq (e := e) (by rw [here]; rfl), rankOf_eq (e := f) (by rw [openK]; rfl)] at lower

/-! ## What becomes FREE (R93 steps 1 to 3) -/

/-- A requester holds an entry. -/
def Owns (ms : Tab Monitor 4) (requester : Byte) (j : Fin 4) : Prop :=
  ∃ e, (ms.get j).entry? = some e ∧ e.requester = requester

/-- A requester holds at most one entry (R80). -/
def OneEach (ms : Tab Monitor 4) : Prop :=
  ∀ (i j : Fin 4) (e f : MonitorEntry), (ms.get i).entry? = some e → (ms.get j).entry? = some f →
    e.requester = f.requester → i = j

theorem OneEach.owns (h : OneEach ms) (hi : Owns ms requester i) (hj : Owns ms requester j) :
    i = j := by
  obtain ⟨e, he, rfl⟩ := hi
  obtain ⟨f, hf, same⟩ := hj
  exact h i j e f he hf same.symm

/-- The requester's own entry becomes FREE (R93 step 1). -/
theorem ownFreed_of_owns (h : OneEach ms) (own : Owns ms requester i) :
    ownFreed ms requester = freeMonitor ms i := by
  unfold ownFreed
  cases found : monitorOf ms requester with
  | none =>
    obtain ⟨e, he, same⟩ := own
    exact absurd same (monitorOf_eq_none_iff.mp found i e he)
  | some j => rw [h.owns own (monitorOf_eq_some found)]

/-- Nothing becomes FREE where the requester holds nothing (R93 step 1). -/
theorem ownFreed_of_none (none_ : ∀ j, ¬ Owns ms requester j) : ownFreed ms requester = ms := by
  unfold ownFreed
  cases found : monitorOf ms requester with
  | none => rfl
  | some j => exact absurd (monitorOf_eq_some found) (none_ j)

/-- An entry is free for a new monitor where it was FREE or the requester's own (R93 step 2). -/
theorem ownFreed_eq_free_iff (h : OneEach ms) (j : Fin 4) :
    (ownFreed ms requester).get j = .free ↔ ms.get j = .free ∨ Owns ms requester j := by
  by_cases some_ : ∃ i, Owns ms requester i
  · obtain ⟨i, own⟩ := some_
    rw [ownFreed_of_owns h own]
    by_cases here : j = i
    · subst here
      exact iff_of_true (freeMonitor_self ms j) (.inr own)
    · rw [freeMonitor_eq_free_iff ms i j here]
      exact ⟨.inl, fun either => either.resolve_right fun own' => here (h.owns own' own)⟩
  · rw [not_exists] at some_
    rw [ownFreed_of_none some_]
    exact ⟨.inl, fun either => either.resolve_right (some_ j)⟩

/-- The table before the new entry is set in it (R93 steps 1 to 3). -/
def roomMade (ms : Tab Monitor 4) (requester : Byte) : Tab Monitor 4 :=
  freeMonitor (ownFreed ms requester) (chooseMonitor (ownFreed ms requester))

/-- The entry that a new monitor takes (R93 step 2). -/
def takenBy (ms : Tab Monitor 4) (requester : Byte) : Fin 4 :=
  chooseMonitor (ownFreed ms requester)

theorem openMonitor_eq_set (ms : Tab Monitor 4) (requester : Byte) (a : Fin 64)
    (revision : Half) : openMonitor ms requester a revision
      = (roomMade ms requester).set (takenBy ms requester)
          (.open_ ⟨requester, a, revision, heldMonitors (roomMade ms requester) + 1⟩) := rfl

/-- At most one entry that was held becomes FREE: the requester's own, or else the one taken. -/
theorem roomMade_eq (h : OneEach ms) :
    ∃ k, roomMade ms requester = freeMonitor ms k
      ∧ (∀ j e, (ms.get j).entry? = some e → (Owns ms requester j ∨ j = takenBy ms requester) → j = k)
      ∧ ∀ e, (ms.get k).entry? = some e → Owns ms requester k ∨ k = takenBy ms requester := by
  by_cases some_ : ∃ i, Owns ms requester i
  · obtain ⟨i, own⟩ := some_
    have free : (ownFreed ms requester).get i = .free := (ownFreed_eq_free_iff h i).mpr (.inr own)
    have taken := (chooseMonitor_of_free free).1
    refine ⟨i, ?_, fun j e held which => ?_, fun e held => .inl own⟩
    · rw [roomMade, freeMonitor_of_free taken, ownFreed_of_owns h own]
    · rcases which with own' | rfl
      · exact h.owns own' own
      · rcases (ownFreed_eq_free_iff h _).mp taken with free' | own'
        · rw [takenBy, free'] at held; cases held
        · exact h.owns own' own
  · rw [not_exists] at some_
    refine ⟨takenBy ms requester, ?_, fun j e held which => which.resolve_left (some_ j),
      fun e held => .inr rfl⟩
    rw [roomMade, takenBy, ownFreed_of_none some_]

/-- The table before the new entry is set in it is sound (R80). -/
theorem Dau.MonitorsSound.roomMade {d : Dau} (h : d.MonitorsSound) (requester : Byte) :
    Dau.MonitorsSound { d with monitors := Machine.roomMade d.monitors requester } := by
  obtain ⟨k, room, -, -⟩ := roomMade_eq (requester := requester) h.one_each
  rw [room]
  exact h.free k

/-- An entry that becomes FREE below another's rank (R80). -/
def FreedBelow (ms : Tab Monitor 4) (requester : Byte) (f : MonitorEntry) : Prop :=
  ∃ j e, (ms.get j).entry? = some e ∧ (Owns ms requester j ∨ j = takenBy ms requester)
    ∧ e.order < f.order

/-- An entry that stays held: its rank closes up where an older one became FREE (R80). -/
theorem roomMade_kept (h : OneEach ms) (other : j ≠ takenBy ms requester)
    (foreign : ¬ Owns ms requester j) {f : MonitorEntry} (held : (ms.get j).entry? = some f) :
    ∃ gone, (roomMade ms requester).get j = (ms.get j).closeRank gone
      ∧ (FreedBelow ms requester f ↔ gone < f.order) := by
  obtain ⟨k, room, only, which⟩ := roomMade_eq (requester := requester) h
  rw [room]
  cases gone : (ms.get k).entry? with
  | none =>
    have none_ : ¬ FreedBelow ms requester f := by
      rintro ⟨i, e, he, freed, -⟩
      rw [only i e he freed, gone] at he
      cases he
    refine ⟨f.order, ?_, iff_of_false none_ (lt_irrefl _)⟩
    rw [freeMonitor_of_free (by simpa using gone)]
    cases here : ms.get j <;> rw [here] at held <;> simp_all [Monitor.closeRank]
  | some e =>
    have apart : j ≠ k := by
      rintro rfl
      exact (which e gone).elim foreign other
    refine ⟨e.order, freeMonitor_other gone apart, ⟨?_, fun below => ⟨k, e, gone, which e gone, below⟩⟩⟩
    rintro ⟨i, e', he', freed, below⟩
    rw [only i e' he' freed, gone, Option.some.injEq] at he'
    rwa [he']

/-- An entry free for a new monitor and not taken stays FREE (R93). -/
theorem roomMade_free (h : OneEach ms) (other : j ≠ takenBy ms requester)
    (open_ : ms.get j = .free ∨ Owns ms requester j) : (roomMade ms requester).get j = .free := by
  exact (freeMonitor_eq_free_iff _ _ _ other).mpr ((ownFreed_eq_free_iff h j).mpr open_)

/-- The entry taken is the lowest that is free for a new monitor, where one is (R93 step 2). -/
theorem takenBy_of_open (h : OneEach ms) (some_ : ∃ j, ms.get j = .free ∨ Owns ms requester j) :
    (ms.get (takenBy ms requester) = .free ∨ Owns ms requester (takenBy ms requester))
      ∧ ∀ j, j < takenBy ms requester → ¬ (ms.get j = .free ∨ Owns ms requester j) := by
  obtain ⟨j, open_⟩ := some_
  obtain ⟨here, first⟩ := chooseMonitor_of_free ((ownFreed_eq_free_iff h j).mpr open_)
  exact ⟨(ownFreed_eq_free_iff h _).mp here,
    fun k below => (ownFreed_eq_free_iff h k).not.mp (first k below)⟩

/-- Where no entry is free for a new monitor, none becomes FREE before the choice (R93). -/
theorem ownFreed_of_full (full : ∀ j, ¬ (ms.get j = .free ∨ Owns ms requester j)) :
    ownFreed ms requester = ms := ownFreed_of_none fun j own => full j (.inr own)

/-! ## Settles O51 -/

/-- An account not in the table (R93). -/
theorem linkReadAccount_of_above {b : Byte} (above : 63 < b.toNat) (source : Byte) :
    linkReadAccount source [b] s = (s, .range, .nothing) := by
  simp only [linkReadAccount, operandAccount_of_above _ above]
  rfl

/-- The table after a LINK READ ACCOUNT (R93). -/
def monitorsRead (source : Byte) (a : Fin 64) (s : State) : Tab Monitor 4 :=
  if s.tbu.active.accountEnabled a then
    openMonitor s.dau.monitors source a (s.dau.accounts.get a).revision
  else s.dau.monitors

/-- A LINK READ ACCOUNT of an account (R93). -/
theorem linkReadAccount_eq (source : Byte) (a : Fin 64) (s : State) :
    linkReadAccount source [BitVec.ofNat 8 a.val] s
      = (s.setDau { s.dau with monitors := monitorsRead source a s }, .ok,
        .account (s.tbu.active.accounts.get a) (s.dau.accounts.get a)) := by
  simp only [linkReadAccount, operandAccount_eq (toNat_byte_account a), monitorsRead]
  cases enabled : s.tbu.active.accountEnabled a with
  | true =>
    have enabled' : (s.tbu.active.accounts.get a).isEnabled = true := enabled
    rw [if_pos enabled', if_pos rfl]
  | false =>
    have disabled : ¬ (s.tbu.active.accounts.get a).isEnabled = true := by
      rw [Bool.not_eq_true]; exact enabled
    rw [if_neg disabled, if_neg nofun]
    rfl

/-- Settles O51: the requester's own entry, the entry taken, and every other. -/
theorem linkReadOpensMonitor : Obligations.LinkReadOpensMonitor := by
  unfold Obligations.LinkReadOpensMonitor
  intro s o takes
  refine ⟨fun b above => ?_, fun a => ?_⟩
  · exact exec_request_of_refusal (k := .linkReadAccount) takes (Level.allows_observe _) rfl
      (linkReadAccount_of_above above o.source)
  obtain ⟨t, run, same, replies⟩ := exec_request_of_effect (k := .linkReadAccount) takes
    (Level.allows_observe _) rfl (linkReadAccount_eq o.source a (setCommission o.commission s))
  have monitors : t.dau.monitors = monitorsRead o.source a s := by rw [same]; rfl
  refine ⟨t, run, ?_, replies, fun disabled => ?_, fun enabled => ?_⟩
  · rw [monitors]; exact same
  · rw [monitors, monitorsRead, disabled]; rfl
  · rw [monitorsRead, enabled, if_pos rfl, openMonitor_eq_set] at monitors
    rw [monitors]
    refine ⟨takenBy s.dau.monitors o.source, heldMonitors (roomMade s.dau.monitors o.source) + 1,
      by rw [Tab.get_set_self], fun sound => ?_⟩
    have each : OneEach s.dau.monitors := sound.one_each
    have freed : (roomMade s.dau.monitors o.source).get (takenBy s.dau.monitors o.source) = .free :=
      freeMonitor_self _ _
    refine ⟨?_, fun j f other held => ?_, takenBy_of_open each, fun full lapsed => ?_,
      fun full none_lapsed => ?_, fun j other => ⟨fun open_ => ?_, fun foreign f => ?_⟩⟩
    · refine heldMonitors_of_freed (i := takenBy s.dau.monitors o.source) (by simp) freed
        fun j other => ?_
      rw [Tab.get_set_ne _ _ other]
    · rw [Tab.get_set_ne _ _ other] at held
      exact Nat.lt_succ_of_le ((sound.roomMade o.source).ranked j f held).2
    · obtain ⟨j, e, lapsed⟩ := lapsed
      rw [takenBy, ownFreed_of_full full]
      exact chooseMonitor_of_lapsed (fun j free => full j (.inl free)) lapsed
    · rw [takenBy, ownFreed_of_full full]
      exact chooseMonitor_of_open (fun j free => full j (.inl free)) none_lapsed
    · rw [Tab.get_set_ne _ _ other]
      exact roomMade_free each other open_
    · rw [Tab.get_set_ne _ _ other]
      refine ⟨fun here => ?_, fun here => ?_⟩
      · obtain ⟨gone, room, below⟩ := roomMade_kept each other foreign (f := f) (by rw [here]; rfl)
        rw [room, here, Monitor.closeRank]
        exact ⟨fun older => by rw [if_pos (below.mp older)],
          fun younger => by rw [if_neg (below.not.mp younger)]⟩
      · obtain ⟨gone, room, below⟩ := roomMade_kept each other foreign (f := f) (by rw [here]; rfl)
        rw [room, here, Monitor.closeRank]
        exact ⟨fun older => by rw [if_pos (below.mp older)],
          fun younger => by rw [if_neg (below.not.mp younger)]⟩

end Sys2Proof.Machine

/-! PROOFS. Accounts changed by requests and by TIME: the record, the marks, and what the ZCU is told
(R85 to R100). -/

namespace Sys2Proof.Machine

open Sys2Proof Host

variable {s u : State} {t : Tables} {a b : Fin 64} {r : AccountDyn}

/-! ## Marks (R100, R196) -/

/-- An account that is pending, or whose record is being written (R196). -/
structure Nvs.Marked (n : Nvs) (a : Fin 64) : Prop where
  intro ::
  owed : n.pendingAccounts.get a = true
    ∨ (∃ c, n.write = some (.record a c)) ∧ n.state ≠ .idle

/-- The store controller's choice loses no mark (R195). -/
theorem Nvs.Marked.serveStore (h : s.nvs.Marked a) : (serveStore s).nvs.Marked a := by
  obtain ⟨h⟩ := h
  rcases serveStore_cases s with same | ⟨idle, -, config⟩ | ⟨idle, -, b, -, record⟩
  · rw [same]; exact ⟨h⟩
  · rw [config]
    exact ⟨.inl (h.resolve_right fun busy => busy.2 idle)⟩
  · have pending := h.resolve_right fun busy => busy.2 idle
    rw [record]
    by_cases here : a = b
    · subst here
      exact ⟨.inr ⟨⟨_, rfl⟩, by simp⟩⟩
    · exact ⟨.inl (by simpa [Tab.get_set_ne _ _ here] using pending)⟩

/-- A mark made by a store that is not FAILED (R196). -/
theorem markAccount_marked (a : Fin 64) (working : s.nvs.state ≠ .failed) :
    (markAccount a s).nvs.Marked a := by
  rw [markAccount, if_neg working]
  exact Nvs.Marked.serveStore ⟨.inl (by simp)⟩

/-- A mark loses no other mark (R196). -/
theorem Nvs.Marked.markAccount (h : s.nvs.Marked a) (b : Fin 64) :
    (markAccount b s).nvs.Marked a := by
  unfold Machine.markAccount
  split
  · exact h
  · refine Nvs.Marked.serveStore ⟨?_⟩
    obtain ⟨h⟩ := h
    rcases h with pending | busy
    · left
      simp only [State.setNvs_nvs, Tab.get_set]
      split
      · rfl
      · exact pending
    · exact .inr busy

/-- What the statements say of a marked account (R196). -/
theorem Nvs.Marked.stated {n : Nvs} (h : n.Marked a) :
    n.pendingAccounts.get a = true ∨ ∃ c, n.write = some (.record a c) := by
  obtain ⟨h⟩ := h
  exact h.imp_right And.left

/-- An event's work that neither fails the store nor loses a mark. -/
structure KeepsMarks (s u : State) : Prop where
  working : s.nvs.state ≠ .failed → u.nvs.state ≠ .failed
  marked : ∀ a, s.nvs.Marked a → u.nvs.Marked a

theorem KeepsMarks.markAccount (b : Fin 64) (s : State) : KeepsMarks s (markAccount b s) :=
  ⟨(markAccount_work (t := s.tbu.active) b s).failed.not.mpr, fun _ h => h.markAccount b⟩

/-- Marks over a list, each in its turn (R100). -/
theorem foldl_marked {f : State → Fin 64 → State} (working : s.nvs.state ≠ .failed)
    (each : ∀ s a, KeepsMarks s (f s a)) (marks : ∀ s a, s.nvs.state ≠ .failed → (f s a).nvs.Marked a)
    (l : List (Fin 64)) : ∀ a ∈ l, (l.foldl f s).nvs.Marked a := by
  have later : ∀ (l : List (Fin 64)) (s : State) (a : Fin 64), s.nvs.Marked a →
      (l.foldl f s).nvs.Marked a := by
    intro l
    induction l with
    | nil => exact fun s a h => h
    | cons b l ih => exact fun s a h => ih _ a ((each s b).marked a h)
  induction l generalizing s with
  | nil => nofun
  | cons b l ih =>
    intro a mem
    rcases List.mem_cons.mp mem with rfl | mem
    · exact later l _ a (marks s a working)
    · exact ih ((each s b).working working) a mem

/-! ## An account changed whole (R86, R92) -/

/-- An account's record replaced with its entries lapsed, made known and marked (R86, R92). -/
def changedWhole (t : Tables) (a : Fin 64) (r : AccountDyn) (s : State) : State :=
  markAccount a (putAccount t true a r (s.setDau (s.dau.lapse a)))

theorem changedWhole_dau (t : Tables) (a : Fin 64) (r : AccountDyn) (s : State) :
    (changedWhole t a r s).dau = (s.dau.lapse a).setAccount a r := by
  simp [changedWhole]

/-- The account changed, and no other. -/
theorem changedWhole_accounts (t : Tables) (a : Fin 64) (r : AccountDyn) (s : State) :
    (changedWhole t a r s).dau.accounts.get a = r
      ∧ ∀ b, b ≠ a → (changedWhole t a r s).dau.accounts.get b = s.dau.accounts.get b := by
  rw [changedWhole_dau]
  exact ⟨by simp [Dau.setAccount], fun b other => by
    simp [Dau.setAccount, Dau.lapse, Tab.get_set_ne _ _ other]⟩

theorem changedWhole_marked (t : Tables) (a : Fin 64) (r : AccountDyn) (s : State)
    (working : s.nvs.state ≠ .failed) : (changedWhole t a r s).nvs.Marked a :=
  markAccount_marked a (by simpa using working)

theorem changedWhole_keepsMarks (t : Tables) (a : Fin 64) (r : AccountDyn) (s : State) :
    KeepsMarks s (changedWhole t a r s) := by
  obtain ⟨working, marked⟩ := KeepsMarks.markAccount a
    (putAccount t true a r (s.setDau (s.dau.lapse a)))
  have nvs : (putAccount t true a r (s.setDau (s.dau.lapse a))).nvs = s.nvs := by simp
  rw [nvs] at working marked
  exact ⟨working, marked⟩

/-- What the Zone Ceiling Unit is told of a changed account (R86). -/
theorem changedWhole_told (t : Tables) (a : Fin 64) (r : AccountDyn) (s : State) :
    (changedWhole t a r s).zcu = (tellZone t a (s.dau.accounts.get a).state
      (s.setDau ((s.dau.lapse a).setAccount a r))).zcu := by
  have was : (s.dau.lapse a).accounts.get a = s.dau.accounts.get a := rfl
  simp [changedWhole, putAccount, was, storeAccount]

/-- An account whose state stands moves no zone (R86). -/
theorem changedWhole_zcu_of_same (same : r.state = (s.dau.accounts.get a).state) (t : Tables) :
    (changedWhole t a r s).zcu = s.zcu := by
  rw [changedWhole_told, tellZone, if_pos (by simpa [Dau.setAccount] using same)]
  rfl

/-- An account of no zone moves none (R86). -/
theorem changedWhole_zcu_of_none (nowhere : (t.accounts.get a).zoneIndex = none) (r : AccountDyn)
    (s : State) : (changedWhole t a r s).zcu = s.zcu := by
  rw [changedWhole_told, tellZone]
  split
  · rfl
  · rw [nowhere]; rfl

/-- An account whose state changes has its zone's ceiling computed anew (R86). -/
theorem changedWhole_zcu_of_zone {z : Fin 16} (changed : r.state ≠ (s.dau.accounts.get a).state)
    (zone : (t.accounts.get a).zoneIndex = some z) :
    (changedWhole t a r s).zcu = s.zcu.setZone z (if t.zoneEnabled z then
        (s.zcu.zones.get z).computed t ((s.dau.lapse a).setAccount a r) z
      else s.zcu.zones.get z) := by
  rw [changedWhole_told, tellZone, if_neg (by simpa [Dau.setAccount] using changed), zone]
  exact recompute_zcu t z _

/-- What a changed account moves of the zones: its own zone's ceiling and reason at most (R86). -/
theorem changedWhole_zones (t : Tables) (a : Fin 64) (r : AccountDyn) (s : State) :
    (changedWhole t a r s).zcu.vacantSeen = s.zcu.vacantSeen
      ∧ (∀ z, (t.accounts.get a).zoneIndex ≠ some z →
        (changedWhole t a r s).zcu.zones.get z = s.zcu.zones.get z)
      ∧ ∀ z, (t.accounts.get a).zoneIndex = some z →
        (∃ ceiling reason, (changedWhole t a r s).zcu.zones.get z
          = { s.zcu.zones.get z with ceiling := ceiling, reason := reason })
        ∧ (r.state ≠ (s.dau.accounts.get a).state → t.zoneEnabled z = true →
          ((changedWhole t a r s).zcu.zones.get z).CeilingStands t
            (changedWhole t a r s).dau z) := by
  by_cases same : r.state = (s.dau.accounts.get a).state
  · rw [changedWhole_zcu_of_same same]
    exact ⟨rfl, fun _ _ => rfl, fun z _ => ⟨⟨_, _, rfl⟩, fun changed => absurd same changed⟩⟩
  · cases zone : (t.accounts.get a).zoneIndex with
    | none =>
      rw [changedWhole_zcu_of_none zone]
      exact ⟨rfl, fun _ _ => rfl, nofun⟩
    | some z =>
      rw [changedWhole_zcu_of_zone same zone]
      refine ⟨rfl, fun y other => ?_, fun y here => ?_⟩
      · have other' : y ≠ z := fun e => other (by rw [e])
        simp [Zcu.setZone, Tab.get_set_ne _ _ other']
      · obtain rfl := Option.some.inj here
        simp only [Zcu.setZone, Tab.get_set_self, changedWhole_dau]
        refine ⟨?_, fun _ enabled => ?_⟩
        · split
          · exact ⟨_, _, rfl⟩
          · exact ⟨_, _, rfl⟩
        · rw [if_pos enabled]
          exact ZoneDyn.computed_stands ..

/-- An account changed whole moves accounts, monitors, zones, marks and the building link alone. -/
theorem changedWhole_frame (t : Tables) (a : Fin 64) (r : AccountDyn) (s : State) :
    changedWhole t a r s = { s with
      dau := (changedWhole t a r s).dau, zcu := (changedWhole t a r s).zcu
      nvs := (changedWhole t a r s).nvs, bli := (changedWhole t a r s).bli } := by
  obtain ⟨pins, flc, tbu, cmu, cgu, mrh, xsu, store, schedule, pending⟩ :
      (changedWhole t a r s).pins = s.pins ∧ (changedWhole t a r s).flc = s.flc
        ∧ (changedWhole t a r s).tbu = s.tbu ∧ (changedWhole t a r s).cmu = s.cmu
        ∧ (changedWhole t a r s).cgu = s.cgu ∧ (changedWhole t a r s).mrh = s.mrh
        ∧ (changedWhole t a r s).xsu = s.xsu ∧ (changedWhole t a r s).store = s.store
        ∧ (changedWhole t a r s).schedule = s.schedule
        ∧ (changedWhole t a r s).pending = s.pending := by
    simp [changedWhole]
  generalize changedWhole t a r s = w at *
  rw [← pins, ← flc, ← tbu, ← cmu, ← cgu, ← mrh, ← xsu, ← store, ← schedule, ← pending]

/-! ## A grant (R94, R95) -/

/-- An account with its extension raised, evaluated (R85, R95). -/
def AccountDyn.granted (cfg : AccountRec) (amount : Nat) (r : AccountDyn) : AccountDyn :=
  AccountDyn.evaluate cfg { r.revised with extension := r.extension + amount }

theorem grantAccount_eq (a : Fin 64) (i : Fin 4) (amount : Nat) (s : State) :
    grantAccount a i amount s = changedWhole s.tbu.active a
      ((s.dau.accounts.get a).granted (s.tbu.active.accounts.get a) amount)
      (s.setDau { s.dau with monitors := freeMonitor s.dau.monitors i }) := rfl

/-- A grant to an account that is not SUSPENDED, field by field (R85, R95). -/
theorem AccountDyn.granted_eq {r : AccountDyn} (cfg : AccountRec) (amount : Nat)
    (running : r.state ≠ .suspended) :
    r.granted cfg amount = { r with
      extension := r.extension + amount
      revision := r.revision + 1#16
      state := if cfg.budgetLuxSeconds ≤ r.usedYear then .annualSpent
        else if (num cfg.allowance + (r.extension + amount)) * 3600 ≤ r.usedToday then .dailySpent
        else .open_ } := by
  rw [AccountDyn.granted, AccountDyn.evaluate_of_not_suspended _ (by simpa using running)]
  by_cases daily : (num cfg.allowance + (r.extension + amount)) * 3600 ≤ r.usedToday <;>
    simp [evaluated, effectiveAllowance, Config.luxSecondsPerLuxHour, AccountDyn.revised, daily]

/-- The monitors of a table whose entry `i` became FREE and whose entries on an account lapsed. -/
theorem lapsed_freeMonitor {ms : Tab Monitor 4} {i j : Fin 4} {e : MonitorEntry}
    (held : (ms.get i).entry? = some e) (other : j ≠ i) (a : Fin 64) :
    ((freeMonitor ms i).get j).lapse a = match ms.get j with
      | .free => .free
      | .open_ f =>
        if f.account = a then .lapsed (f.closedUp e.order) else .open_ (f.closedUp e.order)
      | .lapsed f => .lapsed (f.closedUp e.order) := by
  rw [freeMonitor_other held other, Monitor.closeRank_eq]
  cases ms.get j with
  | free => rfl
  | open_ f => simp only [Monitor.lapse, MonitorEntry.closedUp_account]
  | lapsed f => rfl

/-- A requester's entry on an account, as the request finds it (R94). -/
theorem monitorOn_eq {ms : Tab Monitor 4} {source : Byte} {i : Fin 4} {e : MonitorEntry}
    (held : (ms.get i).entry? = some e) (own : e.requester = source) (on : e.account = a)
    (only : ∀ j e', (ms.get j).entry? = some e' → e'.requester = source → j = i) :
    monitorOn ms source a = some i := by
  have found : monitorOf ms source = some i := by
    cases found : monitorOf ms source with
    | none => exact absurd own (monitorOf_eq_none_iff.mp found i e held)
    | some j =>
      obtain ⟨e', held', own'⟩ := monitorOf_eq_some found
      rw [only j e' held' own']
  simp [monitorOn, found, held, on]

theorem monitorOn_eq_none {ms : Tab Monitor 4} {source : Byte}
    (none_ : ∀ j e, (ms.get j).entry? = some e → ¬ (e.requester = source ∧ e.account = a)) :
    monitorOn ms source a = none := by
  unfold monitorOn
  cases found : monitorOf ms source with
  | none => rfl
  | some j =>
    obtain ⟨e, held, own⟩ := monitorOf_eq_some found
    have off : e.account ≠ a := fun on => none_ j e held ⟨own, on⟩
    simp [held, off]

/-- A GRANT EXTENSION of an account is judged where the amount is not 0 (R94). -/
theorem grantExtension_eq (source : Byte) {b : Byte} (account : b.toNat = a.val) {amount : Half}
    (some_ : amount ≠ 0#16) (s : State) :
    grantExtension source (b :: be16 amount) s = judgeGrant source a amount.toNat s := by
  have positive : amount.toNat ≠ 0 := fun zero => some_ (BitVec.eq_of_toNat_eq (by simpa using zero))
  simp only [grantExtension, operandAccount_eq account, operand16_be16, if_neg positive]

/-- A GRANT EXTENSION of no account, or of nothing (R94). -/
theorem grantExtension_of_range (source : Byte) {b : Byte} {amount : Half}
    (wrong : 63 < b.toNat ∨ amount = 0#16) (s : State) :
    grantExtension source (b :: be16 amount) s = (s, .range, .nothing) := by
  unfold grantExtension
  split
  · rfl
  · next a account =>
    have zero : amount = 0#16 := by
      refine wrong.resolve_left fun above => ?_
      rw [operandAccount_of_above _ above] at account; cases account
    simp only [operand16_be16, zero]
    rfl

section
variable {source : Byte} {amount : Nat}

theorem judgeGrant_of_disabled (disabled : s.tbu.active.accountEnabled a = false) :
    judgeGrant source a amount s = (s, .notEnabled, .nothing) := by
  have disabled' : (s.tbu.active.accounts.get a).isEnabled = false := disabled
  simp [judgeGrant, disabled', refuse]

theorem judgeGrant_of_suspended (enabled : s.tbu.active.accountEnabled a = true)
    (suspended : (s.dau.accounts.get a).state = .suspended) :
    judgeGrant source a amount s = (s, .suspended, .nothing) := by
  have enabled' : (s.tbu.active.accounts.get a).isEnabled = true := enabled
  simp [judgeGrant, enabled', suspended, refuse]

/-- A grant on an enabled account that is not SUSPENDED, by the requester's entry (R94). -/
theorem judgeGrant_eq (enabled : s.tbu.active.accountEnabled a = true)
    (running : (s.dau.accounts.get a).state ≠ .suspended) :
    judgeGrant source a amount s
      = match monitorOn s.dau.monitors source a with
        | none => (s, .noLink, .nothing)
        | some i =>
          if (s.dau.monitors.get i).isLapsed then freeAndRefuse i .linkLost s
          else if num (s.tbu.active.accounts.get a).allowance
              < (s.dau.accounts.get a).extension + amount then freeAndRefuse i .range s
          else
            let u := grantAccount a i amount s
            (u, .ok, .grant (u.dau.accounts.get a).extension (u.dau.accounts.get a).revision
              (u.dau.accounts.get a).state) := by
  have enabled' : (s.tbu.active.accounts.get a).isEnabled = true := enabled
  simp only [judgeGrant, enabled', running]
  rfl

end

end Sys2Proof.Machine

/-! PROOFS. GRANT EXTENSION, SUSPEND, RESUME and SEED ACCOUNT (R94, R95, R97 to R99). -/

namespace Sys2Proof.Machine

open Sys2Proof Host

variable {s : State} {o : Origin} {a : Fin 64} {amount : Half}

/-! ## States that differ in the building link and the schedule alone -/

/-- The blocks of a state that is another's but for the building link and the schedule. -/
theorem State.blocks_of_link {t u : State}
    (same : t = { u with bli := t.bli, schedule := t.schedule }) :
    t.dau = u.dau ∧ t.zcu = u.zcu ∧ t.nvs = u.nvs ∧ t.tbu = u.tbu ∧ t.flc = u.flc := by
  rw [same]
  exact ⟨rfl, rfl, rfl, rfl, rfl⟩

/-! ## Settles O52 -/

section
variable {b : Byte} {i : Fin 4} {e : MonitorEntry}

/-- A grant refused with no effect, at the end of its event (R94). -/
theorem exec_grant_of_refused (takes : s.TakesAtOnce)
    (level : (s.levelOf o).allows .operate = true) {status : Status}
    (refused : grantExtension o.source (b :: be16 amount) (setCommission o.commission s)
      = (setCommission o.commission s, status, .nothing)) :
    ∃ t, exec (.grantExtension o (b :: be16 amount)) s = .next t
      ∧ t = { s with pins := s.pinsOf o, bli := t.bli, schedule := t.schedule }
      ∧ t.Replies o.source .grantExtension status .nothing :=
  exec_request_of_refusal (k := .grantExtension) takes level rfl refused

/-- A grant refused with the requester's monitor freed, at the end of its event (R80, R94). -/
theorem exec_grant_of_freed (takes : s.TakesAtOnce)
    (level : (s.levelOf o).allows .operate = true) {status : Status}
    (effect : grantExtension o.source (b :: be16 amount) (setCommission o.commission s)
      = freeAndRefuse i status (setCommission o.commission s)) :
    ∃ t, exec (.grantExtension o (b :: be16 amount)) s = .next t
      ∧ t = { s with
          pins := s.pinsOf o, dau := { s.dau with monitors := t.dau.monitors }, bli := t.bli,
          schedule := t.schedule }
      ∧ t.dau.monitors.get i = .free
      ∧ (∀ e, (s.dau.monitors.get i).entry? = some e → ∀ j, j ≠ i →
        t.dau.monitors.get j = match s.dau.monitors.get j with
          | .free => .free
          | .open_ f => .open_ (f.closedUp e.order)
          | .lapsed f => .lapsed (f.closedUp e.order))
      ∧ t.Replies o.source .grantExtension status .nothing := by
  obtain ⟨t, run, same, replies⟩ :=
    exec_request_of_effect (k := .grantExtension) takes level rfl effect
  have monitors : t.dau.monitors = freeMonitor s.dau.monitors i := by rw [same]; rfl
  refine ⟨t, run, ?_, ?_, fun e held j other => ?_, replies⟩
  · rw [monitors]; exact same
  · rw [monitors, freeMonitor_self]
  · refine (congrArg (·.get j) monitors).trans
      ((freeMonitor_other held other).trans ((Monitor.closeRank_eq _ _).trans ?_))
    cases s.dau.monitors.get j <;> rfl

/-- What a grant that is taken gives back (R95). -/
def judgedGrant (a : Fin 64) (u : State) : Handled :=
  let r := u.dau.accounts.get a
  (u, .ok, .grant r.extension r.revision r.state)

/-- A grant taken, at the end of its event (R85, R86, R92, R95). -/
theorem exec_grant_of_taken (takes : s.TakesAtOnce)
    (level : (s.levelOf o).allows .operate = true)
    (held : (s.dau.monitors.get i).entry? = some e)
    (effect : grantExtension o.source (b :: be16 amount) (setCommission o.commission s)
      = judgedGrant a (grantAccount a i amount.toNat (setCommission o.commission s)))
    {r' : AccountDyn}
    (record : (s.dau.accounts.get a).granted (s.tbu.active.accounts.get a) amount.toNat = r') :
    ∃ t, exec (.grantExtension o (b :: be16 amount)) s = .next t
      ∧ t = { s with
          pins := s.pinsOf o, dau := t.dau, zcu := t.zcu, nvs := t.nvs, bli := t.bli,
          schedule := t.schedule }
      ∧ t.dau = { s.dau with accounts := t.dau.accounts, monitors := t.dau.monitors }
      ∧ t.dau.accounts.get a = r'
      ∧ (∀ b, b ≠ a → t.dau.accounts.get b = s.dau.accounts.get b)
      ∧ t.dau.monitors.get i = .free
      ∧ (∀ j, j ≠ i → t.dau.monitors.get j = match s.dau.monitors.get j with
        | .free => .free
        | .open_ f =>
          if f.account = a then .lapsed (f.closedUp e.order)
          else .open_ (f.closedUp e.order)
        | .lapsed f => .lapsed (f.closedUp e.order))
      ∧ (r'.state = (s.dau.accounts.get a).state → t.zcu = s.zcu)
      ∧ t.zcu.vacantSeen = s.zcu.vacantSeen
      ∧ (∀ z, (s.tbu.active.accounts.get a).zoneIndex ≠ some z →
          t.zcu.zones.get z = s.zcu.zones.get z)
      ∧ (∀ z, (s.tbu.active.accounts.get a).zoneIndex = some z →
        (∃ ceiling reason, t.zcu.zones.get z
          = { s.zcu.zones.get z with ceiling := ceiling, reason := reason })
        ∧ (r'.state ≠ (s.dau.accounts.get a).state → s.tbu.active.zoneEnabled z = true →
          (t.zcu.zones.get z).CeilingStands s.tbu.active t.dau z))
      ∧ (s.nvs.state ≠ .failed → t.nvs.pendingAccounts.get a = true
        ∨ ∃ c, t.nvs.write = some (.record a c))
      ∧ t.Replies o.source .grantExtension .ok (.grant r'.extension r'.revision r'.state) := by
  let s1 := (setCommission o.commission s).setDau { s.dau with
    monitors := freeMonitor s.dau.monitors i }
  have granted : grantAccount a i amount.toNat (setCommission o.commission s)
      = changedWhole s.tbu.active a r' s1 := by
    rw [← record]; exact grantAccount_eq ..
  obtain ⟨account, others⟩ := changedWhole_accounts s.tbu.active a r' s1
  rw [granted, judgedGrant, account] at effect
  obtain ⟨t, run, same, replies⟩ := exec_request_of_effect (k := .grantExtension) takes level rfl
    (u := changedWhole s.tbu.active a r' s1) (status := .ok)
    (c := .grant r'.extension r'.revision r'.state) effect
  obtain ⟨flags, elsewhere, zone⟩ := changedWhole_zones s.tbu.active a r' s1
  have changed := changedWhole_dau s.tbu.active a r' s1
  have frame := changedWhole_frame s.tbu.active a r' s1
  have stands (h : r'.state = (s.dau.accounts.get a).state) :=
    changedWhole_zcu_of_same (s := s1) h s.tbu.active
  have marked := changedWhole_marked s.tbu.active a r' s1
  generalize changedWhole s.tbu.active a r' s1 = w at *
  obtain ⟨dau, zcu, nvs, -, -⟩ := State.blocks_of_link same
  have monitors : ∀ j, t.dau.monitors.get j = ((freeMonitor s.dau.monitors i).get j).lapse a := by
    intro j
    rw [dau, changed]
    simp [Dau.setAccount, Dau.lapse, s1]
  refine ⟨t, run, ?_, ?_, ?_, ?_, ?_, fun j other => ?_, fun h => ?_, ?_, ?_, ?_, fun working => ?_,
    replies⟩
  · rw [frame, ← dau, ← zcu, ← nvs] at same
    exact same
  · rw [dau, changed]; rfl
  · rw [dau]; exact account
  · rw [dau]; exact others
  · rw [monitors, freeMonitor_self]; rfl
  · refine (monitors j).trans ((lapsed_freeMonitor held other a).trans ?_)
    cases s.dau.monitors.get j <;> rfl
  · rw [zcu]; exact stands h
  · rw [zcu]; exact flags
  · rw [zcu]; exact elsewhere
  · rw [zcu, dau]; exact zone
  · rw [nvs]
    exact (marked working).stated

end

/-- Settles O52, row by row of R94. -/
theorem grantNeedsItsOwnOpenMonitor : Obligations.GrantNeedsItsOwnOpenMonitor := by
  unfold Obligations.GrantNeedsItsOwnOpenMonitor
  intro s o a amount takes level grant refused freed
  have byte := toNat_byte_account a
  refine ⟨fun zero => ?_, fun b above => ?_, fun some_ => ⟨fun disabled => ?_,
    fun enabled suspended => ?_, fun enabled running => ⟨fun none_ => ?_, ?_⟩⟩⟩
  · exact exec_grant_of_refused takes level (grantExtension_of_range _ (.inr zero) _)
  · exact exec_grant_of_refused takes level (grantExtension_of_range _ (.inl above) _)
  · exact exec_grant_of_refused takes level ((grantExtension_eq _ byte some_ _).trans
      (judgeGrant_of_disabled (s := setCommission o.commission s) disabled))
  · exact exec_grant_of_refused takes level ((grantExtension_eq _ byte some_ _).trans
      (judgeGrant_of_suspended (s := setCommission o.commission s) enabled suspended))
  · refine exec_grant_of_refused takes level ((grantExtension_eq _ byte some_ _).trans ?_)
    rw [judgeGrant_eq (s := setCommission o.commission s) enabled running]
    have none_' : monitorOn (setCommission o.commission s).dau.monitors o.source a = none :=
      monitorOn_eq_none none_
    simp only [none_']
  · intro i e own on only
    have judged (held : (s.dau.monitors.get i).entry? = some e) :=
      (grantExtension_eq o.source byte some_ (setCommission o.commission s)).trans
        (judgeGrant_eq (s := setCommission o.commission s) enabled running)
    have found (held : (s.dau.monitors.get i).entry? = some e) :
        monitorOn (setCommission o.commission s).dau.monitors o.source a = some i :=
      monitorOn_eq held own on only
    refine ⟨fun lapsed => ?_, fun open_ above => ?_, fun open_ inside => ?_⟩
    · have held : (s.dau.monitors.get i).entry? = some e := by rw [lapsed]; rfl
      refine exec_grant_of_freed takes level ((judged held).trans ?_)
      have lapsed' : ((setCommission o.commission s).dau.monitors.get i).isLapsed = true := by
        rw [show (setCommission o.commission s).dau.monitors.get i = _ from lapsed]; rfl
      simp only [found held, lapsed', if_true]
    · have held : (s.dau.monitors.get i).entry? = some e := by rw [open_]; rfl
      refine exec_grant_of_freed takes level ((judged held).trans ?_)
      have open' : ((setCommission o.commission s).dau.monitors.get i).isLapsed = false := by
        rw [show (setCommission o.commission s).dau.monitors.get i = _ from open_]; rfl
      simp only [found held, open', Bool.false_eq_true, if_false]
      exact if_pos above
    · have held : (s.dau.monitors.get i).entry? = some e := by rw [open_]; rfl
      have open' : ((setCommission o.commission s).dau.monitors.get i).isLapsed = false := by
        rw [show (setCommission o.commission s).dau.monitors.get i = _ from open_]; rfl
      refine exec_grant_of_taken takes level held ((judged held).trans ?_)
        (AccountDyn.granted_eq _ _ running)
      simp only [found held, open', Bool.false_eq_true, if_false]
      exact if_neg (not_lt.mpr inside)

/-! ## Settles O53 -/

/-- An account changed by a request of its own, at the end of its event (R92). -/
theorem exec_changeAccount (takes : s.TakesAtOnce) {k : ReqKind} {fields : List Byte}
    (level : (s.levelOf o).allows (k.needs fields) = true) (shape : k.shapeOk fields = true)
    {r : AccountDyn} (effect : requestEffect k o.source fields (setCommission o.commission s)
      = (changeAccount a r (setCommission o.commission s), .ok, .nothing)) :
    ∃ t, exec (k.toInstr o fields) s = .next t
      ∧ t.dau.accounts.get a = r.revised
      ∧ (∀ b, b ≠ a → t.dau.accounts.get b = s.dau.accounts.get b)
      ∧ t.dau.ledger = s.dau.ledger ∧ t.tbu = s.tbu ∧ t.flc = s.flc
      ∧ t.Replies o.source k .ok .nothing := by
  obtain ⟨t, run, same, replies⟩ := exec_request_of_effect takes level shape effect
  let s1 := setCommission o.commission s
  have whole : changeAccount a r s1 = changedWhole s.tbu.active a r.revised s1 := rfl
  rw [whole] at same
  obtain ⟨account, others⟩ := changedWhole_accounts s.tbu.active a r.revised s1
  have changed := changedWhole_dau s.tbu.active a r.revised s1
  have frame := changedWhole_frame s.tbu.active a r.revised s1
  generalize changedWhole s.tbu.active a r.revised s1 = w at *
  obtain ⟨dau, -, -, tbu, flc⟩ := State.blocks_of_link same
  refine ⟨t, run, ?_, ?_, ?_, ?_, ?_, replies⟩
  · rw [dau]; exact account
  · rw [dau]; exact others
  · rw [dau, changed]; rfl
  · rw [tbu, frame]; rfl
  · rw [flc, frame]; rfl

/-- A request on an enabled account (R97 to R99). -/
theorem onAccount_of_enabled {b : Byte} {rest : List Byte} (account : b.toNat = a.val)
    (enabled : s.tbu.active.accountEnabled a = true) (effect : Fin 64 → Handled) :
    onAccount (b :: rest) s effect = effect a := by
  simp only [onAccount, operandAccount_eq account, enabled, if_true]

/-- A four-byte field behind a first byte (R205). -/
theorem operandOf_be16_be16 (b : Byte) (hi lo : Half) :
    operandOf (b :: (be16 hi ++ be16 lo)) 1 4 = (hi ++ lo).toNat := by
  rw [BitVec.toNat_append, Nat.shiftLeft_eq, ← Nat.shiftLeft_eq,
    ← Nat.shiftLeft_add_eq_or_of_lt lo.isLt, Nat.shiftLeft_eq]
  simp [operandOf, ofBytes, be16, Nat.shiftRight_eq_div_pow]
  omega

/-- What a SUSPENDED account's counts give, raised by one revision (R85, R98). -/
theorem resumed_eq (cfg : AccountRec) (r : AccountDyn) :
    ({ r with state := evaluated cfg r } : AccountDyn).revised = { r with
      state :=
        if cfg.budgetLuxSeconds ≤ r.usedYear then .annualSpent
        else if (num cfg.allowance + r.extension) * 3600 ≤ r.usedToday then .dailySpent
        else .open_
      revision := r.revision + 1#16 } := by
  by_cases daily : (num cfg.allowance + r.extension) * 3600 ≤ r.usedToday <;>
    simp [evaluated, effectiveAllowance, Config.luxSecondsPerLuxHour, AccountDyn.revised, daily]

/-- Settles O53. -/
theorem accountsAreSuspendedResumedSeeded : Obligations.AccountsAreSuspendedResumedSeeded := by
  unfold Obligations.AccountsAreSuspendedResumedSeeded
  intro s o a takes level enabled r
  let s1 := setCommission o.commission s
  have byte := toNat_byte_account a
  have enabled' : s1.tbu.active.accountEnabled a = true := enabled
  refine ⟨fun running => ?_, fun suspended => ?_, fun hi lo covers => ?_⟩
  · have effect : requestEffect .suspendAccount o.source [BitVec.ofNat 8 a.val] s1
        = (changeAccount a { r with state := .suspended } s1, .ok, .nothing) := by
      refine (onAccount_of_enabled byte enabled' _).trans ?_
      simp only [suspend]
      rw [if_neg (show ¬ (s1.dau.accounts.get a).state = .suspended from running)]
      rfl
    exact exec_changeAccount takes level rfl effect
  · have effect : requestEffect .resumeAccount o.source [BitVec.ofNat 8 a.val] s1
        = (changeAccount a { r with state := evaluated (s.tbu.active.accounts.get a) r } s1, .ok,
          .nothing) := by
      refine (onAccount_of_enabled byte enabled' _).trans ?_
      simp only [resume]
      rw [if_pos (show (s1.dau.accounts.get a).state = .suspended from suspended)]
      rfl
    obtain ⟨t, run, account, rest⟩ := exec_changeAccount takes level rfl effect
    exact ⟨t, run, account.trans (resumed_eq _ r), rest⟩
  · have effect : requestEffect .seedAccount o.source
          (BitVec.ofNat 8 a.val :: (be16 hi ++ be16 lo)) s1
        = (changeAccount a (AccountDyn.evaluate (s.tbu.active.accounts.get a)
            { r with usedYear := (hi ++ lo).toNat * 3600, restoreFailed := false }) s1, .ok,
          .nothing) := by
      refine (onAccount_of_enabled byte enabled' _).trans ?_
      simp only [operandOf_be16_be16, Config.luxSecondsPerLuxHour]
      rw [if_neg (show ¬ (hi ++ lo).toNat * 3600 < (s1.dau.accounts.get a).usedToday from
        not_lt.mpr covers)]
      rfl
    obtain ⟨t, run, account, rest⟩ := exec_changeAccount takes level rfl effect
    refine ⟨t, run, ?_, ?_, ?_, ?_, ?_, fun suspended => ?_, rest⟩ <;> rw [account]
    · simp
    · simp
    · simp
    · simp
    · simp
    · rw [AccountDyn.evaluate_of_suspended _ (by exact suspended)]
      exact suspended

end Sys2Proof.Machine

/-! PROOFS. TIME: the ledger date, the rollover and the date watch (R87 to R91). -/

namespace Sys2Proof.Machine

open Sys2Proof Host

variable {s : State} {o : Origin} {a : Fin 64} {t : Tables} {annual : Bool}

/-! ## A rollover (R88, R89) -/

theorem rollAccount_eq (t : Tables) (annual : Bool) (a : Fin 64) (s : State) :
    rollAccount t annual a s = changedWhole t a
      ((s.dau.accounts.get a).rolled (t.accounts.get a) annual) s := rfl

/-- A rolled account: its day and its extension at 0, its year too where asked (R88, R89). -/
theorem AccountDyn.rolled_keeps (cfg : AccountRec) (annual : Bool) (r : AccountDyn) :
    (r.rolled cfg annual).usedToday = 0 ∧ (r.rolled cfg annual).extension = 0
      ∧ (r.rolled cfg annual).usedYear = (if annual then 0 else r.usedYear)
      ∧ (r.rolled cfg annual).revision = r.revision + 1#16 := by
  simp [AccountDyn.rolled]

/-- A rollover of a list of accounts, each once (R88). -/
theorem rollFold_accounts (t : Tables) (annual : Bool) {l : List (Fin 64)} (nodup : l.Nodup)
    (s : State) :
    let u := l.foldl (fun s a => rollAccount t annual a s) s
    (∀ a, u.dau.accounts.get a = if a ∈ l then
        (s.dau.accounts.get a).rolled (t.accounts.get a) annual else s.dau.accounts.get a)
      ∧ u.dau.ledger = s.dau.ledger := by
  induction l generalizing s with
  | nil => simp
  | cons b l ih =>
    obtain ⟨notMem, nodup'⟩ := List.nodup_cons.mp nodup
    obtain ⟨each, ledger⟩ := ih nodup' (rollAccount t annual b s)
    obtain ⟨here, others⟩ := changedWhole_accounts t b
      ((s.dau.accounts.get b).rolled (t.accounts.get b) annual) s
    have dau := changedWhole_dau t b ((s.dau.accounts.get b).rolled (t.accounts.get b) annual) s
    refine ⟨fun a => ?_, ?_⟩
    · rw [List.foldl_cons, each a, rollAccount_eq]
      by_cases same : a = b
      · subst same
        rw [if_neg notMem, if_pos List.mem_cons_self, here]
      · rw [others a same]
        simp [same]
    · rw [List.foldl_cons, ledger, rollAccount_eq, dau]
      rfl

/-- The accounts are listed once each. -/
theorem Tables.enabledAccounts_nodup (t : Tables) : t.enabledAccounts.Nodup :=
  Tab.indices_nodup _ _

/-- A rollover: every enabled account rolled, no other changed, the ledger date set (R88, R89). -/
theorem rollover_accounts (d : Date) (annual : Bool) (s : State) :
    (∀ a, (rollover d annual s).dau.accounts.get a = if s.tbu.active.accountEnabled a then
        (s.dau.accounts.get a).rolled (s.tbu.active.accounts.get a) annual
      else s.dau.accounts.get a)
      ∧ (rollover d annual s).dau.ledger = some d := by
  obtain ⟨each, ledger⟩ := rollFold_accounts s.tbu.active annual
    s.tbu.active.enabledAccounts_nodup (s.setDau { s.dau with ledger := some d })
  refine ⟨fun a => (each a).trans ?_, ledger⟩
  simp only [Tables.mem_enabledAccounts]
  rfl

/-- A rollover leaves every enabled account marked (R88, R100). -/
theorem rollover_marked (d : Date) (annual : Bool) (working : s.nvs.state ≠ .failed)
    (enabled : s.tbu.active.accountEnabled a = true) : (rollover d annual s).nvs.Marked a :=
  foldl_marked (s := s.setDau { s.dau with ledger := some d }) working
    (fun s b => changedWhole_keepsMarks _ b _ s)
    (fun s b working => changedWhole_marked _ b _ s working) _ a
    ((Tables.mem_enabledAccounts _ a).mpr enabled)

/-! ## A TIME date by its row (R87) -/

/-- A date adopted while there is none (R87). -/
theorem takeDate_of_none (d : Date) (none_ : s.dau.ledger = none) :
    takeDate d s = markAccounts s.tbu.active.enabledAccounts
      (acceptTime (s.setDau { s.dau with ledger := some d })) := by
  simp [takeDate, none_]

/-- The ledger date again (R87). -/
theorem takeDate_of_same {d : Date} (same : s.dau.ledger = some d) :
    takeDate d s = acceptTime s := by
  simp [takeDate, same]

/-- A later date (R87). -/
theorem takeDate_of_later {d l : Date} (ledger : s.dau.ledger = some l)
    (later : l.year < d.year ∨ (l.year = d.year ∧ l.day < d.day)) :
    takeDate d s = acceptTime (rollover d (l.year < d.year) s) := by
  have other : d ≠ l := fun same => by rw [same] at later; omega
  have later' : d.later l = true := (Date.later_iff d l).mpr (by omega)
  simp [takeDate, ledger, other, later']

/-- An earlier date (R87). -/
theorem takeDate_of_earlier {d l : Date} (ledger : s.dau.ledger = some l)
    (earlier : d.year < l.year ∨ (l.year = d.year ∧ d.day < l.day)) :
    takeDate d s = post (.clock .regress) s := by
  have other : d ≠ l := fun same => by rw [same] at earlier; omega
  have earlier' : d.later l = false := by
    rw [Bool.eq_false_iff, ne_eq, Date.later_iff]; omega
  simp [takeDate, ledger, other, earlier']

/-- Marks move the store controller alone (R100). -/
theorem markAccounts_dau (as : List (Fin 64)) (s : State) : (markAccounts as s).dau = s.dau := by
  simp

/-! ## The outcome of a TIME (R87, R176) -/

/-- A TIME that is taken at once is judged and done, and the event ended; it is not answered. -/
theorem exec_time (takes : s.TakesAtOnce) (body : List Byte) :
    exec (.time o body) s
      = .next (finish (takeTime o.source body (setCommission o.commission s))) := by
  rw [Laws.exec_arrival s (i := .time o body) rfl, messageArrives_of_takesAtOnce takes]
  rfl

/-- The date of a body is read where it is in range (R204). -/
theorem timeDate_be16 (year day : Half) :
    timeDate (be16 year ++ be16 day)
      = if (Date.mk year.toNat day.toNat).inRange then some ⟨year.toNat, day.toNat⟩ else none := by
  simp [timeDate, be16]

theorem Date.inRange_iff (d : Date) :
    d.inRange = true ↔ 2000 ≤ d.year ∧ d.year ≤ 2099 ∧ 1 ≤ d.day ∧ d.day ≤ 366 := by
  simp [Date.inRange, and_assoc]

/-- No date is read from another length, or where it is out of range (R87, R204). -/
theorem timeDate_eq_none {body : List Byte}
    (wrong : body.length ≠ 4 ∨ ∃ year day : Half, body = be16 year ++ be16 day
      ∧ (year.toNat < 2000 ∨ 2099 < year.toNat ∨ day.toNat < 1 ∨ 366 < day.toNat)) :
    timeDate body = none := by
  rcases wrong with length | ⟨year, day, rfl, outside⟩
  · unfold timeDate
    split
    · exact absurd rfl length
    · rfl
  · rw [timeDate_be16, if_neg]
    rw [Date.inRange_iff]
    dsimp only
    omega

/-- A TIME that is allowed and in range is taken (R87). -/
theorem takeTime_of_date {year day : Half} (level : (s.levelOf o).allows .operate = true)
    (inRange : (Date.mk year.toNat day.toNat).inRange = true) :
    takeTime o.source (be16 year ++ be16 day) (setCommission o.commission s)
      = takeDate ⟨year.toNat, day.toNat⟩ (setCommission o.commission s) := by
  rw [← level_setCommission] at level
  simp [takeTime, level, timeDate_be16, inRange]

/-- A TIME that is allowed and carries no date is discarded (R87). -/
theorem takeTime_of_none {body : List Byte} (level : (s.levelOf o).allows .operate = true)
    (none_ : timeDate body = none) :
    takeTime o.source body (setCommission o.commission s) = setCommission o.commission s := by
  rw [← level_setCommission] at level
  simp [takeTime, level, none_]

/-- A TIME below OPERATE is recorded (R176, R177). -/
theorem takeTime_of_denied {body : List Byte} (level : (s.levelOf o).allows .operate = false) :
    takeTime o.source body (setCommission o.commission s)
      = deny o.source .time none (setCommission o.commission s) := by
  rw [← level_setCommission] at level
  simp [takeTime, level]

/-- A TIME below OPERATE, at the end of its event (R176, R177). -/
theorem exec_time_denied (takes : s.TakesAtOnce) (body : List Byte)
    (level : (s.levelOf o).allows .operate = false) :
    ∃ t, exec (.time o body) s = .next t
      ∧ t = { s with pins := s.pinsOf o, mrh := t.mrh, bli := t.bli, schedule := s.schedule.tail }
      ∧ t.mrh = { s.mrh with fault := match s.mrh.fault with
          | none => some ⟨o.source, .time, none, false⟩
          | some f => some { f with further := true } }
      ∧ t.bli.replySlot = none
      ∧ (Notice.accessFault.enabledBy s.tbu.active.bus.mask = true →
        keyedCount s.bli.board < 63 → t.Announces .accessFault) := by
  let s1 := setCommission o.commission s
  have run : exec (.time o body) s = .next (finish (deny o.source .time none s1)) := by
    rw [exec_time takes, takeTime_of_denied level]
  have mrh : (finish (deny o.source .time none s1)).mrh
      = { s.mrh with fault := recordDenial o.source .time none s.mrh.fault } := rfl
  have unanswered : (finish (deny o.source .time none s1)).bli.replySlot = none :=
    Bli.arbitrate_replySlot
      ((deny_work (t := s.tbu.active) o.source .time none s1).unanswered takes.2.2.2)
  refine ⟨_, run, rfl, ?_, unanswered, fun enabled room => ?_⟩
  · rw [mrh]
    cases s.mrh.fault <;> rfl
  · exact (post_announces (s := s1.setMrh { s.mrh with
      fault := recordDenial o.source .time none s.mrh.fault }) enabled nofun room).finish

/-- What a TIME date taken leaves, at the end of its event (R87). -/
theorem exec_time_taken (takes : s.TakesAtOnce) {year day : Half}
    (level : (s.levelOf o).allows .operate = true)
    (inRange : (Date.mk year.toNat day.toNat).inRange = true) :
    ∃ w t, w = takeDate ⟨year.toNat, day.toNat⟩ (setCommission o.commission s)
      ∧ exec (.time o (be16 year ++ be16 day)) s = .next t
      ∧ t.bli.replySlot = none ∧ t.flc = s.flc ∧ t.tbu = s.tbu ∧ t.cmu = s.cmu ∧ t.cgu = s.cgu
      ∧ t.mrh = s.mrh ∧ t.dau = w.dau ∧ t.nvs = w.nvs ∧ t.zcu = w.zcu
      ∧ ∀ n, w.Announces n → t.Announces n := by
  let s1 := setCommission o.commission s
  have run : exec (.time o (be16 year ++ be16 day)) s
      = .next (finish (takeDate ⟨year.toNat, day.toNat⟩ s1)) := by
    rw [exec_time takes, takeTime_of_date level inRange]
  have unanswered :=
    (takeDate_work (t := s.tbu.active) ⟨year.toNat, day.toNat⟩ s1 rfl).unanswered takes.2.2.2
  obtain ⟨-, flc, tbu, cmu, cgu, mrh, -, -, -, -⟩ := takeDate_frame ⟨year.toNat, day.toNat⟩ s1
  generalize takeDate ⟨year.toNat, day.toNat⟩ s1 = w at *
  exact ⟨w, finish w, rfl, run, Bli.arbitrate_replySlot unanswered, flc, tbu, cmu, cgu, mrh, rfl,
    rfl, rfl, fun n h => h.finish⟩

/-- Settles O54, by the row of R87. -/
theorem timeMovesTheLedger : Obligations.TimeMovesTheLedger := by
  unfold Obligations.TimeMovesTheLedger
  intro s o takes marked posts
  let s1 := setCommission o.commission s
  refine ⟨fun body level => ?_, fun body level wrong => ?_, fun year day level => ?_⟩
  · exact exec_time_denied takes body level
  · rw [exec_time takes, takeTime_of_none level (timeDate_eq_none wrong)]
    rfl
  · intro y1 y2 d1 d2 d
    have inRange : (Date.mk year.toNat day.toNat).inRange = true :=
      (Date.inRange_iff _).mpr ⟨y1, y2, d1, d2⟩
    obtain ⟨w, t, taken, run, slot, flc, tbu, cmu, cgu, mrh, dau, nvs, zcu, announces⟩ :=
      exec_time_taken takes level inRange
    refine ⟨t, run, slot, flc, tbu, cmu, cgu, mrh, fun either => ?_, fun none_ working a enabled => ?_,
      fun l ledger later => ?_, fun l ledger earlier => ?_⟩
    · rw [dau, taken]
      rcases either with none_ | same
      · rw [takeDate_of_none (s := s1) _ none_, markAccounts_dau]
        rfl
      · rw [takeDate_of_same (s := s1) same]
        change { s.dau with dateWatch := 0, dateStale := false } = _
        rw [← same]
    · rw [nvs, taken, takeDate_of_none (s := s1) _ none_]
      exact (foldl_marked (s := acceptTime (s1.setDau { s1.dau with ledger := some d })) working
        (fun s b => .markAccount b s) (fun s b working => markAccount_marked b working) _ a
        ((Tables.mem_enabledAccounts _ a).mpr enabled)).stated
    · rw [takeDate_of_later (s := s1) ledger later] at taken
      obtain ⟨each, date⟩ := rollover_accounts d (l.year < d.year) s1
      have accounts : ∀ a, t.dau.accounts.get a
          = (rollover d (l.year < d.year) s1).dau.accounts.get a := fun a => by
        rw [dau, taken]; rfl
      refine ⟨?_, ?_, ?_, fun working a enabled => ?_, fun a => ⟨fun enabled => ?_,
        fun disabled => ?_⟩⟩
      · rw [dau, taken]; exact date
      · rw [dau, taken]; rfl
      · rw [dau, taken]; rfl
      · rw [nvs, taken]
        exact (rollover_marked (s := s1) d _ working enabled).stated
      · obtain ⟨today, extension, yearly, revision⟩ := AccountDyn.rolled_keeps
          (s1.tbu.active.accounts.get a) (l.year < d.year) (s1.dau.accounts.get a)
        rw [accounts, each, if_pos (show s1.tbu.active.accountEnabled a = true from enabled)]
        exact ⟨today, extension, by simpa [s1] using yearly, revision⟩
      · rw [accounts, each, if_neg (by rw [show s1.tbu.active.accountEnabled a = false from disabled]; nofun)]
        rfl
    · rw [takeDate_of_earlier (s := s1) ledger earlier] at taken
      rw [dau, nvs, zcu, taken]
      exact ⟨rfl, rfl, rfl, fun enabled room => announces _ (taken ▸
        post_announces (s := s1) enabled nofun room)⟩

end Sys2Proof.Machine

/-! PROOFS. The Command Gate's call decision: its steps, and the limits every call keeps (R124, R125,
R131 to R133). -/

namespace Sys2Proof.Machine

open Sys2Proof

variable {s u : State} {k : Fin 48} {r : ActuatorRecord} {v : Int}

/-! ## The steps of a value -/

/-- A value held between two bounds lies between them. -/
theorem hold_bounds {lo hi : Int} (h : lo ≤ hi) (v : Int) : lo ≤ hold v lo hi ∧ hold v lo hi ≤ hi := by
  unfold hold
  split
  · omega
  · split <;> omega

/-- A move toward a goal is by no more than its step (R125). -/
theorem natAbs_moveToward_sub_le (d e : Int) (step : Nat) :
    (moveToward d e step - d).natAbs ≤ step := by
  have bounds := hold_bounds (lo := d - step) (hi := d + step) (by omega) e
  unfold moveToward
  omega

/-- A fresh SET is made where the delivered value and the effective target exist and differ (R131). -/
theorem freshSet_of_differ {d e : Int} (delivered : r.delivered = some d)
    (effective : effectiveTarget s r = some e) (differ : d ≠ e) :
    freshSet s r = some (stepValue (s.tbu.active.zoneRec r.zone) r.kind d e) := by
  simp [freshSet, delivered, effective, differ]

/-- No fresh SET is made where the delivered value is the effective target, or either is missing
(R131). -/
theorem freshSet_of_same
    (same : ∀ d e, r.delivered = some d → effectiveTarget s r = some e → d = e) :
    freshSet s r = none := by
  unfold freshSet
  split
  · next d e delivered effective => rw [if_pos (same d e delivered effective)]
  · rfl

/-- What a fresh SET carries (R125, R131). -/
theorem of_freshSet (h : freshSet s r = some v) : ∃ d e, r.delivered = some d
    ∧ effectiveTarget s r = some e ∧ v = stepValue (s.tbu.active.zoneRec r.zone) r.kind d e := by
  unfold freshSet at h
  split at h
  · next d e delivered effective =>
    split at h
    · cases h
    · cases h; exact ⟨d, e, delivered, effective, rfl⟩
  · cases h

/-! ## The limits of a called SET -/

/-- What a called SET keeps to (R124, R125, R132). -/
def HoldsLimits (s : State) (r : ActuatorRecord) (v : Int) : Prop :=
  (r.kind = .luminaire → ∃ c, (s.zcu.zones.get r.zone).ceiling = some c ∧ v ≤ c)
  ∧ (r.kind.slewed = true → ∃ d, r.delivered = some d
      ∧ (v - d).natAbs ≤ stepLimit (s.tbu.active.zoneRec r.zone) r.kind)
  ∧ (r.kind = .shade → shadeForced s.tbu.active s.cmu r.zone = true → v = 100)

/-- The effective target of a luminaire is below its zone's ceiling (R124). -/
theorem effectiveTarget_luminaire {e : Int} (kind : r.kind = .luminaire)
    (h : effectiveTarget s r = some e) :
    ∃ c : Nat, (s.zcu.zones.get r.zone).ceiling = some c ∧ e ≤ c := by
  obtain ⟨b, -, clamped⟩ := Option.bind_eq_some_iff.mp h
  cases ceiling : (s.zcu.zones.get r.zone).ceiling with
  | none => simp [clampTarget, kind, ceiling] at clamped
  | some c =>
    have least : min b c = e := by simpa [clampTarget, kind, ceiling] using clamped
    exact ⟨c, rfl, by omega⟩

/-- The effective target of a shade in a shade-forced zone (R124). -/
theorem effectiveTarget_shade {e : Int} (kind : r.kind = .shade)
    (forced : shadeForced s.tbu.active s.cmu r.zone = true) (h : effectiveTarget s r = some e) :
    e = 100 := by
  obtain ⟨b, -, clamped⟩ := Option.bind_eq_some_iff.mp h
  simpa [clampTarget, kind, forced] using clamped.symm

/-- A fresh SET keeps to the zone's limits (R124, R125). -/
theorem holdsLimits_of_freshSet (h : freshSet s r = some v) : HoldsLimits s r v := by
  obtain ⟨d, e, delivered, effective, rfl⟩ := of_freshSet h
  refine ⟨fun kind => ?_, fun slewed => ⟨d, delivered, ?_⟩, fun kind forced => ?_⟩
  · simpa [stepValue, kind, ActKind.slewed] using effectiveTarget_luminaire kind effective
  · rw [stepValue, if_pos slewed]
    exact natAbs_moveToward_sub_le d e _
  · simpa [stepValue, kind, ActKind.slewed] using effectiveTarget_shade kind forced effective

/-- The test of a luminaire's SET (R132). -/
theorem admissible_luminaire (kind : r.kind = .luminaire) (v : Int) :
    admissible s r v = true ↔ ∃ c, (s.zcu.zones.get r.zone).ceiling = some c ∧ v ≤ c := by
  cases ceiling : (s.zcu.zones.get r.zone).ceiling <;> simp [admissible, kind, ceiling]

/-- The test of a shade's SET (R132). -/
theorem admissible_shade (kind : r.kind = .shade) (v : Int) :
    admissible s r v = true ↔ effectiveTarget s r = some v := by
  simp [admissible, kind]

/-- The test of a slewed kind's SET (R132). -/
theorem admissible_slewed (slewed : r.kind.slewed = true) (v : Int) :
    admissible s r v = true ↔ ∃ d e, r.delivered = some d ∧ effectiveTarget s r = some e
      ∧ min d e ≤ v ∧ v ≤ max d e
      ∧ (v - d).natAbs ≤ stepLimit (s.tbu.active.zoneRec r.zone) r.kind := by
  cases kind : r.kind with
  | luminaire | shade => rw [kind] at slewed; cases slewed
  | humidifier | climate =>
    cases effective : effectiveTarget s r <;> cases delivered : r.delivered <;>
      simp [admissible, kind, effective, delivered, and_assoc]

/-- An in-flight SET that is sent again keeps to the zone's limits (R132). -/
theorem holdsLimits_of_admissible (h : admissible s r v = true) : HoldsLimits s r v := by
  refine ⟨fun kind => (admissible_luminaire kind v).mp h, fun slewed => ?_, fun kind forced => ?_⟩
  · obtain ⟨d, e, delivered, -, -, -, step⟩ := (admissible_slewed slewed v).mp h
    exact ⟨d, delivered, step⟩
  · exact effectiveTarget_shade kind forced ((admissible_shade kind v).mp h)

/-! ## The steps of the decision -/

/-- What the decision calls where nothing but the keep-alive remains (R131). -/
def keepAliveCall (s : State) (r : ActuatorRecord) : Option Call :=
  if num s.tbu.active.bus.keepAlive ≤ r.sinceCall then some .poll else none

/-- The last step of the decision changes no record (R131). -/
theorem keepAlive_step (s : State) (r x : ActuatorRecord) :
    (if num s.tbu.active.bus.keepAlive ≤ r.sinceCall then (x, some Call.poll) else (x, none))
      = (x, keepAliveCall s r) := by
  unfold keepAliveCall
  split <;> rfl

/-- Step 3: the oldest queued ACTION is placed in flight (R131). -/
theorem decideIdle_of_queued {a : QueuedAction} {rest : List QueuedAction} (h : r.queue = a :: rest) :
    decideIdle s r = (r.placeAction a rest, some (.action a.code r.nextTag)) := by
  simp [decideIdle, h]

/-- Step 4: an actuator that has delivered nothing is polled (R131). -/
theorem decideIdle_of_undelivered (idle : r.queue = []) (h : r.delivered = none) :
    decideIdle s r = (r, some .poll) := by
  simp [decideIdle, idle, h]

/-- Step 5: a fresh SET (R131). -/
theorem decideIdle_of_fresh (idle : r.queue = []) (h : freshSet s r = some v) :
    decideIdle s r = (r.placeSet v, some (.set v r.nextTag)) := by
  obtain ⟨d, -, delivered, -, -⟩ := of_freshSet h
  simp [decideIdle, idle, h, delivered]

/-- Steps 6 and 7: the keep-alive (R131). -/
theorem decideIdle_of_same (idle : r.queue = []) (delivered : r.delivered ≠ none)
    (h : freshSet s r = none) : decideIdle s r = (r, keepAliveCall s r) := by
  simp only [decideIdle, idle, if_neg delivered, h, keepAlive_step]

/-- Step 1: a LOST actuator is polled at the keep-alive alone (R131). -/
theorem decideCall_of_lost (lost : r.link = .lost) : decideCall s r = (r, keepAliveCall s r) := by
  rw [decideCall, if_pos lost, keepAlive_step]

/-- Step 2: an in-flight ACTION is called again (R131). -/
theorem decideCall_of_action (link : r.link ≠ .lost) {tag : BitVec 3} {code : ActionCode} {id : Half}
    (flying : r.inFlight = some ⟨tag, .action code id⟩) :
    decideCall s r = (r, some (.action code tag)) := by
  simp [decideCall, link, flying]

/-- Step 2: an in-flight SET whose value still passes its test is called again (R131, R132). -/
theorem decideCall_of_admissible (link : r.link ≠ .lost) {tag : BitVec 3} {id : Option Half}
    (flying : r.inFlight = some ⟨tag, .set v id⟩) (passes : admissible s r v = true) :
    decideCall s r = (r, some (.set v tag)) := by
  simp [decideCall, link, flying, passes]

/-- A record whose in-flight command is cleared (R132). -/
abbrev ActuatorRecord.cleared (r : ActuatorRecord) : ActuatorRecord := { r with inFlight := none }

section
variable {tag : BitVec 3} {id : Option Half} {w : Int}

/-- Step 2: an in-flight SET that fails its test gives way to a fresh SET (R131, R132). -/
theorem decideCall_of_replaced (link : r.link ≠ .lost) (flying : r.inFlight = some ⟨tag, .set w id⟩)
    (fails : admissible s r w = false) (fresh : freshSet s r = some v) :
    decideCall s r = (r.placeSet v, some (.set v r.nextTag)) := by
  have fresh' : freshSet s r.cleared = some v := fresh
  simp only [decideCall, if_neg link, flying, fails, fresh']
  rfl

/-- Step 2: where no fresh SET follows a SET that fails its test, the decision goes on (R131, R132). -/
theorem decideCall_of_cleared (link : r.link ≠ .lost) (flying : r.inFlight = some ⟨tag, .set w id⟩)
    (fails : admissible s r w = false) (fresh : freshSet s r = none) :
    decideCall s r = decideIdle s r.cleared := by
  have fresh' : freshSet s r.cleared = none := fresh
  simp only [decideCall, if_neg link, flying, fails, fresh']
  rfl

end

/-- Nothing in flight: the decision goes on from step 3 (R131). -/
theorem decideCall_of_idle (link : r.link ≠ .lost) (flying : r.inFlight = none) :
    decideCall s r = decideIdle s r := by
  simp [decideCall, link, flying]

/-- The call decision is taken on the record after its settle check (R130, R131). -/
theorem callDecision_eq (held : s.cgu.actuators.get k = some r) :
    callDecision k s
      = (putActuator k (decideCall (settleCheck k s) (settledRecord s r)).1 (settleCheck k s),
          (decideCall (settleCheck k s) (settledRecord s r)).2) := by
  simp [callDecision, (settleCheck_actuators held).1]

/-! ## Settles O29 and O30 -/

/-- A fresh or queued command's SET keeps to the limits (R131). -/
theorem holdsLimits_of_decideIdle {tag : BitVec 3} (h : (decideIdle s r).2 = some (.set v tag)) :
    HoldsLimits s r v := by
  cases queue : r.queue with
  | cons a rest => rw [decideIdle_of_queued queue] at h; cases h
  | nil =>
    by_cases delivered : r.delivered = none
    · rw [decideIdle_of_undelivered queue delivered] at h; cases h
    · cases fresh : freshSet s r with
      | some w =>
        rw [decideIdle_of_fresh queue fresh] at h
        cases h
        exact holdsLimits_of_freshSet fresh
      | none =>
        rw [decideIdle_of_same queue delivered fresh, keepAliveCall] at h
        split at h <;> cases h

/-- A SET that the decision calls keeps to the limits (R131, R132). -/
theorem holdsLimits_of_decideCall {tag : BitVec 3} (h : (decideCall s r).2 = some (.set v tag)) :
    HoldsLimits s r v := by
  by_cases lost : r.link = .lost
  · rw [decideCall_of_lost lost, keepAliveCall] at h
    split at h <;> cases h
  · cases flying : r.inFlight with
    | none => rw [decideCall_of_idle lost flying] at h; exact holdsLimits_of_decideIdle h
    | some flight =>
      obtain ⟨sent, content⟩ := flight
      cases content with
      | action code id => rw [decideCall_of_action lost flying] at h; cases h
      | set w id =>
        cases passes : admissible s r w with
        | true =>
          rw [decideCall_of_admissible lost flying passes] at h
          cases h
          exact holdsLimits_of_admissible passes
        | false =>
          cases fresh : freshSet s r with
          | some x =>
            rw [decideCall_of_replaced lost flying passes fresh] at h
            cases h
            exact holdsLimits_of_freshSet fresh
          | none =>
            rw [decideCall_of_cleared lost flying passes fresh] at h
            exact holdsLimits_of_decideIdle (r := r.cleared) h

/-- Settles O29. -/
theorem gateHoldsLimitsAtEveryCall : Obligations.GateHoldsLimitsAtEveryCall := by
  unfold Obligations.GateHoldsLimitsAtEveryCall
  intro s k r v tag held called
  rw [callDecision_eq held] at called
  have limits := holdsLimits_of_decideCall called
  obtain ⟨-, -, tbu, cmu, -, zcu, -⟩ := settleCheck_frame k s
  rw [HoldsLimits, tbu, cmu, zcu] at limits
  exact limits

/-- The step value written out (R125). -/
theorem stepValue_eq (z : ZoneRec) (kind : ActKind) (d e : Int) :
    stepValue z kind d e =
      (let limit : Int := num (if kind = .humidifier then z.rhStep else z.tempStep)
      if kind = .humidifier ∨ kind = .climate then
        (if e < d - limit then d - limit else if d + limit < e then d + limit else e)
      else e) := by
  cases kind <;> simp [stepValue, ActKind.slewed, moveToward, hold, stepLimit]

/-- Settles O30, by the steps in their order. -/
theorem callDecisionFollowsItsSteps : Obligations.CallDecisionFollowsItsSteps := by
  unfold Obligations.CallDecisionFollowsItsSteps
  intro s k r held unsettled decided keepAlive zone limit stepped sends calls
  have decides {r' : ActuatorRecord} {call : Option Call} (h : decideCall s r = (r', call)) :
      decided r' call := by
    have same : settledRecord s r = r := by simp [settledRecord, unsettled]
    have eq := callDecision_eq held
    rw [settleCheck_of_unsettled held unsettled, same, h] at eq
    refine ⟨by rw [eq], by rw [eq]; simp [putActuator, Cgu.setActuator], fun j other => ?_⟩
    rw [eq]
    simp [putActuator, Cgu.setActuator, Tab.get_set_ne _ _ other]
  have fresh {d e : Int} (delivered : r.delivered = some d) (effective : effectiveTarget s r = some e)
      (differ : d ≠ e) : freshSet s r = some (stepped d e) :=
    (freshSet_of_differ delivered effective differ).trans (congrArg some (stepValue_eq zone _ d e))
  refine ⟨fun lost => decides (decideCall_of_lost lost), fun link => ⟨fun tag code id flying => ?_,
    fun tag v id flying passes => ?_, fun tag v id flying fails => ⟨?_, fun same => ?_⟩,
    fun flying => ?_⟩, fun v => ⟨fun kind => admissible_luminaire kind v,
    fun kind => admissible_shade kind v, fun kind => ?_⟩⟩
  · exact decides (decideCall_of_action link flying)
  · exact decides (decideCall_of_admissible link flying passes)
  · intro d e delivered effective differ
    exact decides (decideCall_of_replaced link flying fails (fresh delivered effective differ))
  · have cleared := decideCall_of_cleared link flying fails (freshSet_of_same same)
    refine ⟨fun a rest queue => ?_, fun queue delivered => ?_, fun queue delivered => ?_⟩
    · exact decides (cleared.trans (decideIdle_of_queued (r := r.cleared) queue))
    · exact decides (cleared.trans (decideIdle_of_undelivered (r := r.cleared) queue delivered))
    · exact decides (cleared.trans
        (decideIdle_of_same (r := r.cleared) queue delivered (freshSet_of_same same)))
  · have idle := decideCall_of_idle (s := s) link flying
    refine ⟨fun a rest queue => ?_, fun queue delivered => ?_, fun d e queue delivered effective
      differ => ?_, fun d queue delivered effective => ?_⟩
    · exact decides (idle.trans (decideIdle_of_queued queue))
    · exact decides (idle.trans (decideIdle_of_undelivered queue delivered))
    · exact decides (idle.trans (decideIdle_of_fresh queue (fresh delivered effective differ)))
    · refine decides (idle.trans (decideIdle_of_same queue (by simp [delivered])
        (freshSet_of_same fun d' e held' effective' => ?_)))
      rw [delivered] at held'
      cases held'
      rcases effective with none_ | some_
      · rw [none_] at effective'; cases effective'
      · rw [some_] at effective'; exact (Option.some.inj effective')
  · have slewed : r.kind.slewed = true := by
      rcases kind with kind | kind <;> rw [kind] <;> rfl
    have limited : limit = stepLimit (s.tbu.active.zoneRec r.zone) r.kind := by
      rcases kind with kind | kind <;> simp [limit, zone, kind, stepLimit]
    rw [admissible_slewed slewed, limited]
    have within (d v : Int) (n : Nat) : (v - d).natAbs ≤ n ↔ d - n ≤ v ∧ v ≤ d + n := by omega
    simp only [within]

end Sys2Proof.Machine

/-! PROOFS. The fieldline cycle: timer, mark, header, line events, answers and noise (R4 to R19). -/

namespace Sys2Proof.Machine

open Sys2Proof

variable {s : State} {k : Fin 48}

/-! ## The slot count and the results list -/

/-- A maximum folded over a list is reached by a member, or the start's. -/
theorem foldl_max_eq_or_mem {α : Type} (f : α → Nat) (l : List α) (n : Nat) :
    l.foldl (fun n i => max n (f i)) n = n ∨ ∃ i ∈ l, l.foldl (fun n i => max n (f i)) n = f i := by
  induction l generalizing n with
  | nil => exact .inl rfl
  | cons x l ih =>
    rcases ih (max n (f x)) with same | ⟨i, mem, same⟩
    · rcases Nat.le_total n (f x) with le | le
      · exact .inr ⟨x, by simp, same.trans (max_eq_right le)⟩
      · exact .inl (same.trans (max_eq_left le))
    · exact .inr ⟨i, by simp [mem], same⟩

/-- A maximum folded over a list bounds its start and each member. -/
theorem le_foldl_max {α : Type} (f : α → Nat) (l : List α) (n : Nat) :
    n ≤ l.foldl (fun n i => max n (f i)) n
      ∧ ∀ i ∈ l, f i ≤ l.foldl (fun n i => max n (f i)) n := by
  induction l generalizing n with
  | nil => exact ⟨le_rfl, nofun⟩
  | cons x l ih =>
    obtain ⟨start, members⟩ := ih (max n (f x))
    refine ⟨(le_max_left _ _).trans start, fun i mem => ?_⟩
    rcases List.mem_cons.mp mem with rfl | mem
    · exact (le_max_right _ _).trans start
    · exact members i mem

/-- Every used slot is below the slot count (R5). -/
theorem Tables.lt_slotCount (t : Tables) (used : (t.slots.get k).isUsed = true) :
    k.val < t.slotCount :=
  (le_foldl_max (fun i : Fin 48 => i.val + 1) _ 0).2 k (by simp [used])

/-- The slot before a present slot count is used (R5). -/
theorem Tables.exists_slotCount (t : Tables) (some_ : 0 < t.slotCount) :
    ∃ k, (t.slots.get k).isUsed = true ∧ k.val + 1 = t.slotCount := by
  rcases foldl_max_eq_or_mem (fun i : Fin 48 => i.val + 1)
    (t.slots.indices fun _ r => r.isUsed) 0 with same | ⟨k, mem, same⟩
  · exact absurd same some_.ne'
  · exact ⟨k, (Tab.mem_indices ..).mp mem, same.symm⟩

/-- The numbers below a bound, in a range that reaches it. -/
theorem range_filter_lt {n m : Nat} (le : n ≤ m) :
    (List.range m).filter (fun i => decide (i < n)) = List.range n := by
  obtain ⟨d, rfl⟩ := Nat.exists_eq_add_of_le le
  rw [List.range_add, List.filter_append, List.filter_eq_self.mpr (by simp),
    List.filter_eq_nil_iff.mpr (by simp), List.append_nil]

/-- The results list at a header's start covers the slots of the cycle (R7). -/
theorem pendingResults_slots {n : Nat} (le : n ≤ 48) :
    (pendingResults n).map (fun r => r.slot.val) = List.range n := by
  have order := List.map_coe_finRange_eq_range (n := 48)
  have filtered := List.filter_map (p := fun i => decide (i < n)) (f := Fin.val) (l := List.finRange 48)
  rw [order, range_filter_lt le] at filtered
  rw [filtered, pendingResults, List.map_map]
  rfl

/-- Every slot is PENDING at a header's start (R7). -/
theorem pendingResults_outcome {n : Nat} {r : SlotResult} (mem : r ∈ pendingResults n) :
    r.outcome = none := by
  simp only [pendingResults, List.mem_map] at mem
  obtain ⟨k, -, rfl⟩ := mem
  rfl

/-! ## Groups -/

/-- The check character brings a group's sum to FFh (R203). -/
theorem add_check_eq (x : Byte) : x + (0xFF#8 - x) = 0xFF#8 := by bv_omega

/-- A call's code is its kind in eights plus its tag (R203). -/
theorem byte_add_tag {n : Nat} (tag : BitVec 3) :
    byte (n + tag.toNat) = BitVec.ofNat 8 n + tag.setWidth 8 := by
  apply BitVec.eq_of_toNat_eq
  simp [byte]

/-- The group that a call sends is the one of R203. -/
theorem Flc.sendsCall_callGroup {f : Flc} {node : Nat} {c : Call}
    (txd : f.txd = .characters (callGroup node c k)) : f.SendsCall node k c := by
  unfold Flc.SendsCall
  cases c with
  | poll =>
    refine ⟨_, txd.trans ?_, add_check_eq _⟩
    simp [callGroup, withCheck, groupSum, Call.code, Call.value, byte]
  | set v tag =>
    refine ⟨_, txd.trans ?_, add_check_eq _⟩
    simp [callGroup, withCheck, groupSum, Call.code, Call.value, be16, byte_add_tag, byte]
  | action a tag =>
    refine ⟨_, txd.trans ?_, add_check_eq _⟩
    cases a <;> simp [callGroup, withCheck, groupSum, Call.code, Call.value, byte_add_tag, byte, ActionCode.code]

/-! ## Settles O11 and O12 -/

/-- Settles O11. -/
theorem timerExpiryBeginsNextCycle : Obligations.TimerExpiryBeginsNextCycle := by
  unfold Obligations.TimerExpiryBeginsNextCycle
  intro s closed
  exact ⟨s.tbu.active.slotCount, if_pos closed, fun k => Tables.lt_slotCount _,
    Tables.exists_slotCount _⟩

/-- Settles O12. -/
theorem markEndSendsHeader : Obligations.MarkEndSendsHeader := by
  unfold Obligations.MarkEndSendsHeader
  intro s n mark count le
  have number : num s.flc.slotCount = n := by rw [count]; rfl
  have group : headerGroup s.flc.cycle n
      = [0x3C#8, s.flc.cycle.extractLsb' 8 8, s.flc.cycle.extractLsb' 0 8, BitVec.ofNat 8 n,
          0xFF#8 - (0x3C#8 + s.flc.cycle.extractLsb' 8 8 + s.flc.cycle.extractLsb' 0 8
            + BitVec.ofNat 8 n)] := by
    simp [headerGroup, withCheck, groupSum, Config.headerCode, be16, byte]
  refine ⟨_, pendingResults n, ?_, add_check_eq _, pendingResults_slots le,
    fun r => pendingResults_outcome⟩
  refine (if_pos mark).trans ?_
  rw [Flc.beginHeader, number, group]
  rfl

/-! ## Slot starts -/

/-- The FLC at a slot's start (R8, R10, R13). -/
theorem slotStart_flc (k : Fin 48) (s : State) :
    (slotStart k s).flc
      = s.flc.openSlot k (num (s.tbu.active.slots.get k).node) (slotCall k s).2 := by
  simp [slotStart]

/-- Nothing but the FLC, the Command Gate and the board is in a slot's start (R10 to R12). -/
theorem slotStart_state (k : Fin 48) (s : State) :
    slotStart k s = { s with
      flc := (slotStart k s).flc, cgu := (slotStart k s).cgu, bli := (slotStart k s).bli } := by
  have frame := slotStart_frame k s
  generalize slotStart k s = w at *
  cases w
  simp only at frame
  obtain ⟨rfl, rfl, rfl, rfl, rfl, rfl, rfl, rfl, rfl, rfl, rfl⟩ := frame
  rfl

/-- A slot whose use is not ACTUATOR asks the Command Gate nothing (R10, R11). -/
theorem slotCall_of_not_actuator (use : (s.tbu.active.slots.get k).isActuator = false) :
    slotCall k s = (s, if (s.tbu.active.slots.get k).isSensor then some .poll else none) := by
  simp [slotCall, use]

/-- A slot has one use (R30). -/
theorem SlotRec.isActuator_of_isSensor {r : SlotRec} (h : r.isSensor = true) :
    r.isActuator = false := by
  simp only [SlotRec.isSensor, SlotRec.isActuator, beq_iff_eq] at *
  simp [h]

/-- An unused slot has no use (R30). -/
theorem SlotRec.isUsed_eq_false {r : SlotRec} (h : r.isUsed = false) :
    r.isSensor = false ∧ r.isActuator = false := by
  simpa [SlotRec.isUsed] using h

/-- An UNUSED slot makes no call (R10). -/
theorem slotCall_of_unused (use : (s.tbu.active.slots.get k).isUsed = false) :
    slotCall k s = (s, none) := by
  obtain ⟨sensor, actuator⟩ := SlotRec.isUsed_eq_false use
  simp [slotCall_of_not_actuator actuator, sensor]

/-- A sensor slot polls (R11). -/
theorem slotCall_of_sensor (use : (s.tbu.active.slots.get k).isSensor = true) :
    slotCall k s = (s, some .poll) := by
  simp [slotCall_of_not_actuator (SlotRec.isActuator_of_isSensor use), use]

/-- An actuator slot makes the call that the Command Gate decides (R12). -/
theorem slotCall_of_actuator (use : (s.tbu.active.slots.get k).isActuator = true) :
    slotCall k s = callDecision k s := if_pos use

/-- What a slot's start leaves of the FLC, with its call or none (R8, R10 to R13, R203). -/
structure Flc.Opens (f : Flc) (k : Fin 48) (node : Nat) (call : Option Call) : Prop where
  state : f.state = .slot
  slot : f.slot = some k
  answer : f.answer = []
  provisional : f.provisional = none
  called : f.call = call
  silent : call = none → f.phase = some .silent ∧ f.driverEnable = false ∧ f.txd = .recessive
  calling : ∀ c, call = some c → f.phase = some .calling ∧ f.driverEnable = true
    ∧ f.txd = .characters (callGroup node c k)

/-- A slot opened (R8, R10 to R13). -/
theorem Flc.opens_openSlot (f : Flc) (k : Fin 48) (node : Nat) (call : Option Call) :
    (f.openSlot k node call).Opens k node call where
  state := rfl
  slot := rfl
  answer := rfl
  provisional := rfl
  called := rfl
  silent h := by rw [h]; exact ⟨rfl, rfl, rfl⟩
  calling c h := by rw [h]; exact ⟨rfl, rfl, rfl⟩

/-- A slot's start opens the slot with its call (R10 to R12). -/
theorem slotStart_opens (k : Fin 48) (s : State) :
    (slotStart k s).flc.Opens k (num (s.tbu.active.slots.get k).node) (slotCall k s).2 := by
  rw [slotStart_flc]
  exact Flc.opens_openSlot ..

/-- The Command Gate after a slot's start (R12). -/
theorem slotStart_cgu (k : Fin 48) (s : State) : (slotStart k s).cgu = (slotCall k s).1.cgu := rfl

/-- The building link after a slot's start (R12). -/
theorem slotStart_bli (k : Fin 48) (s : State) : (slotStart k s).bli = (slotCall k s).1.bli := rfl

/-! ## Settles O13 -/

/-- Settles O13, by the use of slot 0. -/
theorem headerEndStartsSlotZero : Obligations.HeaderEndStartsSlotZero := by
  unfold Obligations.HeaderEndStartsSlotZero
  intro s header
  have state := slotStart_state 0 s
  have results : (slotStart 0 s).flc.results = s.flc.results := by rw [slotStart_flc]; rfl
  have opens := slotStart_opens 0 s
  have cgu := slotStart_cgu 0 s
  have bli := slotStart_bli 0 s
  have run : exec .headerEnd s = .next (finish (slotStart 0 s)) := if_pos header
  generalize slotStart 0 s = w at *
  refine ⟨finish w, run, ?_, opens.state, opens.slot, results, fun unused => ?_, fun sensor => ?_,
    fun actuator => ?_⟩
  · rw [state]; rfl
  · rw [slotCall_of_unused unused] at opens cgu bli
    obtain ⟨phase, line, -⟩ := opens.silent rfl
    exact ⟨phase, opens.called, line, cgu, by rw [finish_bli, bli]⟩
  · rw [slotCall_of_sensor sensor] at opens cgu bli
    obtain ⟨phase, line, txd⟩ := opens.calling .poll rfl
    obtain ⟨check, chars, sum⟩ := Flc.sendsCall_callGroup txd
    exact ⟨phase, opens.called, line, cgu, by rw [finish_bli, bli], check, chars, by simpa using sum⟩
  · rw [slotCall_of_actuator actuator] at opens
    refine ⟨opens.called, fun none_ => ?_, fun some_ => ?_, fun c called => ?_⟩
    · obtain ⟨phase, line, -⟩ := opens.silent (opens.called.symm.trans none_)
      exact ⟨phase, line⟩
    · obtain ⟨c, called⟩ := Option.ne_none_iff_exists'.mp some_
      obtain ⟨phase, line, -⟩ := opens.calling c (opens.called.symm.trans called)
      exact ⟨phase, line⟩
    · obtain ⟨-, -, txd⟩ := opens.calling c (opens.called.symm.trans called)
      exact Flc.sendsCall_callGroup txd

/-! ## Settles O14 to O17 -/

/-- Settles O14. -/
theorem lineEventsSettleTheSlot : Obligations.LineEventsSettleTheSlot := by
  unfold Obligations.LineEventsSettleTheSlot
  intro s
  exact ⟨fun calling => ⟨if_pos calling, if_pos calling⟩,
    fun window => ⟨if_pos window, if_pos window⟩, fun guard => if_pos guard⟩

/-- A framed character that is not the sixth joins the buffer (R15). -/
theorem Flc.takeCharacter_of_few {f : Flc} (t : Tables) (c : Byte) (few : f.answer.length < 5) :
    f.takeCharacter t c = { f with answer := f.answer ++ [c] } := by
  have short : (f.answer ++ [c]).length ≠ Config.groupLength := by
    simp [Config.groupLength]; omega
  exact if_neg short

/-- Settles O15. -/
theorem answerGathersOrBreaks : Obligations.AnswerGathersOrBreaks := by
  unfold Obligations.AnswerGathersOrBreaks
  intro s c receiving
  refine ⟨fun few => ?_, if_pos receiving, fun held => if_pos ⟨receiving, held⟩⟩
  refine (if_pos receiving).trans ?_
  rw [if_pos rfl, Flc.takeCharacter_of_few s.tbu.active c few]
  rfl

/-- The sixth character completes the answer (R15, R16). -/
theorem Flc.takeCharacter_of_six {f : Flc} {call : Call} {node code hi lo flags : Byte} (t : Tables)
    (check : Byte) (slot : f.slot = some k) (called : f.call = some call)
    (held : f.answer = [node, code, hi, lo, flags]) :
    f.takeCharacter t check = { f with
      answer := [node, code, hi, lo, flags, check], phase := some .guard
      provisional := some
        (classifyAnswer (t.slots.get k) call [node, code, hi, lo, flags, check]) } := by
  simp [Flc.takeCharacter, Flc.complete, Config.groupLength, slot, called, held]

section
variable {slot : SlotRec} {call : Call} {node code hi lo flags check : Byte}

/-- The first check of R16. -/
theorem classifyAnswer_of_wrong_sum (sum : node + code + hi + lo + flags + check ≠ 0xFF#8) :
    classifyAnswer slot call [node, code, hi, lo, flags, check] = .garbled := by
  simp [classifyAnswer, groupChecks, groupSum, sum]

/-- The second check of R16. -/
theorem classifyAnswer_of_wrong_node (sum : node + code + hi + lo + flags + check = 0xFF#8)
    (other : slot.node ≠ some node.toNat) :
    classifyAnswer slot call [node, code, hi, lo, flags, check] = .wrongNode := by
  simp [classifyAnswer, groupChecks, groupSum, sum, other]

/-- The third check of R16. -/
theorem classifyAnswer_of_node (sum : node + code + hi + lo + flags + check = 0xFF#8)
    (own : slot.node = some node.toNat) :
    classifyAnswer slot call [node, code, hi, lo, flags, check]
      = ((answerContents call slot.sensorQuantity code hi lo flags).map .good).getD .garbled := by
  cases contents : answerContents call slot.sensorQuantity code hi lo flags <;>
    simp [classifyAnswer, groupChecks, groupSum, sum, own, contents]

end

/-- The contents of an answer to the poll of a sensor (R16). -/
theorem answerContents_sensor (q : Quantity) (code hi lo flags : Byte) :
    answerContents .poll (some q) code hi lo flags
      = if code.toNat / 8 = 4 then
          some (.sample (if q = .temp ∨ q = .outdoor then (hi ++ lo).toInt else (hi ++ lo).toNat)
            (flags.getLsbD 0) (flags.getLsbD 1) (flags.getLsbD 2))
        else none := by
  by_cases kind : code.toNat / 8 = 4
  · rw [if_pos kind]
    cases q <;> simp [answerContents, kind, answerValue, Quantity.signed, halfOf]
  · rw [if_neg kind]
    unfold answerContents
    split
    case h_1 code_eq => exact absurd code_eq kind
    all_goals simp_all

/-- The contents of an answer from an actuator (R16). -/
theorem answerContents_actuator (call : Call) (code hi lo flags : Byte) :
    answerContents call none code hi lo flags
      = if code.toNat / 8 = 7 then some .notReady
        else if code.toNat / 8 = 5 ∧ call = .poll then
          some (.status (hi ++ lo).toNat (flags.getLsbD 0))
        else if code.toNat / 8 = 6 ∧ call ≠ .poll then
          some (.echo (code.extractLsb' 0 3) (hi ++ lo).toNat (flags.getLsbD 0))
        else none := by
  have value : answerValue false hi lo = ((hi ++ lo).toNat : Int) := rfl
  generalize kind : code.toNat / 8 = n
  unfold answerContents
  rw [kind, value]
  cases call with
  | poll => split <;> simp_all
  | set v tag => split <;> simp_all
  | action a tag => split <;> simp_all

/-- Settles O16, by the checks of R16 in their order. -/
theorem sixthCharacterIsClassified : Obligations.SixthCharacterIsClassified := by
  unfold Obligations.SixthCharacterIsClassified
  intro s k call node code hi lo flags check receiving slot called held
  refine ⟨_, (if_pos receiving).trans (by
    rw [if_pos rfl, Flc.takeCharacter_of_six s.tbu.active check slot called held]; rfl),
    classifyAnswer_of_wrong_sum, fun sum => ⟨classifyAnswer_of_wrong_node sum, fun own => ?_⟩⟩
  rw [classifyAnswer_of_node sum own]
  refine ⟨fun q senses polled => ?_, fun acts => ?_⟩
  · rw [senses, polled, answerContents_sensor]
    exact ⟨fun kind => by rw [if_pos kind]; rfl, fun kind => by rw [if_neg kind]; rfl⟩
  · rw [acts, answerContents_actuator]
    refine ⟨fun kind => by rw [if_pos kind]; rfl, fun polled kind => ?_, fun other kind => ?_,
      fun kind polled other => ?_⟩
    · rw [if_neg (by omega), if_pos ⟨kind, polled⟩]; rfl
    · rw [if_neg (by omega), if_neg (fun both => other both.2), if_pos ⟨kind, other⟩]; rfl
    · rw [if_neg kind, if_neg (fun both => polled both.2 both.1),
        if_neg (fun both => other both.2 both.1)]
      rfl

/-- A post changes the board alone (R162). -/
theorem post_state (n : Notice) (s : State) : post n s = { s with bli := (post n s).bli } := rfl

/-- A post without a placement at once changes the board alone (R162, R165). -/
theorem post_bli_of_not_eager (late : s.order.eager = false) (n : Notice) :
    (post n s).bli
      = { s.bli with board := boardPost s.tbu.active.bus.mask n s.bli.board } := by
  simp [post, State.settlePlacement, late, State.posted]

/-- Settles O17. -/
theorem fieldNoisePostsOncePerSlot : Obligations.FieldNoisePostsOncePerSlot := by
  unfold Obligations.FieldNoisePostsOncePerSlot
  intro s k silent slot
  let heard := s.setFlc { s.flc with noise := true }
  refine ⟨fun quiet => ⟨finish (post (.fieldNoise k) heard), ?_, rfl, fun late => ?_⟩,
    fun noisy => ?_⟩
  · change execFieldNoise s = _
    unfold execFieldNoise
    split
    · next j here =>
      cases slot.symm.trans here
      exact if_pos ⟨silent, quiet⟩
    · next nowhere => cases slot.symm.trans nowhere
  · rw [finish_bli, post_bli_of_not_eager (s := heard) late]
    rfl
  · simp [exec, execFieldNoise, slot, noisy]

end Sys2Proof.Machine

/-! PROOFS. The end of a slot: the outcome handed over, the next slot or the close; an actuator's
answers and misses (R17 to R22, R134 to R142). -/

namespace Sys2Proof.Machine

open Sys2Proof

variable {s u : State} {k j : Fin 48} {o : SlotOutcome} {r : ActuatorRecord} {n : Notice}

/-! ## The slot that ends -/

/-- What the FLC can end (R17, R18). -/
theorem Flc.ending_of_ends {f : Flc} (ends : f.Ends k o) : f.ending = some (k, o) := by
  obtain ⟨state, slot, outcome⟩ := ends
  have final : f.finalOutcome = some o := by
    rcases outcome with ⟨phase, rfl⟩ | ⟨phase, p, held, rfl⟩ | ⟨phase, settled⟩
    · simp [Flc.finalOutcome, phase]
    · simp [Flc.finalOutcome, phase, held]
    · simp [Flc.finalOutcome, phase, settled]
  simp [Flc.ending, state, slot, final]

/-- SLOT_END (R20). -/
theorem exec_slotEnd (ends : s.flc.Ends k o) : exec .slotEnd s = .next (slotEnd k o s) := by
  change execSlotEnd s = _
  simp [execSlotEnd, Flc.ending_of_ends ends]

/-- The slot end of a row whose threshold is reached (assumption log 3). -/
theorem slotEndWhen_of_reached {reached : Fin 48 → SlotOutcome → State → Bool}
    (ends : s.flc.Ends k o) (now : reached k o s = true) :
    slotEndWhen reached s = slotEnd k o s := by
  simp [slotEndWhen, Flc.ending_of_ends ends, now]

/-! ## What follows a slot -/

/-- After slot N − 1 no slot follows (R20). -/
theorem Flc.nextSlot_of_last {f : Flc} (last : f.Last k) : f.nextSlot k = none :=
  if_neg (Nat.not_lt.mpr last)

/-- The slot that follows (R20). -/
theorem Flc.nextSlot_of_more {f : Flc} (more : ¬ f.Last k) (next : j.val = k.val + 1) :
    f.nextSlot k = some j := by
  rw [Flc.nextSlot, if_pos (Nat.not_le.mp more)]
  exact finOf_eq_some_iff.mpr next

/-- A slot that follows is another (R20). -/
theorem Flc.ne_of_nextSlot {f : Flc} (next : f.nextSlot k = some j) : k ≠ j := by
  unfold Flc.nextSlot at next
  split at next
  · have follows := finOf_eq_some_iff.mp next
    rintro rfl
    omega
  · cases next

/-- After slot N − 1 the cycle closes (R20). -/
theorem afterSlot_of_last (last : s.flc.Last k) : afterSlot k s = cycleClose s := by
  rw [afterSlot, Flc.nextSlot_of_last last]

/-- Before slot N − 1 the next slot begins (R20). -/
theorem afterSlot_of_next (next : s.flc.nextSlot k = some j) : afterSlot k s = slotStart j s := by
  rw [afterSlot, next]

/-- A slot's end, at the cycle's last (R20). -/
theorem slotEnd_of_last (o : SlotOutcome) (last : s.flc.Last k) :
    slotEnd k o s = finish (cycleClose (recordAndHandOver k o s)) := by
  have last' : (recordAndHandOver k o s).flc.Last k := by
    rw [recordAndHandOver_flc]; exact last
  rw [slotEnd, afterSlot_of_last last']

/-- A slot's end, before the cycle's last (R20). -/
theorem slotEnd_of_more (o : SlotOutcome) (more : ¬ s.flc.Last k) (next : j.val = k.val + 1) :
    slotEnd k o s = finish (slotStart j (recordAndHandOver k o s)) := by
  have next' : (recordAndHandOver k o s).flc.nextSlot k = some j := by
    rw [recordAndHandOver_flc]; exact Flc.nextSlot_of_more more next
  rw [slotEnd, afterSlot_of_next next']

/-- A hand-over moves no swap (R44). -/
theorem swapDue_recordAndHandOver (k : Fin 48) (o : SlotOutcome) (s : State) :
    (recordAndHandOver k o s).swapDue = s.swapDue := by
  simp [State.swapDue, Flc.record]

/-- A slot with a use has one quantity or none (R30). -/
theorem SlotRec.sensorQuantity_of_actuator {r : SlotRec} (h : r.isActuator = true) :
    r.sensorQuantity = none := by
  have sensor : r.isSensor = false := by
    simp only [SlotRec.isSensor, SlotRec.isActuator, beq_iff_eq] at *
    simp [h]
  simp [SlotRec.sensorQuantity, sensor]

/-- The result of an actuator slot goes to the Command Gate (R22). -/
theorem recordAndHandOver_of_actuator (o : SlotOutcome)
    (acts : (s.tbu.active.slots.get k).isActuator = true) :
    recordAndHandOver k o s = actuatorResult k o (s.setFlc (s.flc.record k o)) := by
  simp [recordAndHandOver, handOver, SlotRec.sensorQuantity_of_actuator acts, acts]

/-- The result of a sensor slot goes to the Condition Monitor (R21). -/
theorem recordAndHandOver_of_sensor (o : SlotOutcome) {q : Quantity}
    (senses : (s.tbu.active.slots.get k).sensorQuantity = some q) :
    recordAndHandOver k o s = sensorResult k q o (s.setFlc (s.flc.record k o)) := by
  simp [recordAndHandOver, handOver, senses]

/-! ## Actuator records -/

@[simp] theorem putActuator_actuators (k : Fin 48) (r : ActuatorRecord) (s : State) :
    (putActuator k r s).cgu.actuators.get k = some r := by
  simp [putActuator, Cgu.setActuator]

theorem putActuator_actuators_ne (other : j ≠ k) (r : ActuatorRecord) (s : State) :
    (putActuator k r s).cgu.actuators.get j = s.cgu.actuators.get j := by
  simp [putActuator, Cgu.setActuator, Tab.get_set_ne _ _ other]

/-- A settle check changes its own slot's record alone (R130). -/
theorem settleCheck_actuators_ne (other : j ≠ k) (s : State) :
    (settleCheck k s).cgu.actuators.get j = s.cgu.actuators.get j := by
  cases held : s.cgu.actuators.get k with
  | none => simp [settleCheck, held]
  | some r => exact (settleCheck_actuators held).2 j other

/-- A call decision changes its own slot's record alone (R131). -/
theorem callDecision_actuators_ne (other : j ≠ k) (s : State) :
    (callDecision k s).1.cgu.actuators.get j = s.cgu.actuators.get j := by
  have checked := settleCheck_actuators_ne other s
  simp only [callDecision]
  split
  · exact checked
  · rw [putActuator_actuators_ne other, checked]

/-- A slot's start changes its own slot's record alone (R12). -/
theorem slotStart_actuators_ne (other : j ≠ k) (s : State) :
    (slotStart k s).cgu.actuators.get j = s.cgu.actuators.get j := by
  rw [slotStart_cgu, slotCall]
  split
  · exact callDecision_actuators_ne other s
  · rfl

/-- A close that swaps nothing changes no actuator's record (R23). -/
theorem cycleClose_cgu (due : s.swapDue = false) : (cycleClose s).cgu = s.cgu := by
  rw [cycleClose_of_not_swapDue due]
  exact (runSteps_leaves (closeSteps_leaves _ _) _).2.2.2.1

/-- What follows a slot leaves the slot's own actuator record (R20). -/
theorem afterSlot_actuator (k : Fin 48) (due : s.swapDue = false) :
    (afterSlot k s).cgu.actuators.get k = s.cgu.actuators.get k := by
  unfold afterSlot
  split
  · next next_ => exact slotStart_actuators_ne (Flc.ne_of_nextSlot next_) s
  · rw [cycleClose_cgu due]

/-- The slot's own actuator record at the end of the slot is the one its hand-over leaves (R20). -/
theorem slotEnd_actuator (k : Fin 48) (o : SlotOutcome) (due : s.swapDue = false) :
    (slotEnd k o s).cgu.actuators.get k = (recordAndHandOver k o s).cgu.actuators.get k :=
  afterSlot_actuator k (by rw [swapDue_recordAndHandOver]; exact due)

/-- An actuator's outcome in its steps: the record, the posts, the settle check (R135). -/
theorem actuatorResult_eq (o : SlotOutcome) (held : s.cgu.actuators.get k = some r) :
    actuatorResult k o s
      = settleCheck k (postAll (slotAnswered (num s.tbu.active.bus.missLimit) r o).2
          (putActuator k (slotAnswered (num s.tbu.active.bus.missLimit) r o).1 s)) := by
  simp [actuatorResult, held]

/-- What an actuator's outcome leaves of the records (R135). -/
theorem actuatorResult_actuators (o : SlotOutcome) (held : s.cgu.actuators.get k = some r) :
    (actuatorResult k o s).cgu.actuators.get k
        = some (settledRecord s (slotAnswered (num s.tbu.active.bus.missLimit) r o).1)
      ∧ ∀ j, j ≠ k →
        (actuatorResult k o s).cgu.actuators.get j = s.cgu.actuators.get j := by
  rw [actuatorResult_eq o held]
  generalize slotAnswered (num s.tbu.active.bus.missLimit) r o = x
  have put : (postAll x.2 (putActuator k x.1 s)).cgu.actuators.get k = some x.1 := by simp
  obtain ⟨here, others⟩ := settleCheck_actuators put
  refine ⟨here.trans ?_, fun j other => (others j other).trans ?_⟩
  · rw [settledRecord, settledRecord, settledSet_congr (u := postAll x.2 (putActuator k x.1 s))
      (s := s) (by simp [putActuator]) (by simp [putActuator]) (by simp [putActuator])]
  · simp [putActuator_actuators_ne other]

/-- The records after an actuator slot's hand-over (R22, R135). -/
theorem recordAndHandOver_actuators (o : SlotOutcome)
    (acts : (s.tbu.active.slots.get k).isActuator = true)
    (held : s.cgu.actuators.get k = some r) :
    (recordAndHandOver k o s).cgu.actuators.get k
        = some (settledRecord s (slotAnswered (num s.tbu.active.bus.missLimit) r o).1)
      ∧ ∀ j, j ≠ k →
        (recordAndHandOver k o s).cgu.actuators.get j = s.cgu.actuators.get j := by
  rw [recordAndHandOver_of_actuator o acts]
  exact actuatorResult_actuators (s := s.setFlc (s.flc.record k o)) o held

/-! ## What stands on the board at the end of the slot -/

/-- A settle check posts under its node's key alone (R130). -/
theorem State.Announces.settleCheck (h : s.Announces n)
    (apart : ∀ y, s.cgu.actuators.get k = some y → (8, y.node) ≠ n.key) :
    (settleCheck k s).Announces n := by
  cases held : s.cgu.actuators.get k with
  | none => simpa [Machine.settleCheck, held] using h
  | some y =>
    cases settled : settledSet s y with
    | none => rw [settleCheck_of_unsettled held settled]; exact h
    | some id =>
      rw [settleCheck_of_settled held settled]
      exact State.Announces.post (s := putActuator k _ s) h fun same => absurd same (apart y held)

/-- A slot's start posts under its node's key alone (R12, R130). -/
theorem State.Announces.slotStart (h : s.Announces n)
    (apart : ∀ y, s.cgu.actuators.get k = some y → (8, y.node) ≠ n.key) :
    (slotStart k s).Announces n := by
  rw [State.announces_iff, slotStart_bli, slotCall]
  split
  · have checked := h.settleCheck apart
    simp only [callDecision]
    split
    · exact checked
    · exact checked
  · exact h

/-- A notice about the slot's own node stands at the end of the slot, before the cycle's last (R20). -/
theorem slotEnd_announces (o : SlotOutcome) (acts : (s.tbu.active.slots.get k).isActuator = true)
    (held : s.cgu.actuators.get k = some r) (more : ¬ s.flc.Last k) (below : k.val < 47)
    (own : ∀ j y, s.cgu.actuators.get j = some y → y.node = r.node → j = k)
    (key : n.key = (8, r.node)) (h : (recordAndHandOver k o s).Announces n) :
    (slotEnd k o s).Announces n := by
  let next : Fin 48 := ⟨k.val + 1, by omega⟩
  have other : next ≠ k := fun same => absurd (congrArg Fin.val same) (by simp [next])
  rw [slotEnd_of_more (j := next) o more rfl]
  refine (h.slotStart fun y there same => other (own next y ?_ ?_)).finish
  · rw [← (recordAndHandOver_actuators o acts held).2 next other]; exact there
  · rw [key] at same; exact (Prod.mk.inj same).2

/-! ## Answers -/

/-- The posts that a good answer makes beyond its contents (R138, R140). -/
def answerPosts (r : ActuatorRecord) (a : Answer) : List Notice :=
  (if a.faultFlag then [.actuatorFault r.node] else [])
    ++ (if r.link = .lost then [.actuatorState r.node .back] else [])

/-- A good answer posts its contents' posts first (R136 to R140). -/
theorem goodAnswer_eq (r : ActuatorRecord) (a : Answer) :
    goodAnswer r a
      = ({ (answered r a).1 with miss := 0, link := .online }, (answered r a).2 ++ answerPosts r a) := by
  simp [goodAnswer, answerPosts]

theorem answerPosts_length (r : ActuatorRecord) (a : Answer) : (answerPosts r a).length ≤ 2 := by
  unfold answerPosts
  split <;> split <;> simp

/-- The further posts of an answer are under other keys than its COMMAND_OUTCOME (R161). -/
theorem key_of_mem_answerPosts {a : Answer} {m : Notice} (mem : m ∈ answerPosts r a) {x : Nat} :
    m.key ≠ (8, x) := by
  simp only [answerPosts, List.mem_append] at mem
  rcases mem with mem | mem
  · split at mem
    · rw [List.mem_singleton.mp mem]; simp [Notice.key, Notice.code]
    · cases mem
  · split at mem
    · rw [List.mem_singleton.mp mem]; simp [Notice.key, Notice.code]
    · cases mem

/-- A usable answer in a slot's outcome (R134, R135). -/
theorem slotAnswered_of_usable {a : Answer} (limit : Nat)
    (use : usable { r with sinceCall := 0 } a = true) :
    slotAnswered limit r (.good a) = goodAnswer { r with sinceCall := 0 } a := if_pos use

/-- An answer that is not usable counts as a miss (R135, R140). -/
theorem slotAnswered_of_not_usable {a : Answer} (limit : Nat)
    (use : usable { r with sinceCall := 0 } a = false) :
    slotAnswered limit r (.good a) = missed limit { r with sinceCall := 0 } :=
  if_neg (Bool.not_eq_true _ ▸ use)

/-- A miss below the miss limit (R139). -/
theorem missed_of_few {limit : Nat} (link : r.link ≠ .lost) (few : r.miss + 1 < limit) :
    missed limit r = ({ r with miss := r.miss + 1, link := .suspect }, []) := by
  have count : saturate limit (r.miss + 1) = r.miss + 1 := by unfold saturate; omega
  simp [missed, link, count, few]

/-- A miss that reaches the miss limit (R141). -/
theorem missed_of_limit {limit : Nat} (link : r.link ≠ .lost) (many : limit ≤ r.miss + 1) :
    missed limit r = loseActuator { r with miss := limit } := by
  have count : saturate limit (r.miss + 1) = limit := by unfold saturate; omega
  simp [missed, link, count]

/-- A record with a SET in flight has none settled (R130). -/
theorem settledSet_of_setInFlight (h : r.setInFlight = true) : settledSet s r = none := by
  unfold settledSet
  split
  · simp [h]
  · rfl

/-! ## Posts of an actuator's outcome -/

section
variable {x : ActuatorRecord × List Notice} {extra : List Notice} {id : Half} {c : CommandOutcome}

/-- The first post of an outcome stands, where no other is under its key and nothing is settled
(R136, R162). -/
theorem firstPost_announces (room : keyedCount s.bli.board < 63)
    (enabled : n.enabledBy s.tbu.active.bus.mask = true) (keyed : n ≠ .boardFull)
    (posts : x.2 = n :: extra) (apart : ∀ m ∈ extra, m.key ≠ n.key)
    (unsettled : settledSet s x.1 = none) :
    (settleCheck k (postAll x.2 (putActuator k x.1 s))).Announces n := by
  let w := postAll x.2 (putActuator k x.1 s)
  have put : w.cgu.actuators.get k = some x.1 := by simp [w]
  have found : settledSet w x.1 = settledSet s x.1 :=
    settledSet_congr (by simp [w, putActuator]) (by simp [w, putActuator])
      (by simp [w, putActuator]) _
  rw [settleCheck_of_unsettled put (found.trans unsettled)]
  have first : (post n (putActuator k x.1 s)).Announces n := post_announces enabled keyed room
  change (postAll x.2 _).Announces n
  rw [posts]
  exact first.postAll fun m mem same => absurd same (apart m mem)

/-- The DONE of a settled SET stands, where its posts before it fit (R130, R162). -/
theorem settledPost_announces
    (fits : Fits (.commandOutcome x.1.node id .done) 63
      (postAll x.2 (putActuator k x.1 s)).bli.board)
    (enabled : (Notice.commandOutcome x.1.node id .done).enabledBy s.tbu.active.bus.mask = true)
    (settled : settledSet s x.1 = some id) :
    (settleCheck k (postAll x.2 (putActuator k x.1 s))).Announces
      (.commandOutcome x.1.node id .done) := by
  let w := postAll x.2 (putActuator k x.1 s)
  have put : w.cgu.actuators.get k = some x.1 := by simp [w]
  have found : settledSet w x.1 = settledSet s x.1 :=
    settledSet_congr (by simp [w, putActuator]) (by simp [w, putActuator])
      (by simp [w, putActuator]) _
  rw [settleCheck_of_settled put (found.trans settled)]
  exact Fits.announces (s := putActuator k _ w) fits le_rfl
    (by simpa [w, putActuator] using enabled) nofun

/-- Posts under a notice's own key take the notice's place for it (R162). -/
theorem Fits.postAll_same {room : Nat} (fits : Fits n room s.bli.board) (le : room ≤ 63)
    (keyed : n ≠ .boardFull) {ns : List Notice} (same : ∀ m ∈ ns, m.key = n.key) :
    Fits n room (Machine.postAll ns s).bli.board := by
  unfold Machine.postAll
  induction ns generalizing s with
  | nil => exact fits
  | cons m ns ih =>
    exact ih (fits.post_same le keyed (same m (by simp))) fun m' mem => same m' (by simp [mem])

/-- Posts under a notice's own key and at most two others leave it its place (R162). -/
theorem fits_postAll_append {own : List Notice} (room : keyedCount s.bli.board < 61)
    (keyed : n ≠ .boardFull) (same : ∀ m ∈ own, m.key = n.key) (few : extra.length ≤ 2) :
    Fits n 63 (postAll (own ++ extra) s).bli.board := by
  have first : Fits n 61 (postAll own s).bli.board :=
    Fits.postAll_same (.inl room) (by omega) keyed same
  rw [postAll, List.foldl_append]
  exact (first.postAll keyed extra).mono (by omega)

end

/-! ## An actuator slot's end before the cycle's last -/

section
variable {x : ActuatorRecord × List Notice} {own extra : List Notice} {id : Half} {c : CommandOutcome}

/-- The outcome an answer posts first stands at the end of the slot (R136, R162). -/
theorem slotEnd_firstPost (acts : (s.tbu.active.slots.get k).isActuator = true)
    (held : s.cgu.actuators.get k = some r)
    (answered : slotAnswered (num s.tbu.active.bus.missLimit) r o = x)
    (posts : x.2 = .commandOutcome r.node id c :: extra)
    (apart : ∀ m ∈ extra, m.key ≠ (8, r.node)) (unsettled : settledSet s x.1 = none)
    (more : ¬ s.flc.Last k) (below : k.val < 47)
    (enabled : (Notice.commandOutcome r.node id c).enabledBy s.tbu.active.bus.mask = true)
    (room : keyedCount s.bli.board < 63)
    (sole : ∀ j y, s.cgu.actuators.get j = some y → y.node = r.node → j = k) :
    (slotEnd k o s).Announces (.commandOutcome r.node id c) := by
  refine slotEnd_announces o acts held more below sole rfl ?_
  rw [recordAndHandOver_of_actuator o acts,
    actuatorResult_eq (s := s.setFlc (s.flc.record k o)) o held]
  change (settleCheck k (postAll (slotAnswered (num s.tbu.active.bus.missLimit) r o).2 (putActuator k
    (slotAnswered (num s.tbu.active.bus.missLimit) r o).1 _))).Announces _
  rw [answered]
  exact firstPost_announces (s := s.setFlc (s.flc.record k o)) room enabled nofun posts apart
    unsettled

/-- The DONE of a SET that an answer settles stands at the end of the slot (R130, R162). -/
theorem slotEnd_settledPost (acts : (s.tbu.active.slots.get k).isActuator = true)
    (held : s.cgu.actuators.get k = some r)
    (answered : slotAnswered (num s.tbu.active.bus.missLimit) r o = x) (node : x.1.node = r.node)
    (posts : x.2 = own ++ extra) (same : ∀ m ∈ own, m.key = (8, r.node)) (few : extra.length ≤ 2)
    (settled : settledSet s x.1 = some id)
    (more : ¬ s.flc.Last k) (below : k.val < 47)
    (enabled : (Notice.commandOutcome r.node id .done).enabledBy s.tbu.active.bus.mask = true)
    (room : keyedCount s.bli.board < 61)
    (sole : ∀ j y, s.cgu.actuators.get j = some y → y.node = r.node → j = k) :
    (slotEnd k o s).Announces (.commandOutcome r.node id .done) := by
  refine slotEnd_announces o acts held more below sole rfl ?_
  rw [recordAndHandOver_of_actuator o acts,
    actuatorResult_eq (s := s.setFlc (s.flc.record k o)) o held]
  change (settleCheck k (postAll (slotAnswered (num s.tbu.active.bus.missLimit) r o).2 (putActuator k
    (slotAnswered (num s.tbu.active.bus.missLimit) r o).1 _))).Announces _
  rw [answered, ← node]
  rw [← node] at enabled same
  refine settledPost_announces (s := s.setFlc (s.flc.record k o)) ?_ enabled settled
  rw [posts]
  exact fits_postAll_append (s := putActuator k x.1 (s.setFlc (s.flc.record k o))) room nofun same few

end

/-! ## Settles O31 -/

/-- An ECHO with the in-flight tag and an accepted value is usable (R135). -/
theorem usable_echo {tag : BitVec 3} {kind : InFlightKind} {v : Int} (fault : Bool)
    (flying : r.inFlight = some ⟨tag, kind⟩) (accepts : r.kind.accepts v = true) :
    usable { r with sinceCall := 0 } (.echo tag v fault) = true := by
  simp [usable, flying, accepts]

/-- An ECHO with another tag is not usable (R135). -/
theorem not_usable_echo {tag sent : BitVec 3} {kind : InFlightKind} (v : Int) (fault : Bool)
    (flying : r.inFlight = some ⟨sent, kind⟩) (other : tag ≠ sent) :
    usable { r with sinceCall := 0 } (.echo tag v fault) = false := by
  simp [usable, flying, Ne.symm other]

/-- Settles O31. -/
theorem echoEndsTheInFlightSet : Obligations.EchoEndsTheInFlightSet := by
  unfold Obligations.EchoEndsTheInFlightSet
  intro s k r due acts held settled announces
  have record (o : SlotOutcome) : (slotEnd k o s).cgu.actuators.get k
      = some (settledRecord s (slotAnswered (num s.tbu.active.bus.missLimit) r o).1) :=
    (slotEnd_actuator k o due).trans (recordAndHandOver_actuators o acts held).1
  refine ⟨fun tag sent v w fault id ends flying accepts => ?_,
    fun tag v fault code id ends flying accepts => ?_, fun v fault ends accepts => ?_⟩
  · refine ⟨_, _, exec_slotEnd ends, record _, fun same done => ?_, fun same other => ?_,
      fun other link few => ?_⟩
    · subst same done
      have answered : slotAnswered (num s.tbu.active.bus.missLimit) r (.good (.echo tag v fault))
          = ({ r with
              delivered := some v, inFlight := none, link := .online, miss := 0, sinceCall := 0 },
            answerPosts { r with sinceCall := 0 } (.echo tag v fault)) := by
        rw [slotAnswered_of_usable _ (usable_echo fault flying accepts), goodAnswer_eq]
        simp [Machine.answered, echoed, flying]
      refine ⟨by rw [answered]; rfl, fun x done more below enabled room sole => ?_⟩
      exact slotEnd_settledPost (own := []) acts held answered rfl rfl nofun
        (answerPosts_length ..) done more below enabled room sole
    · subst same
      have answered : slotAnswered (num s.tbu.active.bus.missLimit) r (.good (.echo tag v fault))
          = ({ r with
              delivered := some v, inFlight := none, link := .online, miss := 0, sinceCall := 0
              target := none, latestSet := none },
            (r.latestSet.map (Notice.commandOutcome r.node · .failed)).toList
              ++ answerPosts { r with sinceCall := 0 } (.echo tag v fault)) := by
        rw [slotAnswered_of_usable _ (usable_echo fault flying accepts), goodAnswer_eq]
        cases latest : r.latestSet <;> simp [Machine.answered, echoed, flying, other]
      refine ⟨by rw [answered]; simp [settledRecord], fun x owed more below enabled room sole => ?_⟩
      refine slotEnd_firstPost (extra := answerPosts { r with sinceCall := 0 } (.echo tag v fault))
        acts held answered (by simp [owed]) (fun m mem => key_of_mem_answerPosts mem) ?_ more below
        enabled room sole
      simp [settledSet]
    · have answered : slotAnswered (num s.tbu.active.bus.missLimit) r (.good (.echo tag v fault))
          = ({ r with miss := r.miss + 1, link := .suspect, sinceCall := 0 }, []) := by
        rw [slotAnswered_of_not_usable _ (not_usable_echo v fault flying other)]
        exact missed_of_few (r := { r with sinceCall := 0 }) link few
      have unsettled : settledSet s { r with miss := r.miss + 1, link := .suspect, sinceCall := 0 }
          = none := settledSet_of_setInFlight (by simp [ActuatorRecord.setInFlight, flying])
      rw [answered, settledRecord, unsettled]
      rfl
  · have answered : slotAnswered (num s.tbu.active.bus.missLimit) r (.good (.echo tag v fault))
        = ({ r with
            delivered := some v, inFlight := none, link := .online, miss := 0, sinceCall := 0 },
          [.commandOutcome r.node id .done]
            ++ answerPosts { r with sinceCall := 0 } (.echo tag v fault)) := by
      rw [slotAnswered_of_usable _ (usable_echo fault flying accepts), goodAnswer_eq]
      simp [Machine.answered, echoed, flying]
    refine ⟨_, exec_slotEnd ends, by rw [record, answered]; rfl,
      fun unsettled more below enabled room sole => ?_,
      fun x done more below enabled room sole => ?_⟩
    · exact slotEnd_firstPost acts held answered rfl (fun m mem => key_of_mem_answerPosts mem)
        unsettled more below enabled room sole
    · exact slotEnd_settledPost acts held answered rfl rfl
        (fun m mem => by rw [List.mem_singleton.mp mem]; rfl) (answerPosts_length ..) done more
        below enabled room sole
  · have answered : slotAnswered (num s.tbu.active.bus.missLimit) r (.good (.status v fault))
        = ({ r with delivered := some v, link := .online, miss := 0, sinceCall := 0 },
          answerPosts { r with sinceCall := 0 } (.status v fault)) := by
      rw [slotAnswered_of_usable _ (by simpa [usable] using accepts), goodAnswer_eq]
      simp [Machine.answered]
    refine ⟨_, exec_slotEnd ends, by rw [record, answered]; rfl,
      fun x done more below enabled room sole => ?_⟩
    exact slotEnd_settledPost (own := []) acts held answered rfl rfl nofun
      (answerPosts_length ..) done more below enabled room sole

end Sys2Proof.Machine

/-! PROOFS. Cycle close, block by block: what the close work leaves of one block's part is what that
block's own steps make of it (R23, R45). -/

namespace Sys2Proof.Machine

open Sys2Proof

variable {t : Tables} {s u v : State} {k j : Fin 48} {o : SlotOutcome} {z y : Fin 16} {a : Fin 64}

/-! ## One member of a list moves a part of the state -/

section
variable {α ι : Type} (part : State → α)

/-- Steps that leave a part of the state, run in turn. -/
theorem runSteps_part {steps : List (State → State)} (each : ∀ f ∈ steps, ∀ s, part (f s) = part s)
    (s : State) : part (runSteps steps s) = part s :=
  runSteps_keeps (fun s u => part u = part s) (fun _ => rfl) (fun _ _ _ h g => g.trans h) steps each s

/-- Where one member of a list alone moves a part of the state, that part is in the end what the
member's steps have made of it. -/
theorem runSteps_flatMap_part {l : List ι} {i : ι} {steps : ι → List (State → State)} (nodup : l.Nodup)
    (mem : i ∈ l) (others : ∀ j ∈ l, j ≠ i → ∀ f ∈ steps j, ∀ s, part (f s) = part s) (s : State) :
    ∃ w, part w = part s ∧ part (runSteps (l.flatMap steps) s) = part (runSteps (steps i) w) := by
  obtain ⟨l1, l2, rfl⟩ := List.append_of_mem mem
  obtain ⟨-, notIn2, notIn1⟩ : l1.Nodup ∧ i ∉ l2 ∧ i ∉ l1 := by
    simp only [List.nodup_append, List.nodup_cons] at nodup
    exact ⟨nodup.1, nodup.2.1.1, fun h => nodup.2.2 i h i (by simp) rfl⟩
  have apart (m : List ι) (sub : ∀ j ∈ m, j ∈ l1 ++ i :: l2) (notIn : i ∉ m) (s : State) :
      part (runSteps (m.flatMap steps) s) = part s := by
    refine runSteps_part part (fun f hf => ?_) s
    obtain ⟨j, hj, hf⟩ := List.mem_flatMap.mp hf
    exact others j (sub j hj) (fun same => notIn (same ▸ hj)) f hf
  refine ⟨runSteps (l1.flatMap steps) s, apart l1 (by simp +contextual) notIn1 s, ?_⟩
  rw [List.flatMap_append, List.flatMap_cons, runSteps_append, runSteps_append]
  exact apart l2 (by simp +contextual) notIn2 _

/-- Where one member of a list alone moves a part of the state, a fold over the list makes of it what
the member does. -/
theorem foldl_part {l : List ι} {i : ι} {work : State → ι → State} (nodup : l.Nodup) (mem : i ∈ l)
    (others : ∀ j ∈ l, j ≠ i → ∀ s, part (work s j) = part s) (s : State) :
    ∃ w, part w = part s ∧ part (l.foldl work s) = part (work w i) := by
  have runs := runSteps_flatMap_part part (steps := fun j => [fun s => work s j]) nodup mem
    (fun j hj other f hf => by rw [List.mem_singleton.mp hf]; exact others j hj other) s
  simpa only [runSteps, List.foldl_flatMap, List.foldl_cons, List.foldl_nil] using runs

/-- A step that takes states alike in a part to states alike in it. -/
def Respects (f : State → State) : Prop := ∀ u v, part u = part v → part (f u) = part (f v)

/-- Steps that respect a part of the state, run in turn. -/
theorem runSteps_respects {steps : List (State → State)} (each : ∀ f ∈ steps, Respects part f) :
    Respects part (runSteps steps) := by
  induction steps with
  | nil => exact fun _ _ => id
  | cons f fs ih =>
    exact fun u v same =>
      ih (fun g hg => each g (by simp [hg])) _ _ (each f (by simp) u v same)

end

/-! ## The close work by its blocks -/

/-- The state in which the close work of the blocks begins (R23). -/
def closeStart (s : State) : State := xsuClose s.tbu.active (s.setFlc s.flc.closed)

@[simp] theorem closeStart_frame (s : State) :
    (closeStart s).tbu = s.tbu ∧ (closeStart s).cmu = s.cmu ∧ (closeStart s).dau = s.dau
      ∧ (closeStart s).zcu = s.zcu ∧ (closeStart s).cgu = s.cgu ∧ (closeStart s).bli = s.bli
      ∧ (closeStart s).nvs = s.nvs ∧ (closeStart s).schedule = s.schedule
      ∧ (closeStart s).flc = s.flc.closed :=
  ⟨rfl, rfl, rfl, rfl, rfl, rfl, rfl, rfl, rfl⟩

/-- A close that swaps nothing, from the start of the blocks' work (R23). -/
theorem cycleClose_eq_runSteps (due : s.swapDue = false) :
    cycleClose s = runSteps (closeSteps s.tbu.active (closeStart s)) (closeStart s) :=
  cycleClose_of_not_swapDue due

section
variable {α : Type} (part : State → α) {b : Block}

/-- Where one block's close work alone moves a part of the state, the close work of all leaves that
part as the block's own does (R23). -/
theorem closeSteps_part (mem : b ∈ closeBlocks) {s0 : State}
    (others : ∀ c, c ≠ b → ∀ f ∈ closeWorkSteps t s0 c, ∀ s, part (f s) = part s) (s : State) :
    ∃ w, part w = part s
      ∧ part (runSteps (closeSteps t s0) s) = part (runSteps (closeWorkSteps t s0 b) w) :=
  runSteps_flatMap_part part (closeOrder_nodup s0.order) (mem_completeOrder.mpr mem)
    (fun c _ other => others c other) s

/-- The same at a close that swaps nothing (R23). -/
theorem cycleClose_part (due : s.swapDue = false) (mem : b ∈ closeBlocks)
    (others : ∀ c, c ≠ b → ∀ f ∈ closeWorkSteps s.tbu.active (closeStart s) c, ∀ s,
      part (f s) = part s) :
    ∃ w, part w = part (closeStart s) ∧ part (cycleClose s)
      = part (runSteps (closeWorkSteps s.tbu.active (closeStart s) b) w) := by
  rw [cycleClose_eq_runSteps due]
  exact closeSteps_part part mem others _

/-- The same of the close work before a swap, where the staged copy becomes active between two steps
(R23, R44). -/
theorem closeWorkDone_part (s : State) (mem : b ∈ closeBlocks)
    (others : ∀ c, c ≠ b → ∀ f ∈ closeWorkSteps s.tbu.active (closeStart s) c, ∀ s,
      part (f s) = part s)
    (respects : ∀ f ∈ closeWorkSteps s.tbu.active (closeStart s) b, Respects part f)
    (active : ∀ s, part (activate s) = part s) :
    ∃ w, part w = part (closeStart s) ∧ part (closeWorkDone s)
      = part (runSteps (closeWorkSteps s.tbu.active (closeStart s) b) w) := by
  have each : ∀ f ∈ closeSteps s.tbu.active (closeStart s), Respects part f := fun f hf => by
    obtain ⟨c, -, hf⟩ := List.mem_flatMap.mp hf
    by_cases same : c = b
    · subst same; exact respects f hf
    · intro u v alike
      rw [others c same f hf, others c same f hf, alike]
  obtain ⟨w, before, after⟩ := closeSteps_part part (t := s.tbu.active) mem others (closeStart s)
  refine ⟨w, before, Eq.trans ?_ after⟩
  let steps := closeSteps s.tbu.active (closeStart s)
  let n := s.order.swapAt.getD steps.length
  change part (runSteps (steps.drop n) (activate (runSteps (steps.take n) (closeStart s))))
    = part (runSteps steps (closeStart s))
  have split : runSteps steps (closeStart s)
      = runSteps (steps.drop n) (runSteps (steps.take n) (closeStart s)) := by
    rw [← runSteps_append, List.take_append_drop]
  rw [split]
  exact runSteps_respects part (fun f hf => each f (List.mem_of_mem_drop hf)) _ _ (active _)

end

/-! ## What each block's work leaves of the others -/

section
variable {b : Block} {s0 : State} {f : State → State}

/-- The DAU's steps. -/
theorem mem_closeWorkSteps_dau : f ∈ closeWorkSteps t s0 .dau ↔
    (∃ a ∈ t.enabledAccounts,
      f ∈ accrueSteps t s0.cmu.sensors (s0.dau.accounts.get a).state a)
      ∨ f = watchClose t ∨ f = checkpointClose t := by
  simp [closeWorkSteps, dauCloseSteps]

/-- The ZCU's steps. -/
theorem mem_closeWorkSteps_zcu : f ∈ closeWorkSteps t s0 .zcu ↔
    f = combineZones t ∨ ∃ z ∈ t.enabledZones, f = recompute t z := by
  simp [closeWorkSteps, zcuCloseSteps, eq_comm]

/-- The CMU's steps. -/
theorem mem_closeWorkSteps_cmu : f ∈ closeWorkSteps t s0 .cmu ↔
    f = ageSensors t ∨ (∃ k ∈ staleSlots t s0.cmu, f = post (.sensorHealth k .stale))
      ∨ ∃ z ∈ t.enabledZones, ∃ q ∈ CondQ.all,
        f ∈ refreshSteps s0.order.reportFirst t z q (s0.cmu.cond z q) := by
  simp [closeWorkSteps, cmuCloseSteps, refreshAllSteps, eq_comm]

/-- A step that announces a changed entry. -/
theorem mem_announceSteps {first : Bool} {q : CondQ} {old : ZoneCond} :
    f ∈ announceSteps first t z q old ↔ f = tellStatistics z q old ∨ f = tellBoard t z q old := by
  unfold announceSteps
  split <;> simp [or_comm]

/-- A step that recomputes an entry. -/
theorem mem_refreshSteps {first : Bool} {q : CondQ} {old : ZoneCond} :
    f ∈ refreshSteps first t z q old ↔
      f = (fun s => changeEntry t z q old (entryAfter t s.cmu z q old) s)
        ∨ f = tellStatistics z q old ∨ f = tellBoard t z q old := by
  rw [refreshSteps, List.mem_cons, mem_announceSteps]

/-- A step of one account's accrual. -/
theorem mem_accrueSteps {health : Tab (Option SensorRecord) 48} {was : AccountState} :
    f ∈ accrueSteps t health was a ↔
      f = (fun s => storeAccount a ((s.dau.accounts.get a).accrued t health a) s)
        ∨ f = tellZone t a was ∨ f = tellState a was := by
  simp [accrueSteps]

/-- Only the DAU's close work moves the DAU. -/
theorem closeWorkSteps_dau (other : b ≠ .dau) (hf : f ∈ closeWorkSteps t s0 b) (s : State) :
    (f s).dau = s.dau := by
  cases b with
  | dau => exact absurd rfl other
  | zcu => rcases mem_closeWorkSteps_zcu.mp hf with rfl | ⟨z, -, rfl⟩ <;> simp
  | cmu =>
    rcases mem_closeWorkSteps_cmu.mp hf with rfl | ⟨k, -, rfl⟩ | ⟨z, -, q, -, hf⟩
    · simp
    · simp
    · rcases mem_refreshSteps.mp hf with rfl | rfl | rfl <;> simp
  | bli => rw [List.mem_singleton.mp hf]; simp
  | xsu | tbu | cgu => cases hf

/-- Only the CMU's close work moves the CMU, and the XSU once its own is done. -/
theorem closeWorkSteps_cmu (other : b ≠ .cmu) (hf : f ∈ closeWorkSteps t s0 b) (s : State) :
    (f s).cmu = s.cmu ∧ (f s).xsu = s.xsu := by
  cases b with
  | cmu => exact absurd rfl other
  | dau =>
    rcases mem_closeWorkSteps_dau.mp hf with ⟨a, -, hf⟩ | rfl | rfl
    · rcases mem_accrueSteps.mp hf with rfl | rfl | rfl <;> simp
    · simp
    · simp
  | zcu => rcases mem_closeWorkSteps_zcu.mp hf with rfl | ⟨z, -, rfl⟩ <;> simp
  | bli => rw [List.mem_singleton.mp hf]; simp
  | xsu | tbu | cgu => cases hf

/-! ## The parts of the zones that no recomputation moves -/

/-- Presence, count and hold of a zone record. -/
def ZoneDyn.timed (r : ZoneDyn) : Presence × Nat × Option Nat := (r.presence, r.count, r.hold)

/-- The vacant-seen flags, and what of each zone a recomputation leaves. -/
def State.presences (s : State) : Tab Bool 48 × (Fin 16 → Presence × Nat × Option Nat) :=
  (s.zcu.vacantSeen, fun z => (s.zcu.zones.get z).timed)

theorem State.presences_of_zcu (same : u.zcu = s.zcu) : u.presences = s.presences := by
  rw [State.presences, State.presences, same]

/-- A recomputation moves the ceiling and its reason alone (R115, R117). -/
theorem recompute_presences (t : Tables) (z : Fin 16) (s : State) :
    (recompute t z s).presences = s.presences := by
  rw [State.presences, State.presences, recompute_zcu]
  refine Prod.ext rfl (funext fun y => ?_)
  simp only [Zcu.setZone, Tab.get_set]
  split
  · next same =>
    subst same
    split <;> rfl
  · rfl

/-- Telling the ZCU of an account moves ceilings alone (R86). -/
theorem tellZone_presences (t : Tables) (a : Fin 64) (was : AccountState) (s : State) :
    (tellZone t a was s).presences = s.presences := by
  unfold tellZone
  split
  · rfl
  · split
    · exact recompute_presences ..
    · rfl

/-- Only the ZCU's close work moves presences, counts, holds and flags. -/
theorem closeWorkSteps_presences (other : b ≠ .zcu) (hf : f ∈ closeWorkSteps t s0 b) (s : State) :
    (f s).presences = s.presences := by
  cases b with
  | zcu => exact absurd rfl other
  | dau =>
    rcases mem_closeWorkSteps_dau.mp hf with ⟨a, -, hf⟩ | rfl | rfl
    · rcases mem_accrueSteps.mp hf with rfl | rfl | rfl
      · exact State.presences_of_zcu (by simp)
      · exact tellZone_presences ..
      · exact State.presences_of_zcu (by simp)
    · exact State.presences_of_zcu (by simp)
    · exact State.presences_of_zcu (by simp)
  | cmu =>
    rcases mem_closeWorkSteps_cmu.mp hf with rfl | ⟨k, -, rfl⟩ | ⟨z, -, q, -, hf⟩
    · exact State.presences_of_zcu (by simp)
    · exact State.presences_of_zcu (by simp)
    · rcases mem_refreshSteps.mp hf with rfl | rfl | rfl <;>
        exact State.presences_of_zcu (by simp)
  | bli => rw [List.mem_singleton.mp hf]; exact State.presences_of_zcu (by simp)
  | xsu | tbu | cgu => cases hf

end

/-! ## Presences after a close -/

/-- What the ZCU's own close work makes of presences, counts, holds and flags (R110, R114). -/
theorem zcuClose_presences (s0 w : State) : (runSteps (closeWorkSteps t s0 .zcu) w).presences
    = (Tab.fill 48 false, fun z => ((w.zcu.zones.get z).afterClose t w.zcu z).timed) := by
  change (runSteps (t.enabledZones.map (recompute t)) (combineZones t w)).presences = _
  rw [runSteps_part State.presences (fun f hf => ?_)]
  · refine Prod.ext rfl (funext fun z => ?_)
    simp [State.presences, combineZones]
  · obtain ⟨z, -, rfl⟩ := List.mem_map.mp hf
    exact recompute_presences t z

/-- A zone's presence, count and hold after a close rest on those before it and on the flags (R110,
R114). -/
theorem ZoneDyn.timed_afterClose {c d : Zcu} {r r' : ZoneDyn} (flags : c.vacantSeen = d.vacantSeen)
    (same : r.timed = r'.timed) :
    (r.afterClose t c z).timed = (r'.afterClose t d z).timed := by
  simp only [ZoneDyn.timed, Prod.mk.injEq] at same
  obtain ⟨presence, count, hold⟩ := same
  unfold ZoneDyn.afterClose
  split
  · simp [ZoneDyn.timed, ZoneDyn.combined, allVacant, flags, count, hold]
  · simp [ZoneDyn.timed, presence, count, hold]

/-- A step's presences rest on the presences before it (R110, R114). -/
theorem zcuClose_respects {s0 : State} {f : State → State} (hf : f ∈ closeWorkSteps t s0 .zcu) :
    Respects State.presences f := by
  intro u v same
  rcases mem_closeWorkSteps_zcu.mp hf with rfl | ⟨z, -, rfl⟩
  · have flags : u.zcu.vacantSeen = v.zcu.vacantSeen := congrArg Prod.fst same
    have zones (z : Fin 16) : (u.zcu.zones.get z).timed = (v.zcu.zones.get z).timed :=
      congrFun (congrArg Prod.snd same) z
    refine Prod.ext rfl (funext fun z => ?_)
    simpa [State.presences, combineZones] using ZoneDyn.timed_afterClose flags (zones z)
  · rw [recompute_presences, recompute_presences, same]

/-- Presences, counts, holds and flags after a close are those the ZCU's work makes of them. -/
theorem presences_of_part {w : State} (before : w.presences = (closeStart s).presences)
    (after : u.presences
      = (runSteps (closeWorkSteps s.tbu.active (closeStart s) .zcu) w).presences) :
    u.zcu.vacantSeen = Tab.fill 48 false
      ∧ ∀ z, (u.zcu.zones.get z).timed
        = ((s.zcu.zones.get z).afterClose s.tbu.active s.zcu z).timed := by
  rw [zcuClose_presences] at after
  refine ⟨congrArg Prod.fst after, fun z => (congrFun (congrArg Prod.snd after) z).trans ?_⟩
  exact ZoneDyn.timed_afterClose (congrArg Prod.fst before) (congrFun (congrArg Prod.snd before) z)

/-- The zones after a close that swaps nothing (R110, R114). -/
theorem cycleClose_presences (due : s.swapDue = false) :
    (cycleClose s).zcu.vacantSeen = Tab.fill 48 false
      ∧ ∀ z, ((cycleClose s).zcu.zones.get z).timed
        = ((s.zcu.zones.get z).afterClose s.tbu.active s.zcu z).timed := by
  obtain ⟨w, before, after⟩ := cycleClose_part State.presences due (b := .zcu) (by decide)
    (fun c other f hf => closeWorkSteps_presences other hf)
  exact presences_of_part before after

/-- The zones after the close work before a swap (R110, R114). -/
theorem closeWorkDone_presences (s : State) :
    (closeWorkDone s).zcu.vacantSeen = Tab.fill 48 false
      ∧ ∀ z, ((closeWorkDone s).zcu.zones.get z).timed
        = ((s.zcu.zones.get z).afterClose s.tbu.active s.zcu z).timed := by
  obtain ⟨w, before, after⟩ := closeWorkDone_part State.presences s (b := .zcu) (by decide)
    (fun c other f hf => closeWorkSteps_presences other hf) (fun f hf => zcuClose_respects hf)
    (fun s => State.presences_of_zcu (by simp))
  exact presences_of_part before after

/-! ## Settles O27 -/

/-- The last slot's end closes the cycle (R20, R23). -/
theorem slotEnd_closed (o : SlotOutcome) (last : s.flc.Last k) :
    (slotEnd k o s).flc.state = .closed := by
  rw [slotEnd_of_last o last]
  simp [Flc.closed]

/-- The slot end of a row at a cycle's last slot (assumption log 3). -/
theorem slotEndWhen_atClose {test : State → Bool} (ends : s.flc.Ends k o) (last : s.flc.Last k)
    (reached : test (recordAndHandOver k o s) = true) :
    slotEndWhen (atClose test) s = finish (cycleClose (recordAndHandOver k o s)) := by
  rw [slotEndWhen_of_reached ends (by simp [atClose, Flc.nextSlot_of_last last, reached]),
    slotEnd_of_last o last]

/-- A zone record after a close, by its parts (R110, R114). -/
theorem ZoneDyn.afterClose_eq {c : Zcu} (enabled : t.zoneEnabled z = true) (r : ZoneDyn) :
    r.afterClose t c z = { r.combined (num (t.zoneRec z).vacancyHold) (allVacant t c z) with
      hold := holdAfter (num t.bus.cycleInterval) r.hold } := by
  rw [ZoneDyn.afterClose, if_pos enabled]
  rfl

/-- Settles O27. -/
theorem vacancyAndHoldEndAtClose : Obligations.VacancyAndHoldEndAtClose := by
  unfold Obligations.VacancyAndHoldEndAtClose
  intro s k o z ends last due enabled s1 r
  have active : s1.tbu = s.tbu := by simp [s1]
  have due1 : s1.swapDue = false := by rw [swapDue_recordAndHandOver]; exact due
  obtain ⟨flags, zones⟩ := cycleClose_presences due1
  have after : (s1.zcu.zones.get z).afterClose s1.tbu.active s1.zcu z
      = { r.combined (num (s.tbu.active.zoneRec z).vacancyHold) (allVacant s.tbu.active s1.zcu z) with
          hold := holdAfter (num s.tbu.active.bus.cycleInterval) r.hold } := by
    rw [active, ZoneDyn.afterClose_eq enabled]
  have timed := zones z
  rw [after] at timed
  simp only [ZoneDyn.timed, Prod.mk.injEq] at timed
  obtain ⟨presence, count, hold⟩ := timed
  have closed : (finish (cycleClose s1)).flc.state = .closed := by simp [Flc.closed]
  refine ⟨fun occupied some_ votes reached => ?_, fun h held short => ?_⟩
  · have vacant : allVacant s.tbu.active s1.zcu z = true := by
      simpa [allVacant, some_] using votes
    have present : presenceOf (min (r.count + 1) 255) (num (s.tbu.active.zoneRec z).vacancyHold)
        = .vacant := by
      rw [presenceOf, if_neg (by omega), if_pos reached]
    rw [vacant] at presence count
    have now : reachesVacant z s1 = true := by
      rw [reachesVacant, zoneAfterClose, after, vacant]
      simp only [ZoneDyn.combined, if_true, saturate, Config.vacantCountMax] at *
      simp [present, occupied, r]
    refine ⟨_, congrArg Host.Outcome.next (slotEndWhen_atClose ends last now), closed,
      presence.trans ?_, count.trans ?_, fun j => ?_⟩
    · exact present
    · rfl
    · change (cycleClose s1).zcu.vacantSeen.get j = false
      rw [flags]; simp
  · have ended : holdAfter (num s.tbu.active.bus.cycleInterval) r.hold = none := by
      rw [held]; exact if_pos short
    have now : reachesHoldEnd z s1 = true := by
      rw [reachesHoldEnd, zoneAfterClose, after]
      simp [show (s1.zcu.zones.get z).hold = some h from held, ended]
    exact ⟨_, congrArg Host.Outcome.next (slotEndWhen_atClose ends last now), closed,
      hold.trans ended⟩

end Sys2Proof.Machine

/-! PROOFS. The Dose Account Unit at a cycle close: accrual, the date watch and the checkpoint (R82,
R83, R91, R100); and the actuator that a slot's end loses (R141). -/

namespace Sys2Proof.Machine

open Sys2Proof

variable {t : Tables} {s u v : State} {k j : Fin 48} {o : SlotOutcome} {a b : Fin 64}

/-! ## One account at a close (R83) -/

/-- An account's record. -/
def State.account (a : Fin 64) (s : State) : AccountDyn := s.dau.accounts.get a

theorem State.account_of_dau (same : u.dau = s.dau) : u.account a = s.account a := by
  rw [State.account, State.account, same]

theorem storeAccount_account (r : AccountDyn) (s : State) : (storeAccount a r s).account a = r := by
  simp [State.account, storeAccount, Dau.setAccount]

theorem storeAccount_account_ne (other : b ≠ a) (r : AccountDyn) (s : State) :
    (storeAccount b r s).account a = s.account a := by
  simp [State.account, storeAccount, Dau.setAccount, Tab.get_set_ne _ _ other.symm]

theorem tellZone_account (t : Tables) (b : Fin 64) (was : AccountState) (s : State) :
    (tellZone t b was s).account a = s.account a := State.account_of_dau (by simp)

theorem tellState_account (b : Fin 64) (was : AccountState) (s : State) :
    (tellState b was s).account a = s.account a := State.account_of_dau (by simp)

theorem watchClose_account (t : Tables) (s : State) : (watchClose t s).account a = s.account a := by
  simp only [watchClose]
  split <;> simp [State.account]

theorem checkpointClose_account (t : Tables) (s : State) :
    (checkpointClose t s).account a = s.account a := by
  simp only [checkpointClose]
  split <;> simp [State.account]

/-- A step of another account's accrual. -/
theorem accrueSteps_account_ne (other : b ≠ a) {health : Tab (Option SensorRecord) 48}
    {was : AccountState} {f : State → State} (hf : f ∈ accrueSteps t health was b) (s : State) :
    (f s).account a = s.account a := by
  rcases mem_accrueSteps.mp hf with rfl | rfl | rfl
  · exact storeAccount_account_ne other _ s
  · exact tellZone_account ..
  · exact tellState_account ..

/-- A step of the DAU's close work takes an account's record to one that rests on it alone. -/
theorem dauClose_respects {s0 : State} {f : State → State} (hf : f ∈ closeWorkSteps t s0 .dau) :
    Respects (State.account a) f := by
  intro u v same
  rcases mem_closeWorkSteps_dau.mp hf with ⟨b, -, hf⟩ | rfl | rfl
  · by_cases here : b = a
    · subst here
      rcases mem_accrueSteps.mp hf with rfl | rfl | rfl
      · rw [storeAccount_account, storeAccount_account]
        exact congrArg (AccountDyn.accrued t s0.cmu.sensors b) same
      · rw [tellZone_account, tellZone_account, same]
      · rw [tellState_account, tellState_account, same]
    · rw [accrueSteps_account_ne here hf, accrueSteps_account_ne here hf, same]
  · rw [watchClose_account, watchClose_account, same]
  · rw [checkpointClose_account, checkpointClose_account, same]

/-- What the DAU's close work makes of an account (R83). -/
theorem dauClose_account (s0 w : State) (a : Fin 64) :
    (runSteps (closeWorkSteps t s0 .dau) w).account a
      = if t.accountEnabled a then (w.account a).accrued t s0.cmu.sensors a else w.account a := by
  have rest (s : State) : (runSteps [watchClose t, checkpointClose t] s).account a = s.account a :=
    (checkpointClose_account t _).trans (watchClose_account t s)
  change (runSteps (t.enabledAccounts.flatMap _ ++ _) w).account a = _
  rw [runSteps_append, rest]
  split
  · next enabled =>
    obtain ⟨x, before, after⟩ := runSteps_flatMap_part (State.account a)
      (steps := fun a => accrueSteps t s0.cmu.sensors (s0.dau.accounts.get a).state a)
      t.enabledAccounts_nodup ((t.mem_enabledAccounts a).mpr enabled)
      (fun b _ other f hf => accrueSteps_account_ne other hf) w
    rw [after, ← before]
    change (tellState a _ (tellZone t a _ (storeAccount a _ x))).account a = _
    rw [tellState_account, tellZone_account, storeAccount_account]
    rfl
  · next disabled =>
    refine runSteps_part (State.account a) (fun f hf => ?_) w
    obtain ⟨b, mem, hf⟩ := List.mem_flatMap.mp hf
    refine accrueSteps_account_ne (fun same => disabled ?_) hf
    exact (t.mem_enabledAccounts a).mp (same ▸ mem)

/-- An account after a close that swaps nothing (R83). -/
theorem cycleClose_account (due : s.swapDue = false) (a : Fin 64) :
    (cycleClose s).dau.accounts.get a
      = if s.tbu.active.accountEnabled a then
          (s.dau.accounts.get a).accrued s.tbu.active s.cmu.sensors a
        else s.dau.accounts.get a := by
  obtain ⟨w, before, after⟩ := cycleClose_part (State.account a) due (b := .dau) (by decide)
    (fun c other f hf s => State.account_of_dau (closeWorkSteps_dau other hf s))
  rw [dauClose_account, before] at after
  exact after

/-- An account after the close work before a swap (R83, R45). -/
theorem closeWorkDone_account (s : State) (a : Fin 64) :
    (closeWorkDone s).dau.accounts.get a
      = if s.tbu.active.accountEnabled a then
          (s.dau.accounts.get a).accrued s.tbu.active s.cmu.sensors a
        else s.dau.accounts.get a := by
  obtain ⟨w, before, after⟩ := closeWorkDone_part (State.account a) s (b := .dau) (by decide)
    (fun c other f hf s => State.account_of_dau (closeWorkSteps_dau other hf s))
    (fun f hf => dauClose_respects hf) (fun s => State.account_of_dau (by simp))
  rw [dauClose_account, before] at after
  exact after

/-- The cycle value where every LUX slot of an account is dark (R82). -/
theorem accountDark_eq_true_iff (t : Tables) (health : Tab (Option SensorRecord) 48) (a : Fin 64) :
    accountDark t health a = true ↔ ∀ j, (t.slots.get j).accountIndex = some a →
      ∀ x, health.get j = some x → x.health ≠ .live := by
  simp only [accountDark, Tables.luxSlots, List.all_eq_true, Tab.mem_indices, beq_iff_eq]
  refine forall_congr' fun j => imp_congr_right fun _ => ?_
  cases health.get j <;> simp

/-- The counts after an accrual (R82, R83). -/
theorem AccountDyn.accrued_counts {health : Tab (Option SensorRecord) 48} {r : AccountDyn}
    {value : Nat} (counting : r.state ≠ .suspended) (same : cycleValue t health a r = value) :
    (r.accrued t health a).usedToday
        = min (r.usedToday + value * num t.bus.cycleInterval) (2 ^ 48 - 1)
      ∧ (r.accrued t health a).usedYear
        = min (r.usedYear + value * num t.bus.cycleInterval) (2 ^ 48 - 1) := by
  simp [AccountDyn.accrued, counting, same, saturate, Config.doseMax]

/-- Settles O25. -/
theorem cycleCloseAccruesDose : Obligations.CycleCloseAccruesDose := by
  unfold Obligations.CycleCloseAccruesDose
  intro s k o a value ends last due enabled s1 r dark counting source
  have active : s1.tbu = s.tbu := by simp [s1]
  have due1 : s1.swapDue = false := by rw [swapDue_recordAndHandOver]; exact due
  have account := cycleClose_account due1 a
  rw [active, if_pos enabled] at account
  have isDark : accountDark s.tbu.active s1.cmu.sensors a = true ↔ dark :=
    accountDark_eq_true_iff ..
  have same : cycleValue s.tbu.active s1.cmu.sensors a r = value := by
    rcases source with peak | ⟨peak, dark', z, zone, rfl⟩ | ⟨peak, lit, rfl⟩
    · simp [cycleValue, peak]
    · simp [cycleValue, peak, isDark.mpr dark', tableCeiling, zone]
    · simp [cycleValue, peak, isDark.not.mpr lit]
  obtain ⟨today, year⟩ := AccountDyn.accrued_counts counting same
  obtain ⟨revision, extension, peak⟩ := AccountDyn.accrued_keeps s.tbu.active s1.cmu.sensors a r
  refine ⟨finish (cycleClose s1), (exec_slotEnd ends).trans (by rw [slotEnd_of_last o last]), ?_⟩
  change ((cycleClose s1).dau.accounts.get a).usedToday = _
    ∧ ((cycleClose s1).dau.accounts.get a).usedYear = _
    ∧ ((cycleClose s1).dau.accounts.get a).peak = _
    ∧ ((cycleClose s1).dau.accounts.get a).revision = _
    ∧ ((cycleClose s1).dau.accounts.get a).extension = _
  rw [account]
  exact ⟨today, year, peak, revision, extension⟩

/-! ## The date watch and the checkpoint (R91, R100) -/

/-- The ledger date, the date watch and the checkpoint counter of the DAU. -/
def Dau.dates (d : Dau) : Option Date × Nat × Bool × Nat :=
  (d.ledger, d.dateWatch, d.dateStale, d.checkpointCounter)

/-- The dates after a close of C seconds (R91, R100). -/
def Dau.datesClosed (t : Tables) (d : Dau) : Option Date × Nat × Bool × Nat :=
  let w := min (d.dateWatch + num t.bus.cycleInterval) 93600
  let c := d.checkpointCounter + num t.bus.cycleInterval
  (d.ledger, w, d.dateStale || w == 93600, if num t.bus.checkpoint ≤ c then 0 else c)

theorem Dau.datesClosed_congr {d e : Dau} (same : d.dates = e.dates) (t : Tables) :
    d.datesClosed t = e.datesClosed t := by
  simp only [Dau.dates, Prod.mk.injEq] at same
  obtain ⟨ledger, watch, stale, counter⟩ := same
  rw [Dau.datesClosed, Dau.datesClosed, ledger, watch, stale, counter]

/-- The date watch reaches its limit (R91). -/
theorem watchClose_of_reached (fresh : s.dau.dateStale = false)
    (reached : 93600 ≤ s.dau.dateWatch + num t.bus.cycleInterval) :
    watchClose t s = post (.clock .stale)
      { s with dau := { s.dau with dateWatch := 93600, dateStale := true } } := by
  have limit : saturate Config.dateWatchLimit (s.dau.dateWatch + num t.bus.cycleInterval)
      = 93600 := min_eq_right reached
  unfold watchClose
  rw [limit]
  exact if_pos ⟨rfl, fresh⟩

/-- The date watch does not reach its limit, or has reached it before (R91). -/
theorem watchClose_of_not_reached
    (h : s.dau.dateStale = true ∨ s.dau.dateWatch + num t.bus.cycleInterval < 93600) :
    watchClose t s = s.setDau
      { s.dau with dateWatch := min (s.dau.dateWatch + num t.bus.cycleInterval) 93600 } := by
  refine if_neg fun both => ?_
  obtain ⟨limit, fresh⟩ := both
  rcases h with stale | below
  · rw [fresh] at stale; cases stale
  · have short := min_eq_left (a := s.dau.dateWatch + num t.bus.cycleInterval) below.le
    exact below.ne (short.symm.trans limit)

/-- The dates after the date watch's work (R91). -/
theorem watchClose_dates (t : Tables) (s : State) : (watchClose t s).dau.dates
    = (s.dau.ledger, min (s.dau.dateWatch + num t.bus.cycleInterval) 93600,
      s.dau.dateStale || min (s.dau.dateWatch + num t.bus.cycleInterval) 93600 == 93600,
      s.dau.checkpointCounter) := by
  cases stale : s.dau.dateStale with
  | true => simp [watchClose_of_not_reached (.inl stale), Dau.dates, stale]
  | false =>
    by_cases reached : 93600 ≤ s.dau.dateWatch + num t.bus.cycleInterval
    · simp [watchClose_of_reached stale reached, Dau.dates, min_eq_right reached]
    · have below : min (s.dau.dateWatch + num t.bus.cycleInterval) 93600 ≠ 93600 := by omega
      simp [watchClose_of_not_reached (.inr (Nat.not_le.mp reached)), Dau.dates, stale, below]

/-- The dates after the checkpoint's work (R100). -/
theorem checkpointClose_dates (t : Tables) (s : State) : (checkpointClose t s).dau.dates
    = (s.dau.ledger, s.dau.dateWatch, s.dau.dateStale,
      if num t.bus.checkpoint ≤ s.dau.checkpointCounter + num t.bus.cycleInterval then 0
      else s.dau.checkpointCounter + num t.bus.cycleInterval) := by
  simp only [checkpointClose]
  by_cases reached : num t.bus.checkpoint ≤ s.dau.checkpointCounter + num t.bus.cycleInterval
  · simp [if_pos reached, Dau.dates]
  · simp [if_neg reached, Dau.dates]

/-- The dates after the date watch's and the checkpoint's work (R91, R100). -/
theorem closes_dates (t : Tables) (s : State) :
    (checkpointClose t (watchClose t s)).dau.dates = s.dau.datesClosed t := by
  have watched := watchClose_dates t s
  simp only [Dau.dates, Prod.mk.injEq] at watched
  obtain ⟨ledger, watch, stale, counter⟩ := watched
  rw [checkpointClose_dates, ledger, watch, stale, counter]
  rfl

/-- An accrual's steps leave the dates (R83). -/
theorem accrueSteps_dates {health : Tab (Option SensorRecord) 48} {was : AccountState}
    {f : State → State} (hf : f ∈ accrueSteps t health was b) (s : State) :
    (f s).dau.dates = s.dau.dates := by
  rcases mem_accrueSteps.mp hf with rfl | rfl | rfl
  · rfl
  · rw [show (tellZone t b was s).dau = s.dau by simp]
  · rw [show (tellState b was s).dau = s.dau by simp]

/-- A step of the DAU's close work takes dates to dates that rest on them alone. -/
theorem dauClose_respects_dates {s0 : State} {f : State → State}
    (hf : f ∈ closeWorkSteps t s0 .dau) : Respects (·.dau.dates) f := by
  intro u v same
  have alike := same
  simp only [Dau.dates, Prod.mk.injEq] at alike
  obtain ⟨ledger, watch, stale, counter⟩ := alike
  rcases mem_closeWorkSteps_dau.mp hf with ⟨b, -, hf⟩ | rfl | rfl
  · exact (accrueSteps_dates hf u).trans (same.trans (accrueSteps_dates hf v).symm)
  · simp only [watchClose_dates, ledger, watch, stale, counter]
  · simp only [checkpointClose_dates, ledger, watch, stale, counter]

/-- What the DAU's close work makes of the dates (R91, R100). -/
theorem dauClose_dates (s0 w : State) :
    (runSteps (closeWorkSteps t s0 .dau) w).dau.dates = w.dau.datesClosed t := by
  change (runSteps (t.enabledAccounts.flatMap _ ++ _) w).dau.dates = _
  rw [runSteps_append]
  refine (closes_dates t _).trans (Dau.datesClosed_congr ?_ t)
  refine runSteps_part (·.dau.dates) (fun f hf => ?_) w
  obtain ⟨b, -, hf⟩ := List.mem_flatMap.mp hf
  exact accrueSteps_dates hf

/-- The dates after the close work before a swap (R91, R100). -/
theorem closeWorkDone_dates (s : State) :
    (closeWorkDone s).dau.dates = s.dau.datesClosed s.tbu.active := by
  obtain ⟨w, before, after⟩ := closeWorkDone_part (·.dau.dates) s (b := .dau) (by decide)
    (fun c other f hf s => congrArg Dau.dates (closeWorkSteps_dau other hf s))
    (fun f hf => dauClose_respects_dates hf)
    (fun s => congrArg Dau.dates (show (activate s).dau = s.dau by simp))
  exact after.trans ((dauClose_dates ..).trans (Dau.datesClosed_congr before _))

/-- The dates after a cycle close, with or without its swap (R91, R100, R105). -/
theorem cycleClose_dates (s : State) :
    (cycleClose s).dau.dates = s.dau.datesClosed s.tbu.active := by
  cases due : s.swapDue with
  | true =>
    rw [cycleClose_of_swapDue due, swapWorks_dau]
    exact closeWorkDone_dates s
  | false =>
    obtain ⟨w, before, after⟩ := cycleClose_part (·.dau.dates) due (b := .dau) (by decide)
      (fun c other f hf s => congrArg Dau.dates (closeWorkSteps_dau other hf s))
    exact after.trans ((dauClose_dates ..).trans (Dau.datesClosed_congr before _))

/-- A candidate for a peak leaves the dates (R81). -/
theorem peakCandidate_dates (a : Fin 64) (v : Nat) (s : State) :
    (peakCandidate a v s).dau.dates = s.dau.dates := by
  unfold peakCandidate
  dsimp only
  split <;> rfl

/-- An accepted sample leaves the dates (R57). -/
theorem acceptFurther_dates (k : Fin 48) (slot : SlotRec) (q : Quantity) (v : Int)
    (r : SensorRecord) (s : State) : (acceptFurther k slot q v r s).dau.dates = s.dau.dates := by
  unfold acceptFurther
  split
  · split
    · rw [(acceptCondition_frame ..).2.2.2.1, peakCandidate_dates]
    · rw [(acceptCondition_frame ..).2.2.2.1]
  · split <;> simp
  · simp
  · simp

/-- A slot's hand-over leaves the dates (R20). -/
theorem recordAndHandOver_dates (k : Fin 48) (o : SlotOutcome) (s : State) :
    (recordAndHandOver k o s).dau.dates = s.dau.dates := by
  simp only [recordAndHandOver, handOver]
  split
  · simp only [sensorResult, State.setBli_dau]
    split
    · simp only [handleSample]
      split
      · rfl
      · split
        · simp
        · rw [acceptFurther_dates]; simp
    · rfl
  · split <;> simp

/-! ## Marks at a checkpoint (R100, R196) -/

theorem KeepsMarks.of_nvs (same : u.nvs = s.nvs) : KeepsMarks s u :=
  ⟨fun h => by rw [same]; exact h, fun a h => by rw [same]; exact h⟩

theorem KeepsMarks.trans (h : KeepsMarks s u) (g : KeepsMarks u v) : KeepsMarks s v :=
  ⟨g.working ∘ h.working, fun a => g.marked a ∘ h.marked a⟩

/-- Marks over a list (R100). -/
theorem KeepsMarks.markAccounts (l : List (Fin 64)) (s : State) :
    KeepsMarks s (markAccounts l s) :=
  foldl_keeps KeepsMarks _ (fun _ => .of_nvs rfl) (fun _ _ _ => .trans)
    (fun s a => KeepsMarks.markAccount a s) l s

/-- A request for a configuration write loses no mark (R47, R196). -/
theorem KeepsMarks.requestConfigWrite (s : State) : KeepsMarks s (requestConfigWrite s) := by
  unfold Machine.requestConfigWrite
  split
  · exact .of_nvs (by simp)
  · next working =>
    refine ⟨fun _ => (serveStore_work (t := s.tbu.active) _).failed.not.mpr working, fun a h => ?_⟩
    exact Nvs.Marked.serveStore ⟨h.owed⟩

/-- The staged copy made active loses no mark (R44). -/
theorem KeepsMarks.activate (s : State) : KeepsMarks s (activate s) := by
  unfold Machine.activate
  dsimp only
  split
  · refine KeepsMarks.trans ?_ (.requestConfigWrite _)
    exact .of_nvs rfl
  · exact .of_nvs rfl

/-- One account's swap work loses no mark (R104). -/
theorem KeepsMarks.swapAccount (old new : Tables) (a : Fin 64) (s : State) :
    KeepsMarks s (swapAccount old new a s) := by
  obtain ⟨r, same | same⟩ := swapAccount_eq old new a s <;> rw [same]
  · exact .of_nvs (by simp)
  · exact KeepsMarks.trans (.of_nvs (by simp)) (.markAccount a _)

/-- The swap work of every block loses no mark (R104). -/
theorem KeepsMarks.swapWorks (old new : Tables) (s : State) : KeepsMarks s (swapWorks old new s) := by
  refine swapAll_keeps KeepsMarks (fun _ => .of_nvs rfl) (fun _ _ _ => .trans) (fun b _ s => ?_)
    (fun s => .of_nvs (by simp)) false s
  cases b with
  | dau =>
    refine KeepsMarks.trans (.of_nvs ?_) (foldl_keeps KeepsMarks _ (fun _ => .of_nvs rfl)
      (fun _ _ _ => .trans) (fun s a => KeepsMarks.swapAccount old new a s) _ _)
    rfl
  | tbu => exact .requestConfigWrite s
  | cmu | zcu | cgu | xsu | bli => exact .of_nvs (by simp [swapWork])

/-- A step of the close work but the checkpoint's leaves the store controller and the checkpoint
counter. -/
theorem closeSteps_store {s0 : State} {f : State → State} (hf : f ∈ closeSteps t s0)
    (other : f ≠ checkpointClose t) (s : State) :
    (f s).nvs = s.nvs ∧ (f s).dau.checkpointCounter = s.dau.checkpointCounter := by
  obtain ⟨b, -, hf⟩ := List.mem_flatMap.mp hf
  cases b with
  | dau =>
    rcases mem_closeWorkSteps_dau.mp hf with ⟨a, -, hf⟩ | rfl | rfl
    · have dates := accrueSteps_dates hf s
      simp only [Dau.dates, Prod.mk.injEq] at dates
      refine ⟨?_, dates.2.2.2⟩
      rcases mem_accrueSteps.mp hf with rfl | rfl | rfl <;> simp
    · have dates := watchClose_dates t s
      simp only [Dau.dates, Prod.mk.injEq] at dates
      exact ⟨by simp, dates.2.2.2⟩
    · exact absurd rfl other
  | zcu => rcases mem_closeWorkSteps_zcu.mp hf with rfl | ⟨z, -, rfl⟩ <;> simp
  | cmu =>
    rcases mem_closeWorkSteps_cmu.mp hf with rfl | ⟨k, -, rfl⟩ | ⟨z, -, q, -, hf⟩
    · simp
    · simp
    · rcases mem_refreshSteps.mp hf with rfl | rfl | rfl <;> simp
  | bli => rw [List.mem_singleton.mp hf]; simp
  | xsu | tbu | cgu => cases hf

/-- An account that the checkpoint will mark, or has marked (R100). -/
structure CheckpointDue (t : Tables) (a : Fin 64) (s : State) : Prop where
  working : s.nvs.state ≠ .failed
  due : num t.bus.checkpoint ≤ s.dau.checkpointCounter + num t.bus.cycleInterval ∨ s.nvs.Marked a

/-- The checkpoint marks an account that it is due to mark (R100). -/
theorem CheckpointDue.checkpointClose (h : CheckpointDue t a s) (enabled : t.accountEnabled a = true) :
    (checkpointClose t s).nvs.state ≠ .failed ∧ (checkpointClose t s).nvs.Marked a := by
  simp only [Machine.checkpointClose]
  split
  · have mem := (t.mem_enabledAccounts a).mpr enabled
    exact ⟨(KeepsMarks.markAccounts _ _).working h.working,
      foldl_marked (s := s.setDau { s.dau with checkpointCounter := 0 }) h.working
        (fun s a => KeepsMarks.markAccount a s) (fun s a working => markAccount_marked a working) _ a
        mem⟩
  · next early => exact ⟨h.working, h.due.resolve_left early⟩

/-- Steps of the close work, and the staged copy made active, lose no checkpoint that is due. -/
theorem CheckpointDue.step (enabled : t.accountEnabled a = true) {s0 : State} {f : State → State}
    (hf : f ∈ closeSteps t s0 ∨ f = activate) (h : CheckpointDue t a s) : CheckpointDue t a (f s) := by
  by_cases own : f = Machine.checkpointClose t
  · subst own
    obtain ⟨working, marked⟩ := h.checkpointClose enabled
    exact ⟨working, .inr marked⟩
  · rcases hf with hf | rfl
    · obtain ⟨nvs, counter⟩ := closeSteps_store hf own s
      exact ⟨by rw [nvs]; exact h.working, by rw [nvs, counter]; exact h.due⟩
    · obtain ⟨working, marked⟩ := KeepsMarks.activate s
      refine ⟨working h.working, h.due.imp (fun due => ?_) (marked a)⟩
      rw [show (activate s).dau = s.dau by simp]
      exact due

/-- Steps of the close work, and the staged copy made active, lose no mark. -/
theorem marked_step {s0 : State} {f : State → State} (hf : f ∈ closeSteps t s0 ∨ f = activate)
    (h : s.nvs.Marked a) : (f s).nvs.Marked a := by
  by_cases own : f = checkpointClose t
  · subst own
    simp only [checkpointClose]
    split
    · exact (KeepsMarks.markAccounts _ _).marked a h
    · exact h
  · rcases hf with hf | rfl
    · rw [(closeSteps_store hf own s).1]; exact h
    · exact (KeepsMarks.activate s).marked a h

/-- The close work marks an account whose checkpoint is due (R100). -/
theorem runSteps_marked (enabled : t.accountEnabled a = true) {s0 : State}
    {steps : List (State → State)} (each : ∀ f ∈ steps, f ∈ closeSteps t s0 ∨ f = activate)
    (mem : checkpointClose t ∈ steps) (h : CheckpointDue t a s) :
    (runSteps steps s).nvs.Marked a := by
  have keeps {P : State → Prop} (step : ∀ f, f ∈ closeSteps t s0 ∨ f = activate → ∀ s, P s → P (f s))
      (l : List (State → State)) (sub : ∀ f ∈ l, f ∈ steps) (s : State) : P s → P (runSteps l s) :=
    runSteps_keeps (fun s u => P s → P u) (fun _ => id) (fun _ _ _ h g => g ∘ h) l
      (fun f hf s => step f (each f (sub f hf)) s) s
  obtain ⟨l1, l2, rfl⟩ := List.append_of_mem mem
  rw [runSteps_append, runSteps_cons]
  have before := keeps (P := CheckpointDue t a) (fun f hf s h => h.step enabled hf) l1
    (by simp +contextual) s h
  exact keeps (P := fun s => s.nvs.Marked a) (fun f hf s h => marked_step hf h) l2
    (by simp +contextual) _ (before.checkpointClose enabled).2

/-- A cycle close marks an account whose checkpoint is due (R100). -/
theorem cycleClose_marked (enabled : s.tbu.active.accountEnabled a = true)
    (h : CheckpointDue s.tbu.active a s) : (cycleClose s).nvs.Marked a := by
  let steps := closeSteps s.tbu.active (closeStart s)
  have mem : checkpointClose s.tbu.active ∈ steps :=
    List.mem_flatMap.mpr ⟨.dau, mem_completeOrder.mpr (by decide),
      mem_closeWorkSteps_dau.mpr (.inr (.inr rfl))⟩
  have start : CheckpointDue s.tbu.active a (closeStart s) := ⟨h.working, h.due⟩
  cases due : s.swapDue with
  | false =>
    rw [cycleClose_eq_runSteps due]
    exact runSteps_marked enabled (fun f hf => .inl hf) mem start
  | true =>
    rw [cycleClose_of_swapDue due]
    refine (KeepsMarks.swapWorks _ _ _).marked a ?_
    let n := s.order.swapAt.getD steps.length
    have inserted : closeWorkDone s
        = runSteps (steps.take n ++ activate :: steps.drop n) (closeStart s) := by
      rw [runSteps_append, runSteps_cons]
      rfl
    rw [inserted]
    refine runSteps_marked (s0 := closeStart s) enabled (fun f hf => ?_) ?_ start
    · rcases List.mem_append.mp hf with hf | hf
      · exact .inl (List.mem_of_mem_take hf)
      · rcases List.mem_cons.mp hf with rfl | hf
        · exact .inr rfl
        · exact .inl (List.mem_of_mem_drop hf)
    · rw [← List.take_append_drop n steps] at mem
      simp only [List.mem_append, List.mem_cons] at mem ⊢
      exact mem.imp_right .inr

/-- Settles O26. -/
theorem watchAndCheckpointFallAtClose : Obligations.WatchAndCheckpointFallAtClose := by
  unfold Obligations.WatchAndCheckpointFallAtClose
  intro s k o ends last
  let s1 := recordAndHandOver k o s
  have active : s1.tbu = s.tbu := by simp [s1]
  have handed := recordAndHandOver_dates k o s
  simp only [Dau.dates, Prod.mk.injEq] at handed
  obtain ⟨ledger, watch, stale, counter⟩ := handed
  have dates := cycleClose_dates s1
  rw [active, Dau.datesClosed] at dates
  simp only [Dau.dates, Prod.mk.injEq] at dates
  obtain ⟨ledger', watch', stale', counter'⟩ := dates
  have closed : (finish (cycleClose s1)).flc.state = .closed := by simp [Flc.closed]
  refine ⟨fun fresh reached => ⟨?_, fun u fresh' same => ?_⟩, fun reached => ?_⟩
  · have now : reachesWatchLimit s1 = true := by
      simp only [reachesWatchLimit, active]
      simp [s1, stale, watch, fresh, Config.dateWatchLimit, reached]
    refine ⟨_, congrArg Host.Outcome.next (slotEndWhen_atClose ends last now), closed, ?_, ?_,
      ledger'.trans ledger⟩
    · refine stale'.trans ?_
      rw [watch, min_eq_right reached]
      simp
    · refine watch'.trans ?_
      rw [watch, min_eq_right reached]
  · exact watchClose_of_reached fresh' (by rw [same]; exact reached)
  · have now : reachesCheckpoint s1 = true := by
      simp only [reachesCheckpoint, active]
      simp [s1, counter, reached]
    refine ⟨_, congrArg Host.Outcome.next (slotEndWhen_atClose ends last now), closed, ?_,
      ledger'.trans ledger, fun working a enabled => ?_⟩
    · refine counter'.trans ?_
      rw [counter, if_pos reached]
    · have due : CheckpointDue s1.tbu.active a s1 := by
        refine ⟨by simpa [s1] using working, .inl ?_⟩
        rw [active, counter]
        exact reached
      exact (cycleClose_marked (by rw [active]; exact enabled) due).stated

/-! ## Settles O32 -/

/-- A cycle close that swaps nothing leaves what a slot that senses nothing holds (R65). -/
theorem cycleClose_sensors_of_not_sensor (due : s.swapDue = false)
    (use : (s.tbu.active.slots.get k).isSensor = false) :
    (cycleClose s).cmu.sensors.get k = s.cmu.sensors.get k := by
  rw [cycleClose_eq_runSteps due]
  refine runSteps_part (·.cmu.sensors.get k) (fun f hf s' => ?_) (closeStart s)
  obtain ⟨b, -, hf⟩ := List.mem_flatMap.mp hf
  by_cases other : b = .cmu
  · subst other
    rcases mem_closeWorkSteps_cmu.mp hf with rfl | ⟨k, -, rfl⟩ | ⟨z, -, q, -, hf⟩
    · simp [ageSensors, use]
    · simp
    · rcases mem_refreshSteps.mp hf with rfl | rfl | rfl
      · simp only [changeEntry]
        split <;> rfl
      · simp
      · simp
  · rw [(closeWorkSteps_cmu other hf s').1]

/-- A LOST actuator has no SET settled (R130). -/
theorem settledSet_of_lost {r : ActuatorRecord} (lost : r.link = .lost) : settledSet s r = none := by
  unfold settledSet
  split
  · simp [lost]
  · rfl

/-- Settles O32. -/
theorem missLimitLosesActuator : Obligations.MissLimitLosesActuator := by
  unfold Obligations.MissLimitLosesActuator
  intro s k o r ends due acts held link miss many
  have missed : isMiss r o = true := by
    rcases miss with rfl | rfl | rfl | rfl <;> rfl
  have now : reachesLost k o s = true := by
    simp [reachesLost, acts, held, losesActuator, missed, link, many]
  have lost : slotAnswered (num s.tbu.active.bus.missLimit) r o
      = loseActuator { r with miss := num s.tbu.active.bus.missLimit, sinceCall := 0 } := by
    rcases miss with rfl | rfl | rfl | rfl <;>
      exact missed_of_limit (r := { r with sinceCall := 0 }) link many
  have sensor : (s.tbu.active.slots.get k).isSensor = false := by
    simp only [SlotRec.isSensor, SlotRec.isActuator, beq_iff_eq] at *
    simp [acts]
  have handed : (recordAndHandOver k o s).cmu = s.cmu := by
    rw [recordAndHandOver_of_actuator o acts]; simp
  refine ⟨slotEnd k o s, congrArg Host.Outcome.next (slotEndWhen_of_reached ends now), ?_, ?_,
    by simp, by simp⟩
  · rw [slotEnd_actuator k o due, (recordAndHandOver_actuators o acts held).1, lost,
      settledRecord, settledSet_of_lost rfl]
    rfl
  · change (afterSlot k (recordAndHandOver k o s)).cmu.sensors.get k = _
    unfold afterSlot
    split
    · simp [handed]
    · rw [cycleClose_sensors_of_not_sensor (by rw [swapDue_recordAndHandOver]; exact due)
        (by simpa using sensor), handed]

end Sys2Proof.Machine

/-! PROOFS. Sample classes and zone entries (R59 to R61, R67 to R69), and the entries at a cycle close
(R65). -/

namespace Sys2Proof.Machine

open Sys2Proof

variable {t : Tables} {s u v w : State} {c d : Cmu} {k j : Fin 48} {o : SlotOutcome} {z y : Fin 16}
  {q : CondQ}

/-! ## Sample classes (R59 to R61) -/

/-- The class against four limits in strict order (R59). -/
theorem classifyFour_iff {v a w x b : Int} (aw : a < w) (wx : w < x) (xb : x < b) :
    (classifyFour v a w x b = .alarmLo ↔ v ≤ a)
      ∧ (classifyFour v a w x b = .warnLo ↔ a < v ∧ v < w)
      ∧ (classifyFour v a w x b = .normal ↔ w ≤ v ∧ v ≤ x)
      ∧ (classifyFour v a w x b = .warnHi ↔ x < v ∧ v < b)
      ∧ (classifyFour v a w x b = .alarmHi ↔ b ≤ v) := by
  unfold classifyFour
  split
  · simp; omega
  · split
    · simp; omega
    · split
      · simp; omega
      · split
        · simp; omega
        · simp; omega

/-- The class against two high limits (R60). -/
theorem classifyTwo_iff {v w a : Int} (wa : w < a) :
    (classifyTwo v w a = .normal ↔ v ≤ w) ∧ (classifyTwo v w a = .warnHi ↔ w < v ∧ v < a)
      ∧ (classifyTwo v w a = .alarmHi ↔ a ≤ v) := by
  unfold classifyTwo
  split
  · simp; omega
  · split
    · simp; omega
    · simp; omega

/-- Settles O21. -/
theorem sampleClassFollowsLimits : Obligations.SampleClassFollowsLimits := by
  unfold Obligations.SampleClassFollowsLimits
  intro t band z v
  refine ⟨fun a w x b => classifyFour_iff, fun al wl wh ah h1 h2 h3 h4 => ?_,
    fun al wl wh ah mode h1 h2 h3 h4 => ?_, fun b c w a mode centre h1 h2 => ?_, fun mode => ?_,
    fun w a h1 h2 wa => ?_, fun w a h1 h2 wa => ?_⟩
  · simp [sampleClass, h1, h2, h3, h4, int]
  · simp [sampleClass, ZoneRec.isCurve, mode, h1, h2, h3, h4, num]
  · simp [sampleClass, ZoneRec.isCurve, mode, classifyCurve, Tables.centre, centre, h1, h2, num]
  · simp [sampleClass, ZoneRec.isCurve, mode]
  · simp only [sampleClass, h1, h2, num, Option.some.injEq]
    exact classifyTwo_iff (by exact_mod_cast wa)
  · simp only [sampleClass, h1, h2, num, Option.some.injEq]
    exact classifyTwo_iff (by exact_mod_cast wa)

/-! ## Sides and coverage (R67, R68) -/

theorem SideClass.worse_eq_alarm_iff (a b : SideClass) :
    a.worse b = .alarm ↔ a = .alarm ∨ b = .alarm := by
  cases a <;> cases b <;> decide

theorem SideClass.worse_eq_normal_iff (a b : SideClass) :
    a.worse b = .normal ↔ a = .normal ∧ b = .normal := by
  cases a <;> cases b <;> decide

/-- The worst of a list is ALARM where one of it is (R68). -/
theorem worstSide_eq_alarm_iff (l : List SideClass) : worstSide l = .alarm ↔ .alarm ∈ l := by
  have fold (a : SideClass) : l.foldl SideClass.worse a = .alarm ↔ a = .alarm ∨ .alarm ∈ l := by
    induction l generalizing a with
    | nil => simp
    | cons b l ih => rw [List.foldl_cons, ih, SideClass.worse_eq_alarm_iff, List.mem_cons, or_assoc,
        eq_comm (a := b)]
  simpa [worstSide] using fold .normal

/-- The worst of a list is NORMAL where all of it is (R68). -/
theorem worstSide_eq_normal_iff (l : List SideClass) :
    worstSide l = .normal ↔ ∀ a ∈ l, a = .normal := by
  have fold (a : SideClass) :
      l.foldl SideClass.worse a = .normal ↔ a = .normal ∧ ∀ b ∈ l, b = .normal := by
    induction l generalizing a with
    | nil => simp
    | cons b l ih => rw [List.foldl_cons, ih, SideClass.worse_eq_normal_iff, List.forall_mem_cons,
        and_assoc]
  simpa [worstSide] using fold .normal

/-- The slots of a zone that sense a quantity. -/
theorem Tables.mem_condSlots : k ∈ t.condSlots z q ↔
    (t.slots.get k).sensorQuantity = some q.quantity ∧ (t.slots.get k).zoneIndex = some z := by
  simp [Tables.condSlots, SlotRec.sensesIn, SlotRec.senses]

/-- The LIVE records of a zone and quantity. -/
theorem mem_liveRecords {r : SensorRecord} : r ∈ liveRecords t c z q ↔
    ∃ k, (t.slots.get k).sensorQuantity = some q.quantity ∧ (t.slots.get k).zoneIndex = some z
      ∧ c.sensors.get k = some r ∧ r.health = .live := by
  simp [liveRecords, Tables.mem_condSlots, and_assoc]

/-- Some LIVE record of a zone and quantity meets a test. -/
theorem Cmu.liveIn_iff {p : SensorRecord → Prop} :
    c.LiveIn t z q p ↔ ∃ r ∈ liveRecords t c z q, p r := by
  simp only [Cmu.LiveIn, mem_liveRecords]
  exact ⟨fun ⟨k, r, senses, zone, held, live, test⟩ => ⟨r, ⟨k, senses, zone, held, live⟩, test⟩,
    fun ⟨r, ⟨k, senses, zone, held, live⟩, test⟩ => ⟨k, r, senses, zone, held, live, test⟩⟩

/-- RH in a CURVE zone while the band is UNKNOWN (R67). -/
theorem lacksReference_eq_true_iff {band : Option (Fin 35)} : lacksReference t band z q = true ↔
    q = .rh ∧ (t.zoneRec z).isCurve = true ∧ band = none := by
  simp [lacksReference, and_assoc]

/-- Coverage is NONE without a slot (R67). -/
theorem coverageOf_eq_none_iff : coverageOf t c z q = .none ↔ t.condSlots z q = [] := by
  unfold coverageOf
  by_cases empty : t.condSlots z q = []
  · simp [empty]
  · simp only [List.isEmpty_iff, empty, if_false, iff_false]
    split
    · nofun
    · split <;> nofun

/-- Coverage is LIVE with a LIVE record, and its reference (R67). -/
theorem coverageOf_eq_live_iff : coverageOf t c z q = .live ↔
    liveRecords t c z q ≠ [] ∧ ¬ lacksReference t c.band z q = true := by
  unfold coverageOf
  by_cases empty : t.condSlots z q = []
  · simp [empty, liveRecords]
  · simp only [List.isEmpty_iff, empty, if_false]
    cases lacksReference t c.band z q with
    | true => simp
    | false => by_cases none_ : liveRecords t c z q = [] <;> simp [none_]

/-- The classes that count are those of the LIVE records (R68). -/
theorem mem_countedClasses (live : coverageOf t c z q = .live) {x : Class} :
    x ∈ countedClasses t c z q ↔ c.LiveIn t z q fun r => r.cls = some x := by
  rw [countedClasses, if_pos live, List.mem_filterMap, Cmu.liveIn_iff]

/-- The high side of an entry recomputed (R68). -/
theorem highSide_iff (live : coverageOf t c z q = .live) :
    (worstSide ((countedClasses t c z q).map Class.highSide) = .alarm
        ↔ c.LiveIn t z q fun r => r.cls = some .alarmHi)
      ∧ (worstSide ((countedClasses t c z q).map Class.highSide) = .normal
        ↔ ¬ c.LiveIn t z q fun r => r.cls = some .warnHi ∨ r.cls = some .alarmHi) := by
  have alarm (x : Class) : x.highSide = .alarm ↔ x = .alarmHi := by cases x <;> decide
  have normal (x : Class) : x.highSide = .normal ↔ ¬ (x = .warnHi ∨ x = .alarmHi) := by
    cases x <;> decide
  rw [worstSide_eq_alarm_iff, worstSide_eq_normal_iff]
  constructor
  · simp only [List.mem_map, alarm, exists_eq_right]
    exact mem_countedClasses live
  · simp only [List.forall_mem_map, normal, mem_countedClasses live, Cmu.liveIn_iff]
    grind

/-- The low side of an entry recomputed (R68). -/
theorem lowSide_iff (live : coverageOf t c z q = .live) :
    (worstSide ((countedClasses t c z q).map Class.lowSide) = .alarm
        ↔ c.LiveIn t z q fun r => r.cls = some .alarmLo)
      ∧ (worstSide ((countedClasses t c z q).map Class.lowSide) = .normal
        ↔ ¬ c.LiveIn t z q fun r => r.cls = some .warnLo ∨ r.cls = some .alarmLo) := by
  have alarm (x : Class) : x.lowSide = .alarm ↔ x = .alarmLo := by cases x <;> decide
  have normal (x : Class) : x.lowSide = .normal ↔ ¬ (x = .warnLo ∨ x = .alarmLo) := by
    cases x <;> decide
  rw [worstSide_eq_alarm_iff, worstSide_eq_normal_iff]
  constructor
  · simp only [List.mem_map, alarm, exists_eq_right]
    exact mem_countedClasses live
  · simp only [List.forall_mem_map, normal, mem_countedClasses live, Cmu.liveIn_iff]
    grind

/-- Without LIVE coverage no class counts (R68). -/
theorem countedClasses_of_not_live (h : coverageOf t c z q ≠ .live) : countedClasses t c z q = [] :=
  if_neg h

/-! ## Entries recomputed (R67 to R69) -/

/-- What an entry recomputed takes from the records and the band. -/
theorem entryAfter_congr (sensors : c.sensors = d.sensors) (band : c.band = d.band) (t : Tables)
    (z : Fin 16) (q : CondQ) (old : ZoneCond) :
    entryAfter t c z q old = entryAfter t d z q old := by
  have live : liveRecords t c z q = liveRecords t d z q := by simp only [liveRecords, sensors]
  have coverage : coverageOf t c z q = coverageOf t d z q := by
    simp only [coverageOf, live, band]
  simp only [entryAfter, countedClasses, live, coverage]

/-- An entry with the sides and the coverage of one recomputed stands (R67, R68). -/
theorem Cmu.entryStands_of_sides {old : ZoneCond}
    (coverage : (c.cond z q).coverage = (entryAfter t c z q old).coverage)
    (low : (c.cond z q).low = (entryAfter t c z q old).low)
    (high : (c.cond z q).high = (entryAfter t c z q old).high) : c.EntryStands t z q := by
  change _ = coverageOf t c z q at coverage
  change _ = worstSide ((countedClasses t c z q).map Class.highSide) at high
  change _ = if q.hasLow then worstSide ((countedClasses t c z q).map Class.lowSide) else .normal
    at low
  refine ⟨?_, ?_, fun h => ?_, fun h => ?_, fun h => ?_, fun h two => ?_, fun h two => ?_,
    fun one => ?_⟩
  · rw [coverage, coverageOf_eq_none_iff, List.eq_nil_iff_forall_not_mem]
    simp only [Tables.mem_condSlots]
  · rw [coverage, coverageOf_eq_live_iff, lacksReference_eq_true_iff, Cmu.liveIn_iff]
    cases liveRecords t c z q <;> simp
  · rw [coverage] at h
    rw [low, high, countedClasses_of_not_live h]
    exact ⟨ite_self _, rfl⟩
  · rw [coverage] at h
    rw [high]; exact (highSide_iff h).1
  · rw [coverage] at h
    rw [high]; exact (highSide_iff h).2
  · rw [coverage] at h
    rw [low, if_pos two]; exact (lowSide_iff h).1
  · rw [coverage] at h
    rw [low, if_pos two]; exact (lowSide_iff h).2
  · rw [low, one]; rfl

/-- A latch recomputed (R69). -/
theorem latchAfter_eq (follows : Bool) (old new : SideClass) (latch : Bool) :
    latchAfter follows old new latch
      = if new = .alarm then latch || old != .alarm else latch && !(old == .alarm && follows) := by
  unfold latchAfter
  cases old <;> cases new <;> cases latch <;> cases follows <;> rfl

/-- An entry recomputed follows its records (R67 to R69). -/
theorem Cmu.entryFollows_of_eq {old : ZoneCond} (h : c.cond z q = entryAfter t c z q old) :
    c.EntryFollows t z q old where
  toEntryStands := Cmu.entryStands_of_sides (old := old) (by rw [h]) (by rw [h]) (by rw [h])
  high_latch := by rw [h]; exact latchAfter_eq ..
  low_latch := by rw [h]; exact latchAfter_eq ..

/-! ## One entry at a cycle close (R65) -/

/-- The records and the band, and an entry with its tracker and its zone's selection. -/
def State.entryView (z : Fin 16) (q : CondQ) (s : State) :
    Tab (Option SensorRecord) 48 × Option (Fin 35) × ZoneCond × Tracker × Bool :=
  (s.cmu.sensors, s.cmu.band, s.cmu.cond z q, s.xsu.tracker z q, s.xsu.selects z)

theorem State.entryView_of_blocks (cmu : u.cmu = s.cmu) (xsu : u.xsu = s.xsu) :
    u.entryView z q = s.entryView z q := by
  rw [State.entryView, State.entryView, cmu, xsu]

/-- A report leaves what a unit selects (R185). -/
theorem Xsu.selects_reported (x : Xsu) (z y : Fin 16) (q : CondQ) (e : ZoneCond) :
    (x.reported z q e).selects y = x.selects y := by
  obtain ⟨enable, mask, -⟩ := x.reported_keeps z q e
  rw [Xsu.selects, Xsu.selects, enable, mask]

/-- What the announcement of another entry leaves (R72). -/
theorem tellStatistics_entryView {p : CondQ} (other : (z, q) ≠ (y, p)) (old : ZoneCond) (s : State) :
    (tellStatistics y p old s).entryView z q = s.entryView z q := by
  simp only [tellStatistics, reportCondition]
  split
  · simp only [State.entryView, changeReport_xsu, Xsu.tracker_reported, if_neg other,
      Xsu.selects_reported, (changeReport_frame ..).2.2.2.1]
  · rfl

/-- What a change of another entry leaves (R69). -/
theorem changeEntry_entryView {p : CondQ} (other : (z, q) ≠ (y, p)) (old new : ZoneCond) (s : State) :
    (changeEntry t y p old new s).entryView z q = s.entryView z q := by
  simp only [changeEntry]
  split
  · rfl
  · simp only [State.entryView, setEntry, State.setCmu_cmu, State.setCmu_xsu]
    rw [show Cmu.cond { s.cmu.setCond y p new with
      alert := alertLevel t (s.cmu.setCond y p new) } z q = (s.cmu.setCond y p new).cond z q from rfl,
      Cmu.cond_setCond, if_neg other]
    rfl

/-- What the recomputation of another entry leaves (R67 to R69). -/
theorem refreshSteps_entryView {p : CondQ} (other : (z, q) ≠ (y, p)) {first : Bool} {old : ZoneCond}
    {f : State → State} (hf : f ∈ refreshSteps first t y p old) (s : State) :
    (f s).entryView z q = s.entryView z q := by
  rcases mem_refreshSteps.mp hf with rfl | rfl | rfl
  · exact changeEntry_entryView other ..
  · exact tellStatistics_entryView other ..
  · exact State.entryView_of_blocks (by simp) (by simp)

/-- An entry recomputed in steps, with what its tracker is told (R67 to R69, R185). -/
theorem refreshEntry_entryView (first : Bool) (w : State) :
    let e := entryAfter t w.cmu z q (w.cmu.cond z q)
    (runSteps (refreshSteps first t z q (w.cmu.cond z q)) w).entryView z q
      = (w.cmu.sensors, w.cmu.band, e,
          if (w.cmu.cond z q).reportable e then
            (w.xsu.tracker z q).reported (w.xsu.selects z) e
          else w.xsu.tracker z q,
          w.xsu.selects z) := by
  intro e
  obtain ⟨conds, sensors, band⟩ := changeEntry_cmu t z q e w
  have here : (changeEntry t z q (w.cmu.cond z q) e w).cmu.cond z q = e := by simp [conds]
  rw [refreshSteps, runSteps_cons, State.entryView, announce_cmu, announce_xsu, here, sensors, band,
    show (changeEntry t z q (w.cmu.cond z q) e w).xsu = w.xsu by simp]
  split
  · rw [Xsu.tracker_reported, if_pos rfl, Xsu.selects_reported]
  · rfl

theorem CondQ.mem_all (q : CondQ) : q ∈ CondQ.all := by cases q <;> decide

theorem Tables.enabledZones_nodup (t : Tables) : t.enabledZones.Nodup := Tab.indices_nodup _ _

/-- The sensors' records aged, and nothing else of an entry's view (R65). -/
theorem ageSensors_entryView (t : Tables) (s : State) : (ageSensors t s).entryView z q
    = ((ageSensors t s).cmu.sensors, s.cmu.band, s.cmu.cond z q, s.xsu.tracker z q,
        s.xsu.selects z) := rfl

/-- The sensors' records after a close on the tables of its cycle (R65). -/
def agedSensors (t : Tables) (c : Cmu) : Tab (Option SensorRecord) 48 :=
  c.sensors.mapIdx fun k r =>
    if (t.slots.get k).isSensor then r.map (·.afterClose (num t.bus.staleLimit)) else r

/-- What the CMU's close work makes of an entry of an enabled zone (R65, R67 to R69). -/
theorem cmuClose_entryView (enabled : t.zoneEnabled z = true) {s0 w : State}
    (same : w.entryView z q = s0.entryView z q) :
    let e := entryAfter t { s0.cmu with sensors := agedSensors t s0.cmu } z q (s0.cmu.cond z q)
    (runSteps (closeWorkSteps t s0 .cmu) w).entryView z q
      = (agedSensors t s0.cmu, s0.cmu.band, e,
          if (s0.cmu.cond z q).reportable e then
            (s0.xsu.tracker z q).reported (s0.xsu.selects z) e
          else s0.xsu.tracker z q,
          s0.xsu.selects z) := by
  intro e
  simp only [State.entryView, Prod.mk.injEq] at same
  obtain ⟨sensors, band, cond, tracker, selects⟩ := same
  let aged := runSteps ((staleSlots t s0.cmu).map fun k => post (.sensorHealth k .stale))
    (ageSensors t w)
  have ready : aged.entryView z q = (agedSensors t s0.cmu, s0.cmu.band, s0.cmu.cond z q,
      s0.xsu.tracker z q, s0.xsu.selects z) := by
    refine (runSteps_part (State.entryView z q) (fun f hf s => ?_) _).trans ?_
    · obtain ⟨k, -, rfl⟩ := List.mem_map.mp hf
      exact State.entryView_of_blocks (by simp) (by simp)
    · rw [ageSensors_entryView, band, cond, tracker, selects, ageSensors, agedSensors, ← sensors]
      rfl
  have others (y : Fin 16) (p : CondQ) (other : (z, q) ≠ (y, p)) :
      ∀ f ∈ refreshSteps s0.order.reportFirst t y p (s0.cmu.cond y p), ∀ s,
        (f s).entryView z q = s.entryView z q :=
    fun f hf => refreshSteps_entryView other hf
  obtain ⟨w1, before1, after1⟩ := runSteps_flatMap_part (State.entryView z q)
    (steps := fun y => CondQ.all.flatMap fun p =>
      refreshSteps s0.order.reportFirst t y p (s0.cmu.cond y p))
    t.enabledZones_nodup ((t.mem_enabledZones z).mpr enabled) (fun y _ other f hf => by
      obtain ⟨p, -, hf⟩ := List.mem_flatMap.mp hf
      exact others y p (fun same => other (congrArg Prod.fst same).symm) f hf) aged
  obtain ⟨w2, before2, after2⟩ := runSteps_flatMap_part (State.entryView z q)
    (steps := fun p => refreshSteps s0.order.reportFirst t z p (s0.cmu.cond z p))
    (l := CondQ.all) (by decide) q.mem_all (fun p _ other f hf =>
      others z p (fun same => other (congrArg Prod.snd same).symm) f hf) w1
  have view : w2.entryView z q = _ := before2.trans (before1.trans ready)
  simp only [State.entryView, Prod.mk.injEq] at view
  obtain ⟨sensors2, band2, cond2, tracker2, selects2⟩ := view
  have refreshed := refreshEntry_entryView (t := t) (z := z) (q := q) s0.order.reportFirst w2
  have entry : entryAfter t w2.cmu z q (s0.cmu.cond z q) = e :=
    entryAfter_congr (d := { s0.cmu with sensors := agedSensors t s0.cmu }) sensors2 band2 t z q _
  rw [cond2, entry, sensors2, band2, tracker2, selects2] at refreshed
  change (runSteps (_ :: _ ++ refreshAllSteps s0.order.reportFirst t s0.cmu) w).entryView z q = _
  rw [runSteps_append, runSteps_cons]
  exact after1.trans (after2.trans refreshed)

/-- What the CMU's close work leaves of an entry of a zone that is not enabled (R65). -/
theorem cmuClose_entryView_of_disabled (disabled : t.zoneEnabled z = false) (s0 w : State) :
    let u := runSteps (closeWorkSteps t s0 .cmu) w
    u.cmu.cond z q = w.cmu.cond z q ∧ u.xsu.tracker z q = w.xsu.tracker z q := by
  have same := runSteps_part (fun s : State => (s.cmu.cond z q, s.xsu.tracker z q))
    (steps := closeWorkSteps t s0 .cmu) (fun f hf s => ?_) w
  · simpa using same
  · rcases mem_closeWorkSteps_cmu.mp hf with rfl | ⟨k, -, rfl⟩ | ⟨y, mem, p, -, hf⟩
    · rfl
    · simp
    · have other : (z, q) ≠ (y, p) := fun same => by
        cases same
        rw [t.mem_enabledZones, disabled] at mem
        cases mem
      have view := refreshSteps_entryView other hf s
      simp only [State.entryView, Prod.mk.injEq] at view
      simp [view]

/-- An entry of an enabled zone after a close that swaps nothing (R65, R67 to R69, R186). -/
theorem cycleClose_entryView (due : s.swapDue = false)
    (enabled : s.tbu.active.zoneEnabled z = true) :
    let e := entryAfter s.tbu.active { s.cmu with sensors := agedSensors s.tbu.active s.cmu } z q
      (s.cmu.cond z q)
    (cycleClose s).entryView z q
      = (agedSensors s.tbu.active s.cmu, s.cmu.band, e,
          if (s.cmu.cond z q).reportable e then
            ((closeStart s).xsu.tracker z q).reported (s.xsu.selects z) e
          else (closeStart s).xsu.tracker z q,
          s.xsu.selects z) := by
  obtain ⟨w, before, after⟩ := cycleClose_part (State.entryView z q) due (b := .cmu) (by decide)
    (fun c other f hf s => State.entryView_of_blocks (closeWorkSteps_cmu other hf s).1
      (closeWorkSteps_cmu other hf s).2)
  exact after.trans (cmuClose_entryView enabled before)

/-- The entries of an enabled zone follow the records after a close that swaps nothing (R65). -/
theorem cycleClose_entryFollows (due : s.swapDue = false)
    (enabled : s.tbu.active.zoneEnabled z = true) :
    (cycleClose s).cmu.EntryFollows s.tbu.active z q (s.cmu.cond z q) := by
  have view := cycleClose_entryView (q := q) due enabled
  simp only [State.entryView, Prod.mk.injEq] at view
  obtain ⟨sensors, band, cond, -, -⟩ := view
  exact Cmu.entryFollows_of_eq (cond.trans (entryAfter_congr
    (c := { s.cmu with sensors := agedSensors s.tbu.active s.cmu }) sensors.symm band.symm ..))

/-! ## Settles O24 -/

/-- The sensors' records aged rest on those before (R65). -/
theorem agedSensors_congr (same : c.sensors = d.sensors) (t : Tables) :
    agedSensors t c = agedSensors t d := by
  rw [agedSensors, agedSensors, same]

/-- A step that recomputes an entry leaves the sensors' records (R67 to R69). -/
theorem refreshSteps_sensors {first : Bool} {old : ZoneCond} {f : State → State}
    (hf : f ∈ refreshSteps first t z q old) (s : State) : (f s).cmu.sensors = s.cmu.sensors := by
  rcases mem_refreshSteps.mp hf with rfl | rfl | rfl
  · simp only [changeEntry]
    split <;> rfl
  · simp
  · simp

/-- The sensors' records after the CMU's close work (R65). -/
theorem cmuClose_sensors (s0 w : State) :
    (runSteps (closeWorkSteps t s0 .cmu) w).cmu.sensors = agedSensors t w.cmu := by
  change (runSteps (ageSensors t :: _ ++ refreshAllSteps _ _ _) w).cmu.sensors = _
  rw [runSteps_append, runSteps_cons]
  refine (runSteps_part (·.cmu.sensors) (fun f hf s => ?_) _).trans
    (runSteps_part (·.cmu.sensors) (fun f hf s => ?_) _)
  · simp only [refreshAllSteps, List.mem_flatMap] at hf
    obtain ⟨y, -, p, -, hf⟩ := hf
    exact refreshSteps_sensors hf s
  · obtain ⟨k, -, rfl⟩ := List.mem_map.mp hf
    simp

/-- The sensors' records after a close that swaps nothing (R65). -/
theorem cycleClose_sensors (due : s.swapDue = false) :
    (cycleClose s).cmu.sensors = agedSensors s.tbu.active s.cmu := by
  obtain ⟨w, before, after⟩ := cycleClose_part (·.cmu.sensors) due (b := .cmu) (by decide)
    (fun c other f hf s => congrArg Cmu.sensors (closeWorkSteps_cmu other hf s).1)
  exact after.trans ((cmuClose_sensors ..).trans (agedSensors_congr before _))

/-- A record that reaches S cycles without an accepted sample (R65). -/
theorem SensorRecord.afterClose_of_stale {limit : Nat} {r : SensorRecord} (missing : r.got = false)
    (health : r.health ≠ .stale) (many : limit ≤ r.missed + 1) :
    r.goesStale limit = true
      ∧ r.afterClose limit = { r with health := .stale, missed := limit, got := false } := by
  have missed : r.missedAfter limit = limit := by
    rw [SensorRecord.missedAfter, missing]
    exact min_eq_right many
  have stale : r.goesStale limit = true := by
    simp [SensorRecord.goesStale, missing, missed, health]
  exact ⟨stale, by rw [SensorRecord.afterClose, missed, if_pos stale]⟩

/-- Settles O24. -/
theorem silentSensorGoesStale : Obligations.SilentSensorGoesStale := by
  unfold Obligations.SilentSensorGoesStale
  intro s k slot o r ends last due sensor held missing health many
  let s1 := recordAndHandOver k o s
  have active : s1.tbu = s.tbu := by simp [s1]
  have due1 : s1.swapDue = false := by rw [swapDue_recordAndHandOver]; exact due
  obtain ⟨stale, aged⟩ := SensorRecord.afterClose_of_stale missing health many
  have now : reachesStale slot s1 = true := by
    rw [reachesStale, active]
    simp [staleSlots, sensor, s1, held, stale]
  refine ⟨_, congrArg Host.Outcome.next (slotEndWhen_atClose ends last now), by simp [Flc.closed],
    ?_, fun z q enabled => ?_⟩
  · change (cycleClose s1).cmu.sensors.get slot = _
    rw [cycleClose_sensors due1, agedSensors, Tab.get_mapIdx, active, if_pos sensor, held]
    exact congrArg some aged
  · have follows := cycleClose_entryFollows (s := s1) (z := z) (q := q) due1
      (by rw [active]; exact enabled)
    rw [active] at follows
    exact follows

end Sys2Proof.Machine

/-! PROOFS. Excursion trackers: change reports, bins and cycle closes (R185 to R188). -/

namespace Sys2Proof.Machine

open Sys2Proof

variable {t : Tables} {s u : State} {k : Fin 48} {o : SlotOutcome} {z : Fin 16} {q : CondQ}
  {e old : ZoneCond}

/-! ## Change reports (R185) -/

/-- The worse side of an entry that has left NORMAL (R185). -/
theorem ZoneCond.worst_of_left (left : e.low ≠ .normal ∨ e.high ≠ .normal) :
    e.worst ≠ .normal
      ∧ e.worst = if e.low = .alarm ∨ e.high = .alarm then .alarm else .warn := by
  have away : e.worst ≠ .normal := fun normal => by
    obtain ⟨low, high⟩ := e.worst_eq_normal_iff.mp normal
    exact left.elim (· low) (· high)
  refine ⟨away, ?_⟩
  split
  · next alarm => exact e.worst_eq_alarm_iff.mpr alarm
  · next calm =>
    have notAlarm := e.worst_eq_alarm_iff.not.mpr calm
    cases worst : e.worst with
    | normal => exact absurd worst away
    | warn => rfl
    | alarm => exact absurd worst notAlarm

/-- A report that opens a tracker (R185). -/
theorem changeReport_of_opened (closed : (s.xsu.tracker z q).state = .closed)
    (live : e.coverage = .live) (left : e.worst ≠ .normal) :
    changeReport z q e s = s.setXsu (s.xsu.setTracker z q ⟨.open_, 0, some e.worst, none⟩) := by
  simp [changeReport, closed, live, left]

/-- A report that leaves a CLOSED tracker (R185). -/
theorem changeReport_of_left (closed : (s.xsu.tracker z q).state = .closed)
    (quiet : e.coverage ≠ .live ∨ e.worst = .normal) : changeReport z q e s = s := by
  have no : ¬ (e.coverage = .live ∧ e.worst ≠ .normal) := fun ⟨live, left⟩ =>
    quiet.elim (· live) left
  simp [changeReport, closed, no]

/-- A report that discards an OPEN tracker (R185). -/
theorem changeReport_of_lost (opened : (s.xsu.tracker z q).state = .open_)
    (lost : e.coverage ≠ .live) : changeReport z q e s = s.setXsu (s.xsu.setTracker z q
      { s.xsu.tracker z q with state := .closed, ending := some .discarded }) := by
  simp [changeReport, opened, lost]

/-- A report that closes an OPEN tracker at NORMAL (R185, R187). -/
theorem changeReport_of_normal (opened : (s.xsu.tracker z q).state = .open_)
    (live : e.coverage = .live) (normal : e.worst = .normal) :
    changeReport z q e s = countExcursion z q s := by
  simp [changeReport, opened, live, normal]

/-- A report that keeps an OPEN tracker (R185). -/
theorem changeReport_of_kept (opened : (s.xsu.tracker z q).state = .open_)
    (live : e.coverage = .live) (left : e.worst ≠ .normal) :
    changeReport z q e s = if e.worst = .alarm then
        s.setXsu (s.xsu.setTracker z q { s.xsu.tracker z q with peak := some .alarm })
      else s := by
  simp [changeReport, opened, live, left]

@[simp] theorem Xsu.tracker_setTracker_same (x : Xsu) (z : Fin 16) (q : CondQ) (y : Tracker) :
    (x.setTracker z q y).tracker z q = y := by
  rw [Xsu.tracker_setTracker, if_pos rfl]

/-! ## Counts (R187, R188) -/

/-- The unit after an excursion that is selected is counted (R187). -/
def Xsu.countedIn (x : Xsu) (z : Fin 16) (q : CondQ) : Xsu :=
  let bin := binOf (x.tracker z q).duration
  let h := x.histograms.get q
  Xsu.setTracker { x with histograms := x.histograms.set q (h.set bin (h.get bin).raise) } z q
    { x.tracker z q with state := .closed, ending := some .counted }

/-- An excursion that is selected is counted, and posted where its bin is notified (R187, R188). -/
theorem countExcursion_of_selected (selected : s.xsu.selects z = true) :
    countExcursion z q s =
      if (s.xsu.combine.get q).getLsbD (binOf (s.xsu.tracker z q).duration).val then
        post (.excursion q z (binOf (s.xsu.tracker z q).duration) (s.xsu.tracker z q).peak)
          (s.setXsu (s.xsu.countedIn z q))
      else s.setXsu (s.xsu.countedIn z q) := if_pos selected

/-- An excursion that is not selected (R187). -/
theorem countExcursion_of_not_selected (selected : s.xsu.selects z = false) :
    countExcursion z q s = s.setXsu (s.xsu.setTracker z q
      { s.xsu.tracker z q with state := .closed, ending := some .notSelected }) :=
  if_neg (by rw [selected]; nofun)

/-- One count into a bin (R187). -/
theorem Bin.raise_eq (b : Bin) : b.raise = if b.count < 2 ^ 32 - 1 then
    { b with count := b.count + 1 } else { b with saturated := true } := rfl

/-- A count goes into its own bin (R187). -/
theorem Xsu.countedIn_bin (x : Xsu) (z : Fin 16) (q : CondQ) :
    ((x.countedIn z q).histograms.get q).get (binOf (x.tracker z q).duration)
      = ((x.histograms.get q).get (binOf (x.tracker z q).duration)).raise := by
  simp [Xsu.countedIn, Xsu.setTracker, PerQ.get_set]

/-- A count goes into no other bin (R187). -/
theorem Xsu.countedIn_bin_ne (x : Xsu) (z : Fin 16) {q p : CondQ} {b : Fin 8}
    (other : (p, b) ≠ (q, binOf (x.tracker z q).duration)) :
    ((x.countedIn z q).histograms.get p).get b = (x.histograms.get p).get b := by
  simp only [Xsu.countedIn, Xsu.setTracker, PerQ.get_set]
  split
  · next same =>
    subst same
    rw [Tab.get_set_ne _ _ fun same => other (by rw [same])]
  · rfl

/-- The bins of durations (R187). -/
theorem binOf_iff (n : Nat) :
    (binOf n = 0 ↔ n ≤ 1) ∧ (binOf n = 1 ↔ 2 ≤ n ∧ n ≤ 3) ∧ (binOf n = 2 ↔ 4 ≤ n ∧ n ≤ 7)
      ∧ (binOf n = 3 ↔ 8 ≤ n ∧ n ≤ 15) ∧ (binOf n = 4 ↔ 16 ≤ n ∧ n ≤ 31)
      ∧ (binOf n = 5 ↔ 32 ≤ n ∧ n ≤ 63) ∧ (binOf n = 6 ↔ 64 ≤ n ∧ n ≤ 127)
      ∧ (binOf n = 7 ↔ 128 ≤ n) := by
  unfold binOf
  split_ifs <;> simp <;> omega

/-! ## A cycle close (R186) -/

/-- An entry recomputed differs from the one before where its report does (R69). -/
theorem entryAfter_eq_iff (t : Tables) (c : Cmu) (z : Fin 16) (q : CondQ) (old : ZoneCond) :
    entryAfter t c z q old = old ↔ old.reportable (entryAfter t c z q old) = false := by
  rw [ZoneCond.reportable_eq_false_iff]
  have stays (follows latch : Bool) (side : SideClass) : latchAfter follows side side latch = latch := by
    cases side <;> simp [latchAfter]
  constructor
  · intro same
    rw [same]
    exact ⟨rfl, rfl, rfl⟩
  · rintro ⟨low, high, coverage⟩
    have lowLatch : (entryAfter t c z q old).lowLatch = old.lowLatch := by
      change latchAfter _ old.low (entryAfter t c z q old).low old.lowLatch = _
      rw [← low, stays]
    have highLatch : (entryAfter t c z q old).highLatch = old.highLatch := by
      change latchAfter _ old.high (entryAfter t c z q old).high old.highLatch = _
      rw [← high, stays]
    generalize entryAfter t c z q old = e at low high coverage lowLatch highLatch ⊢
    cases e
    cases old
    cases low
    cases high
    cases coverage
    cases lowLatch
    cases highLatch
    rfl

/-- A tracker after the XSU's close work (R186). -/
theorem closeStart_tracker (s : State) (z : Fin 16) (q : CondQ) :
    (closeStart s).xsu.tracker z q = if s.tbu.active.zoneEnabled z then
        (s.xsu.tracker z q).afterClose else s.xsu.tracker z q := by
  simp only [closeStart, xsuClose, Xsu.tracker, State.setXsu_xsu, Tab.get_mapIdx]
  split <;> simp

/-- An OPEN tracker is one cycle longer after a close (R186). -/
theorem Tracker.afterClose_eq (x : Tracker) : x.afterClose =
    if x.state = .open_ then { x with duration := min (x.duration + 1) 65535 } else x := by
  unfold Tracker.afterClose
  cases state : x.state <;> simp [saturate, Config.durationMax]

/-- A tracker of an enabled zone after a close that swaps nothing (R185, R186). -/
theorem cycleClose_tracker (due : s.swapDue = false) (enabled : s.tbu.active.zoneEnabled z = true) :
    (cycleClose s).xsu.tracker z q
      = if (cycleClose s).cmu.cond z q = s.cmu.cond z q then (s.xsu.tracker z q).afterClose
        else ((s.xsu.tracker z q).afterClose).reported (s.xsu.selects z)
          ((cycleClose s).cmu.cond z q) := by
  have view := cycleClose_entryView (q := q) due enabled
  simp only [State.entryView, Prod.mk.injEq] at view
  obtain ⟨-, -, cond, tracker, -⟩ := view
  rw [tracker, cond, closeStart_tracker, if_pos enabled]
  generalize { s.cmu with sensors := agedSensors s.tbu.active s.cmu } = c
  cases reports : (s.cmu.cond z q).reportable (entryAfter s.tbu.active c z q (s.cmu.cond z q)) with
  | false => rw [if_pos ((entryAfter_eq_iff ..).mpr reports)]; rfl
  | true =>
    have moved : entryAfter s.tbu.active c z q (s.cmu.cond z q) ≠ s.cmu.cond z q := fun same => by
      rw [(entryAfter_eq_iff ..).mp same] at reports
      cases reports
    rw [if_neg moved]
    rfl

/-- A tracker of a zone that is not enabled, after a close that swaps nothing (R186). -/
theorem cycleClose_tracker_of_disabled (due : s.swapDue = false)
    (disabled : s.tbu.active.zoneEnabled z = false) :
    (cycleClose s).xsu.tracker z q = s.xsu.tracker z q := by
  obtain ⟨w, before, after⟩ := cycleClose_part (fun s => (s.cmu, s.xsu)) due (b := .cmu) (by decide)
    (fun c other f hf s => Prod.ext (closeWorkSteps_cmu other hf s).1 (closeWorkSteps_cmu other hf s).2)
  have xsu : (cycleClose s).xsu
      = (runSteps (closeWorkSteps s.tbu.active (closeStart s) .cmu) w).xsu := congrArg Prod.snd after
  rw [xsu, (cmuClose_entryView_of_disabled disabled (closeStart s) w).2,
    show w.xsu = (closeStart s).xsu from congrArg Prod.snd before, closeStart_tracker,
    if_neg (by rw [disabled]; nofun)]

/-! ## Settles O23 -/

/-- The reports of O23's first part (R185, R187, R188). -/
theorem changeReport_follows (s : State) (z : Fin 16) (q : CondQ) (e : ZoneCond) :
    let x := s.xsu.tracker z q
    let t := changeReport z q e s
    let y := t.xsu.tracker z q
    let bin := binOf x.duration
    (x.state = .open_ → e.coverage = .live → e.low = .normal → e.high = .normal →
      (s.xsu.enable = true → s.xsu.zoneMask.getLsbD z.val = true →
        y = { x with state := .closed, ending := some .counted }
        ∧ (t.xsu.histograms.get q).get bin = ((s.xsu.histograms.get q).get bin).raise
        ∧ (∀ (q' : CondQ) (b : Fin 8), (q', b) ≠ (q, bin) →
          (t.xsu.histograms.get q').get b = (s.xsu.histograms.get q').get b)
        ∧ ((s.xsu.combine.get q).getLsbD bin.val = false → t.bli = s.bli)
        ∧ ((s.xsu.combine.get q).getLsbD bin.val = true →
          (Notice.excursion q z bin x.peak).enabledBy s.tbu.active.bus.mask = true →
          keyedCount s.bli.board < 63 → t.Announces (.excursion q z bin x.peak)))
      ∧ ((s.xsu.enable = false ∨ s.xsu.zoneMask.getLsbD z.val = false) →
        y = { x with state := .closed, ending := some .notSelected }
        ∧ t.xsu.histograms = s.xsu.histograms ∧ t.bli = s.bli)) := by
  intro x t y bin opened live low high
  have counted : t = countExcursion z q s :=
    changeReport_of_normal opened live (e.worst_eq_normal_iff.mpr ⟨low, high⟩)
  refine ⟨fun enable mask => ?_, fun unselected => ?_⟩
  · have eq := countExcursion_of_selected (q := q) (s := s) (z := z) (by simp [Xsu.selects, enable, mask])
    have xsu : t.xsu = s.xsu.countedIn z q := by
      rw [counted, eq]
      split
      · simp
      · rfl
    refine ⟨?_, ?_, fun p b other => ?_, fun quiet => ?_, fun notified enabled room => ?_⟩
    · change t.xsu.tracker z q = _
      rw [xsu, Xsu.countedIn, Xsu.tracker_setTracker_same]
    · rw [xsu]; exact Xsu.countedIn_bin ..
    · rw [xsu]; exact Xsu.countedIn_bin_ne _ _ other
    · rw [counted, eq, if_neg (by rw [quiet]; nofun)]
      rfl
    · rw [counted, eq, if_pos notified]
      exact post_announces (s := s.setXsu (s.xsu.countedIn z q)) enabled nofun room
  · have eq : t = _ := counted.trans (countExcursion_of_not_selected (by
      simpa [Xsu.selects, imp_iff_not_or] using unselected))
    refine ⟨?_, by rw [eq]; rfl, by rw [eq]; rfl⟩
    change t.xsu.tracker z q = _
    rw [eq]
    exact Xsu.tracker_setTracker_same ..

/-- Settles O23. -/
theorem trackerFollowsReports : Obligations.TrackerFollowsReports := by
  unfold Obligations.TrackerFollowsReports
  refine ⟨fun s z q e => ?_, binOf_iff, fun s k o ends last due => ?_⟩
  · intro x t y bin
    refine ⟨fun closed live left => ?_, fun closed quiet => ?_, fun opened lost => ?_,
      fun opened live left => ?_, changeReport_follows s z q e, fun z' q' other => ?_⟩
    · obtain ⟨away, worst⟩ := ZoneCond.worst_of_left left
      have eq : t = _ := changeReport_of_opened closed live away
      rw [worst] at eq
      refine ⟨?_, by rw [eq]; rfl⟩
      change t.xsu.tracker z q = _
      rw [eq]
      exact Xsu.tracker_setTracker_same ..
    · exact changeReport_of_left closed (quiet.imp_right e.worst_eq_normal_iff.mpr)
    · have eq : t = _ := changeReport_of_lost opened lost
      refine ⟨?_, by rw [eq]; rfl, by rw [eq]; rfl⟩
      change t.xsu.tracker z q = _
      rw [eq]
      exact Xsu.tracker_setTracker_same ..
    · have eq : t = _ := changeReport_of_kept opened live (ZoneCond.worst_of_left left).1
      change t.xsu.tracker z q = _ ∧ _
      by_cases alarm : e.low = .alarm ∨ e.high = .alarm
      · rw [if_pos (e.worst_eq_alarm_iff.mpr alarm)] at eq
        rw [eq, if_pos alarm]
        exact ⟨Xsu.tracker_setTracker_same .., rfl, rfl⟩
      · rw [if_neg (e.worst_eq_alarm_iff.not.mpr alarm)] at eq
        rw [eq, if_neg alarm]
        exact ⟨rfl, rfl, rfl⟩
    · rw [changeReport_xsu, Xsu.tracker_reported, if_neg other]
  · refine ⟨finish (cycleClose (recordAndHandOver k o s)),
      (exec_slotEnd ends).trans (by rw [slotEnd_of_last o last]), fun z q => ?_⟩
    intro s1 x longer raised
    have active : s1.tbu = s.tbu := by simp [s1]
    have due1 : s1.swapDue = false := by rw [swapDue_recordAndHandOver]; exact due
    have grown : x.afterClose = longer := Tracker.afterClose_eq x
    change (_ → (cycleClose s1).xsu.tracker z q = if (cycleClose s1).cmu.cond z q = _ then _ else _)
      ∧ (_ → (cycleClose s1).xsu.tracker z q = _)
    refine ⟨fun enabled => ?_, fun disabled => ?_⟩
    · rw [cycleClose_tracker due1 (by rw [active]; exact enabled)]
      have told : (changeReport z q ((cycleClose s1).cmu.cond z q) raised).xsu.tracker z q
          = longer.reported (s1.xsu.selects z) ((cycleClose s1).cmu.cond z q) := by
        rw [changeReport_xsu, Xsu.tracker_reported, if_pos rfl]
        exact congrArg (Tracker.reported _ _) (Xsu.tracker_setTracker_same ..)
      change _ = if _ then longer
        else (changeReport z q ((cycleClose s1).cmu.cond z q) raised).xsu.tracker z q
      rw [told, ← grown]
    · exact cycleClose_tracker_of_disabled due1 (by rw [active]; exact disabled)

end Sys2Proof.Machine

/-! PROOFS. The REPORT of a cycle, and what the end of a slot records and begins (R20, R158 to
R160). -/

namespace Sys2Proof.Machine

open Sys2Proof

variable {t : Tables} {s u v : State} {k j : Fin 48} {o : SlotOutcome}

/-! ## Work that loses no REPORT -/

/-- Work of other units than the REPORT's: the FLC and the standings stand, and no REPORT is lost. -/
structure LinkKeeps (s u : State) : Prop where
  flc : u.flc = s.flc
  standings : u.bli.standings = s.bli.standings
  reports : ∀ r, s.Reports r → u.Reports r

namespace LinkKeeps

@[refl] theorem refl (s : State) : LinkKeeps s s := ⟨rfl, rfl, fun _ => id⟩

@[trans] theorem trans (h : LinkKeeps s u) (g : LinkKeeps u v) : LinkKeeps s v :=
  ⟨g.flc.trans h.flc, g.standings.trans h.standings, fun r => g.reports r ∘ h.reports r⟩

theorem of_blocks (flc : u.flc = s.flc) (bli : u.bli = s.bli) : LinkKeeps s u :=
  ⟨flc, by rw [bli], fun r => by rw [State.Reports, State.Reports, bli]; exact id⟩

theorem runSteps {steps : List (State → State)} (each : ∀ f ∈ steps, ∀ s, LinkKeeps s (f s))
    (s : State) : LinkKeeps s (runSteps steps s) :=
  runSteps_keeps LinkKeeps refl (fun _ _ _ => trans) steps each s

theorem foldl {ι : Type} {f : State → ι → State} (each : ∀ s i, LinkKeeps s (f s i)) (l : List ι)
    (s : State) : LinkKeeps s (l.foldl f s) :=
  foldl_keeps LinkKeeps f refl (fun _ _ _ => trans) each l s

end LinkKeeps

/-- The arbiter loses no REPORT (R165). -/
theorem Bli.arbitrate_reports {b : Bli} {r : Report}
    (h : b.report = some r ∨ b.tx = .sending (.report r)) :
    b.arbitrate.report = some r ∨ b.arbitrate.tx = .sending (.report r) := by
  unfold Bli.arbitrate
  split
  · next idle =>
    have held : b.report = some r := h.resolve_right fun sending => by
      rw [idle.1] at sending; cases sending
    rw [held]
    split
    · exact .inl rfl
    · exact .inr rfl
  · exact h

/-- A placement loses no REPORT (R165). -/
theorem settlePlacement_linkKeeps (s : State) {b : Bli} (standings : b.standings = s.bli.standings)
    (report : b.report = s.bli.report) (tx : b.tx = s.bli.tx) : LinkKeeps s (s.settlePlacement b) := by
  refine ⟨by simp, by simpa using standings, fun r h => ?_⟩
  have held : b.report = some r ∨ b.tx = .sending (.report r) := by rw [report, tx]; exact h
  rw [State.settlePlacement]
  split
  · exact Bli.arbitrate_reports held
  · exact held

/-- A post loses no REPORT (R162). -/
theorem post_linkKeeps (n : Notice) (s : State) : LinkKeeps s (post n s) :=
  settlePlacement_linkKeeps s rfl rfl rfl

/-- A post after work that moves neither the FLC nor the link. -/
theorem post_linkKeeps_of {n : Notice} (flc : u.flc = s.flc) (bli : u.bli = s.bli) :
    LinkKeeps s (post n u) := (LinkKeeps.of_blocks flc bli).trans (post_linkKeeps n u)

theorem postAll_linkKeeps (ns : List Notice) (s : State) : LinkKeeps s (postAll ns s) :=
  LinkKeeps.foldl (fun s n => post_linkKeeps n s) ns s

/-- The end of an event loses no REPORT (R165). -/
theorem finish_linkKeeps (s : State) : LinkKeeps s (finish s) :=
  ⟨rfl, by simp, fun _ h => Bli.arbitrate_reports h⟩

theorem recompute_linkKeeps (t : Tables) (z : Fin 16) (s : State) : LinkKeeps s (recompute t z s) := by
  simp only [recompute]
  split
  · split
    · rfl
    · exact post_linkKeeps_of rfl rfl
  · rfl

theorem tellZone_linkKeeps (t : Tables) (a : Fin 64) (was : AccountState) (s : State) :
    LinkKeeps s (tellZone t a was s) := by
  unfold tellZone
  split
  · rfl
  · split
    · exact recompute_linkKeeps ..
    · rfl

theorem tellState_linkKeeps (a : Fin 64) (was : AccountState) (s : State) :
    LinkKeeps s (tellState a was s) := by
  simp only [tellState]
  split
  · rfl
  · exact post_linkKeeps _ _

theorem watchClose_linkKeeps (t : Tables) (s : State) : LinkKeeps s (watchClose t s) := by
  simp only [watchClose]
  split
  · exact post_linkKeeps_of rfl rfl
  · exact .of_blocks rfl rfl

theorem changeReport_linkKeeps (z : Fin 16) (q : CondQ) (e : ZoneCond) (s : State) :
    LinkKeeps s (changeReport z q e s) := by
  have counted : LinkKeeps s (countExcursion z q s) := by
    simp only [countExcursion]
    split
    · split
      · exact post_linkKeeps_of rfl rfl
      · exact .of_blocks rfl rfl
    · exact .of_blocks rfl rfl
  simp only [changeReport]
  split
  · split
    · exact .of_blocks rfl rfl
    · rfl
  · split
    · exact .of_blocks rfl rfl
    · split
      · exact counted
      · split
        · exact .of_blocks rfl rfl
        · rfl

theorem tellStatistics_linkKeeps (z : Fin 16) (q : CondQ) (old : ZoneCond) (s : State) :
    LinkKeeps s (tellStatistics z q old s) := by
  unfold tellStatistics reportCondition
  split
  · exact changeReport_linkKeeps ..
  · rfl

theorem tellBoard_linkKeeps (t : Tables) (z : Fin 16) (q : CondQ) (old : ZoneCond) (s : State) :
    LinkKeeps s (tellBoard t z q old s) := by
  unfold tellBoard postCondition
  split
  · rfl
  · split
    · exact post_linkKeeps _ _
    · rfl

theorem changeEntry_linkKeeps (t : Tables) (z : Fin 16) (q : CondQ) (old new : ZoneCond) (s : State) :
    LinkKeeps s (changeEntry t z q old new s) := by
  unfold changeEntry
  split
  · rfl
  · exact .of_blocks rfl rfl

theorem moveEntry_linkKeeps (t : Tables) (z : Fin 16) (q : CondQ) (old new : ZoneCond) (s : State) :
    LinkKeeps s (moveEntry t z q old new s) := by
  refine LinkKeeps.trans (changeEntry_linkKeeps ..) (LinkKeeps.runSteps (fun f hf s => ?_) _)
  rcases mem_announceSteps.mp hf with rfl | rfl
  · exact tellStatistics_linkKeeps ..
  · exact tellBoard_linkKeeps ..

/-- The close work of every block but the BLI loses no REPORT (R23). -/
theorem closeWorkSteps_linkKeeps {b : Block} {s0 : State} {f : State → State} (other : b ≠ .bli)
    (hf : f ∈ closeWorkSteps t s0 b) (s : State) : LinkKeeps s (f s) := by
  cases b with
  | bli => exact absurd rfl other
  | dau =>
    rcases mem_closeWorkSteps_dau.mp hf with ⟨a, -, hf⟩ | rfl | rfl
    · rcases mem_accrueSteps.mp hf with rfl | rfl | rfl
      · exact .of_blocks rfl rfl
      · exact tellZone_linkKeeps ..
      · exact tellState_linkKeeps ..
    · exact watchClose_linkKeeps ..
    · exact .of_blocks (by simp) (by simp)
  | zcu =>
    rcases mem_closeWorkSteps_zcu.mp hf with rfl | ⟨z, -, rfl⟩
    · exact .of_blocks rfl rfl
    · exact recompute_linkKeeps ..
  | cmu =>
    rcases mem_closeWorkSteps_cmu.mp hf with rfl | ⟨k, -, rfl⟩ | ⟨z, -, q, -, hf⟩
    · exact .of_blocks rfl rfl
    · exact post_linkKeeps _ _
    · rcases mem_refreshSteps.mp hf with rfl | rfl | rfl
      · exact changeEntry_linkKeeps ..
      · exact tellStatistics_linkKeeps ..
      · exact tellBoard_linkKeeps ..
  | xsu | tbu | cgu => cases hf

theorem requestConfigWrite_linkKeeps (s : State) : LinkKeeps s (requestConfigWrite s) := by
  unfold requestConfigWrite
  split
  · exact post_linkKeeps_of rfl rfl
  · exact .of_blocks (by simp) (by simp)

theorem activate_linkKeeps (s : State) : LinkKeeps s (activate s) := by
  simp only [activate]
  split
  · refine LinkKeeps.trans ?_ (requestConfigWrite_linkKeeps _)
    exact .of_blocks rfl rfl
  · exact .of_blocks rfl rfl

theorem swapAccount_linkKeeps (old new : Tables) (a : Fin 64) (s : State) :
    LinkKeeps s (swapAccount old new a s) := by
  have told (r : AccountDyn) : LinkKeeps s (tellState a (s.dau.accounts.get a).state
      (storeAccount a r s)) := by
    refine LinkKeeps.trans ?_ (tellState_linkKeeps a _ _)
    exact .of_blocks rfl rfl
  obtain ⟨r, same | same⟩ := swapAccount_eq old new a s <;> rw [same]
  · exact told r
  · exact (told r).trans (.of_blocks (by simp) (by simp))

/-- The swap work of every block loses no REPORT (R44). -/
theorem swapWorks_linkKeeps (old new : Tables) (s : State) : LinkKeeps s (swapWorks old new s) := by
  refine swapAll_keeps LinkKeeps .refl (fun _ _ _ => .trans) (fun b _ s => ?_)
    (fun s => LinkKeeps.foldl (fun s z => recompute_linkKeeps new z s) _ s) false s
  cases b with
  | cmu =>
    refine LinkKeeps.trans ?_ (LinkKeeps.foldl (fun s z => LinkKeeps.foldl (fun s q =>
      moveEntry_linkKeeps ..) _ s) _ _)
    exact .of_blocks rfl rfl
  | dau =>
    refine LinkKeeps.trans ?_ (LinkKeeps.foldl (fun s a => swapAccount_linkKeeps old new a s) _ _)
    exact .of_blocks rfl rfl
  | zcu => exact .of_blocks rfl rfl
  | cgu =>
    refine LinkKeeps.trans ?_ ((postAll_linkKeeps _ _).trans (postAll_linkKeeps _ _))
    exact .of_blocks rfl rfl
  | xsu => exact .of_blocks rfl rfl
  | tbu => exact requestConfigWrite_linkKeeps s
  | bli => rfl

/-! ## The REPORT at a close (R159, R160) -/

/-- A step among others, and one more put between any two of them. -/
theorem insert_split {α : Type} (before after : List α) (g x : α) (n : Nat) :
    ∃ b a, (before ++ g :: after).take n ++ x :: (before ++ g :: after).drop n = b ++ g :: a
      ∧ ∀ f ∈ b ++ a, f = x ∨ f ∈ before ++ after := by
  rcases Nat.lt_or_ge before.length n with past | short
  · obtain ⟨m, rfl⟩ := Nat.exists_eq_add_of_lt past
    refine ⟨before, after.take m ++ x :: after.drop m, ?_, fun f hf => ?_⟩
    · rw [show before.length + m + 1 = before.length + (m + 1) by omega, List.take_length_add_append,
        List.drop_length_add_append]
      simp
    · simp only [List.mem_append, List.mem_cons] at hf ⊢
      rcases hf with hf | hf | hf | hf
      · exact .inr (.inl hf)
      · exact .inr (.inr (List.mem_of_mem_take hf))
      · exact .inl hf
      · exact .inr (.inr (List.mem_of_mem_drop hf))
  · refine ⟨before.take n ++ x :: before.drop n, after, ?_, fun f hf => ?_⟩
    · rw [List.take_append_of_le_length short, List.drop_append_of_le_length short]
      simp
    · simp only [List.mem_append, List.mem_cons] at hf ⊢
      rcases hf with (hf | hf | hf) | hf
      · exact .inr (.inl (List.mem_of_mem_take hf))
      · exact .inl hf
      · exact .inr (.inl (List.mem_of_mem_drop hf))
      · exact .inr (.inr hf)

/-- The close work holds the BLI's one step among others' (R23). -/
theorem closeSteps_split (t : Tables) (s0 : State) :
    ∃ before after, closeSteps t s0 = before ++ bliClose :: after
      ∧ ∀ f ∈ before ++ after, ∀ s, LinkKeeps s (f s) := by
  obtain ⟨l1, l2, order⟩ := List.append_of_mem
    (mem_completeOrder (named := s0.order.closeOrder) (default := closeBlocks).mpr
      (show Block.bli ∈ closeBlocks by decide))
  have nodup := closeOrder_nodup s0.order
  rw [order] at nodup
  obtain ⟨-, notIn2, notIn1⟩ : l1.Nodup ∧ Block.bli ∉ l2 ∧ Block.bli ∉ l1 := by
    simp only [List.nodup_append, List.nodup_cons] at nodup
    exact ⟨nodup.1, nodup.2.1.1, fun h => nodup.2.2 _ h _ (by simp) rfl⟩
  refine ⟨l1.flatMap (closeWorkSteps t s0), l2.flatMap (closeWorkSteps t s0), ?_, fun f hf => ?_⟩
  · rw [closeSteps, order, List.flatMap_append, List.flatMap_cons]
    rfl
  · rw [← List.flatMap_append] at hf
    obtain ⟨b, mem, hf⟩ := List.mem_flatMap.mp hf
    refine closeWorkSteps_linkKeeps (fun same => ?_) hf
    subst same
    exact (List.mem_append.mp mem).elim notIn1 notIn2

/-- The BLI's step: the REPORT stands, and the standings are emptied (R159, R160). -/
theorem bliClose_reports (s : State) : (bliClose s).flc = s.flc ∧ (bliClose s).bli.standings = []
    ∧ (bliClose s).Reports (buildReport s) := by
  refine ⟨by simp, by simp [bliClose], ?_⟩
  rw [bliClose, State.settlePlacement]
  split
  · exact Bli.arbitrate_reports (.inl rfl)
  · exact .inl rfl

/-- A REPORT is built from the FLC and the standings (R159). -/
theorem buildReport_congr (flc : u.flc = s.flc) (standings : u.bli.standings = s.bli.standings) :
    buildReport u = buildReport s := by
  have entry : reportEntry u = reportEntry s := by
    funext k
    simp only [reportEntry, flc, standings]
  rw [buildReport, buildReport, flc, entry]

/-- The BLI's step among others' (R159, R160). -/
theorem runSteps_reports {before after : List (State → State)}
    (others : ∀ f ∈ before ++ after, ∀ s, LinkKeeps s (f s)) (s : State) :
    (runSteps (before ++ bliClose :: after) s).flc = s.flc
      ∧ (runSteps (before ++ bliClose :: after) s).bli.standings = []
      ∧ (runSteps (before ++ bliClose :: after) s).Reports (buildReport s) := by
  rw [runSteps_append, runSteps_cons]
  have first := LinkKeeps.runSteps (fun f hf => others f (List.mem_append_left _ hf)) s
  obtain ⟨flc, standings, reports⟩ := bliClose_reports (runSteps before s)
  have last := LinkKeeps.runSteps (fun f hf => others f (List.mem_append_right _ hf))
    (bliClose (runSteps before s))
  rw [buildReport_congr first.flc first.standings] at reports
  exact ⟨last.flc.trans (flc.trans first.flc), last.standings.trans standings,
    last.reports _ reports⟩

/-- The REPORT after a cycle close, with or without its swap (R159, R160). -/
theorem cycleClose_reports (s : State) : (cycleClose s).bli.standings = []
    ∧ (cycleClose s).Reports (buildReport (closeStart s)) := by
  obtain ⟨before, after, steps, others⟩ := closeSteps_split s.tbu.active (closeStart s)
  cases due : s.swapDue with
  | false =>
    rw [cycleClose_eq_runSteps due, steps]
    exact (runSteps_reports others _).2
  | true =>
    have swapped := swapWorks_linkKeeps s.tbu.active s.tbu.staged (closeWorkDone s)
    let n := s.order.swapAt.getD (closeSteps s.tbu.active (closeStart s)).length
    obtain ⟨b, a, split, rest⟩ := insert_split before after bliClose activate n
    have inserted : closeWorkDone s = runSteps (b ++ bliClose :: a) (closeStart s) := by
      rw [← split, ← steps, runSteps_append, runSteps_cons]
      rfl
    obtain ⟨-, standings, reports⟩ := runSteps_reports (before := b) (after := a) (fun f hf s => by
      rcases rest f hf with rfl | hf
      · exact activate_linkKeeps s
      · exact others f hf s) (closeStart s)
    rw [← inserted] at standings reports
    rw [cycleClose_of_swapDue due]
    exact ⟨swapped.standings.trans standings, swapped.reports _ reports⟩

/-! ## The entries of a REPORT (R159) -/

/-- An entry of a REPORT (R159). -/
theorem reportEntry_eq_some {e : ReportEntry} (h : reportEntry s k = some e) :
    e.slot = k ∧ ∃ x ∈ s.bli.standings, x.slot = k ∧ e.acceptance = x.acceptance
      ∧ e.standing = x.standing ∧ e.outcome = s.flc.outcomeOf k ∧ e.value = reportValue e.outcome := by
  obtain ⟨x, found, rfl⟩ := Option.map_eq_some_iff.mp h
  exact ⟨rfl, x, List.mem_of_find?_eq_some found, by simpa using List.find?_some found, rfl, rfl, rfl,
    rfl⟩

/-- Every slot with a standing has its entry (R159). -/
theorem exists_reportEntry {x : ReportStanding} (mem : x ∈ s.bli.standings) :
    ∃ e ∈ (buildReport s).entries, e.slot = x.slot := by
  obtain ⟨y, found⟩ := Option.isSome_iff_exists.mp
    (List.find?_isSome (p := fun y => decide (y.slot = x.slot)).mpr ⟨x, mem, by simp⟩)
  obtain ⟨e, entry⟩ : ∃ e, reportEntry s x.slot = some e := ⟨_, by rw [reportEntry, found]; rfl⟩
  exact ⟨e, List.mem_filterMap.mpr ⟨x.slot, List.mem_finRange _, entry⟩,
    (reportEntry_eq_some entry).1⟩

/-- The entries are in ascending order of slot (R159). -/
theorem buildReport_ascending (s : State) :
    ((buildReport s).entries.map fun e => e.slot.val).Pairwise (· < ·) := by
  rw [List.pairwise_map]
  refine List.Pairwise.filterMap (R := (· < ·)) _ (fun k k' order e first e' second => ?_)
    (List.pairwise_lt_finRange 48)
  rw [(reportEntry_eq_some first).1, (reportEntry_eq_some second).1]
  exact order

/-- The outcome of a slot with one entry in the results (R20). -/
theorem Flc.outcomeOf_of_unique {f : Flc} {x : SlotResult} (mem : x ∈ f.results)
    (slot : x.slot = k) (unique : ∀ y ∈ f.results, y.slot = k → y = x) :
    f.outcomeOf k = x.outcome := by
  obtain ⟨y, found⟩ := Option.isSome_iff_exists.mp
    (List.find?_isSome (p := fun y : SlotResult => decide (y.slot = k)).mpr ⟨x, mem, by simp [slot]⟩)
  have same := unique y (List.mem_of_find?_eq_some found) (by simpa using List.find?_some found)
  rw [Flc.outcomeOf, found, same]
  rfl

/-! ## Settles O18 -/

/-- What follows a slot leaves the results and the cycle's numbers (R20). -/
theorem afterSlot_flc_keeps (k : Fin 48) (s : State) :
    (afterSlot k s).flc.results = s.flc.results ∧ (afterSlot k s).flc.cycle = s.flc.cycle
      ∧ (afterSlot k s).flc.timer = s.flc.timer
      ∧ (afterSlot k s).flc.slotCount = s.flc.slotCount := by
  unfold afterSlot
  split
  · rw [slotStart_flc]
    exact ⟨rfl, rfl, rfl, rfl⟩
  · rw [cycleClose_flc]
    exact ⟨rfl, rfl, rfl, rfl⟩

/-- The slot that the end of another begins (R8, R10 to R12, R20, R203). -/
theorem slotStart_follows (k : Fin 48) (s : State) :
    let t := slotStart k s
    let slot := s.tbu.active.slots.get k
    t.flc.state = .slot ∧ t.flc.slot = some k ∧ t.flc.answer = [] ∧ t.flc.provisional = none
      ∧ (slot.isUsed = false → t.flc.call = none ∧ t.cgu = s.cgu)
      ∧ (slot.isSensor = true → t.flc.call = some .poll ∧ t.cgu = s.cgu)
      ∧ (slot.isActuator = true →
        t.flc.call = (callDecision k s).2 ∧ t.cgu = (callDecision k s).1.cgu)
      ∧ (t.flc.call = none → t.flc.phase = some .silent ∧ t.flc.driverEnable = false
          ∧ t.flc.txd = .recessive)
      ∧ ∀ c, t.flc.call = some c → t.flc.phase = some .calling ∧ t.flc.driverEnable = true
          ∧ t.flc.SendsCall (num slot.node) k c := by
  intro t slot
  have opens : t.flc.Opens k (num slot.node) (slotCall k s).2 := slotStart_opens k s
  have cgu : t.cgu = (slotCall k s).1.cgu := slotStart_cgu k s
  refine ⟨opens.state, opens.slot, opens.answer, opens.provisional, fun unused => ?_,
    fun sensor => ?_, fun actuator => ?_, fun none_ => opens.silent (opens.called.symm.trans none_),
    fun c called => ?_⟩
  · rw [opens.called, cgu, slotCall_of_unused unused]
    exact ⟨rfl, rfl⟩
  · rw [opens.called, cgu, slotCall_of_sensor sensor]
    exact ⟨rfl, rfl⟩
  · rw [opens.called, cgu, slotCall_of_actuator actuator]
    exact ⟨rfl, rfl⟩
  · obtain ⟨phase, line, txd⟩ := opens.calling c (opens.called.symm.trans called)
    exact ⟨phase, line, Flc.sendsCall_callGroup txd⟩

/-- The REPORT's entries, against the standings and the results (R159). -/
theorem buildReport_entries (s : State) {e : ReportEntry} (mem : e ∈ (buildReport s).entries) :
    (∃ x ∈ s.bli.standings, x.slot = e.slot ∧ e.acceptance = x.acceptance ∧ e.standing = x.standing)
      ∧ (∀ x ∈ s.flc.results, x.slot = e.slot →
        (∀ y ∈ s.flc.results, y.slot = e.slot → y = x) → e.outcome = x.outcome)
      ∧ e.value = reportValue e.outcome := by
  obtain ⟨k, -, entry⟩ := List.mem_filterMap.mp mem
  obtain ⟨slot, x, held, same, acceptance, standing, outcome, value⟩ := reportEntry_eq_some entry
  subst slot
  exact ⟨⟨x, held, same, acceptance, standing⟩, fun y mem here unique =>
    outcome.trans (Flc.outcomeOf_of_unique mem here unique), value⟩

/-- Settles O18. -/
theorem slotEndRecordsAndGoesOn : Obligations.SlotEndRecordsAndGoesOn := by
  unfold Obligations.SlotEndRecordsAndGoesOn
  intro s k o ends
  let s1 := recordAndHandOver k o s
  have flc1 : s1.flc = s.flc.record k o := recordAndHandOver_flc k o s
  have active : s1.tbu = s.tbu := by simp [s1]
  obtain ⟨results, cycle, timer, count⟩ := afterSlot_flc_keeps k s1
  rw [flc1] at results cycle timer count
  refine ⟨slotEnd k o s, exec_slotEnd ends, results, cycle, timer, count, fun k' next more => ?_,
    fun last => ?_, by simp, by simp, by simp, fun last => ?_⟩
  · have follows := slotStart_follows k' s1
    rw [active] at follows
    rw [slotEnd_of_more o more next]
    exact follows
  · rw [slotEnd_of_last o last]
    simp [Flc.closed]
  · obtain ⟨standings, reports⟩ := cycleClose_reports s1
    have finished := finish_linkKeeps (cycleClose s1)
    have results' : (finish (cycleClose s1)).flc.results = (closeStart s1).flc.results := by
      simp [Flc.closed]
    rw [slotEnd_of_last o last]
    refine ⟨finished.standings.trans standings, buildReport (closeStart s1),
      finished.reports _ reports, ?_, buildReport_ascending _, fun x mem => exists_reportEntry mem,
      fun e mem => ?_⟩
    · change s1.flc.cycle = _
      rw [flc1]
      rfl
    · obtain ⟨standing, outcome, value⟩ := buildReport_entries (closeStart s1) mem
      rw [results']
      exact ⟨standing, outcome, value⟩

end Sys2Proof.Machine

/-! PROOFS. The result of a sensor slot: samples refused and accepted (R54 to R58, R62, R63, R81,
R109). -/

namespace Sys2Proof.Machine

open Sys2Proof

variable {t : Tables} {s u w : State} {k j : Fin 48} {o : SlotOutcome} {q : Quantity} {z : Fin 16}
  {v : Int} {r : SensorRecord} {slot : SlotRec} {c : CondQ}

/-! ## The end of a sensor slot before the cycle's last -/

/-- A call decision posts, and moves nothing else of the link's standings (R130, R131). -/
theorem callDecision_standings (k : Fin 48) (s : State) :
    (callDecision k s).1.bli.standings = s.bli.standings := by
  have checked : (settleCheck k s).bli.standings = s.bli.standings := by
    simp only [settleCheck]
    split
    · rfl
    · split
      · rfl
      · simp [putActuator]
  simp only [callDecision]
  split
  · exact checked
  · exact checked

/-- A slot's start leaves the standings (R10 to R12). -/
theorem slotStart_standings (k : Fin 48) (s : State) :
    (slotStart k s).bli.standings = s.bli.standings := by
  rw [slotStart_bli, slotCall]
  split
  · exact callDecision_standings k s
  · rfl

/-- What a sensor slot's end leaves, before the cycle's last, is what its hand-over does. -/
theorem slotEnd_sensor (o : SlotOutcome) (more : ¬ s.flc.Last k) (below : k.val < 47) :
    let w := recordAndHandOver k o s
    let t := slotEnd k o s
    t.cmu = w.cmu ∧ t.dau = w.dau ∧ t.zcu = w.zcu ∧ t.xsu = w.xsu ∧ t.tbu = w.tbu ∧ t.nvs = w.nvs
      ∧ t.bli.standings = w.bli.standings := by
  intro w t
  have eq : t = finish (slotStart ⟨k.val + 1, by omega⟩ w) := slotEnd_of_more o more rfl
  have standings := slotStart_standings ⟨k.val + 1, by omega⟩ w
  rw [eq]
  simp [standings]

/-! ## Samples that are not accepted (R55) -/

/-- A sample is accepted where it carries neither flag and is in range (R55). -/
theorem judgeSample_eq_accepted_iff {fault warming : Bool} :
    judgeSample q v fault warming = .accepted
      ↔ fault = false ∧ warming = false ∧ q.accepts v = true := by
  unfold judgeSample
  cases fault <;> cases warming <;> cases q.accepts v <;> simp

/-- The reason a sample is refused for (R55). -/
theorem judgeSample_of_refused {fault warming : Bool}
    (refused : judgeSample q v fault warming ≠ .accepted) :
    judgeSample q v fault warming = .refused
      (if fault = true then .fault else if warming = true then .warming else .range) := by
  rw [ne_eq, judgeSample_eq_accepted_iff] at refused
  unfold judgeSample
  cases fault <;> cases warming <;> cases accepts : q.accepts v <;> simp_all

/-- A sample that is refused posts at most (R55). -/
theorem handleSample_of_refused {fault warming : Bool} (calDue : Bool)
    (refused : judgeSample q v fault warming ≠ .accepted) :
    ∃ ns, handleSample k q v fault warming calDue s = postAll ns s := by
  simp only [handleSample]
  split
  · exact ⟨[], rfl⟩
  · rw [judgeSample_of_refused refused]
    exact ⟨_, rfl⟩

/-- An outcome in which no sample is accepted. -/
def SlotOutcome.Refused (q : Quantity) (o : SlotOutcome) : Prop :=
  ∀ v fault warming calDue, o = .good (.sample v fault warming calDue) →
    judgeSample q v fault warming ≠ .accepted

/-- A sensor slot without an accepted sample posts, and gives its standing (R54, R55, R58). -/
theorem sensorResult_of_refused (refused : o.Refused q) (s : State) :
    ∃ ns, sensorResult k q o s = (postAll ns s).setBli { (postAll ns s).bli with
      standings := s.bli.standings ++ [⟨k, acceptanceOf q o, standingOf s.cmu k q o⟩] } := by
  by_cases sample : ∃ v fault warming calDue, o = .good (.sample v fault warming calDue)
  · obtain ⟨v, fault, warming, calDue, rfl⟩ := sample
    obtain ⟨ns, same⟩ := handleSample_of_refused (k := k) (s := s) calDue
      (refused v fault warming calDue rfl)
    refine ⟨ns, ?_⟩
    simp [sensorResult, same]
  · refine ⟨[], ?_⟩
    unfold sensorResult
    split
    · next v fault warming calDue => exact absurd ⟨v, fault, warming, calDue, rfl⟩ sample
    · rfl

/-- The acceptance of an outcome in which no sample is accepted (R58). -/
theorem acceptanceOf_of_refused (refused : o.Refused q) :
    acceptanceOf q o ≠ some .accepted
      ∧ (∀ v fault warming calDue, o = .good (.sample v fault warming calDue) →
        acceptanceOf q o = some (.refused
          (if fault = true then .fault else if warming = true then .warming else .range)))
      ∧ ((∀ answer, o ≠ .good answer) → acceptanceOf q o = none) := by
  refine ⟨fun accepted => ?_, fun v fault warming calDue sample => ?_, fun bad => ?_⟩
  · unfold acceptanceOf at accepted
    split at accepted
    · next v fault warming calDue =>
      exact refused v fault warming calDue rfl (Option.some.inj accepted)
    · cases accepted
  · subst sample
    exact congrArg some (judgeSample_of_refused (refused v fault warming calDue rfl))
  · unfold acceptanceOf
    split
    · next v fault warming calDue => exact absurd rfl (bad _)
    · rfl

/-- The standing a slot gives (R58). -/
theorem standingOf_eq (cmu : Cmu) (k : Fin 48) (q : Quantity) (o : SlotOutcome) :
    (∀ c : CondQ, q = c.quantity → standingOf cmu k q o = .cls ((cmu.sensors.get k).bind (·.cls)))
      ∧ (q = .outdoor → standingOf cmu k q o = .band cmu.band)
      ∧ (q = .presence → o.Refused q → standingOf cmu k q o = .presence false) := by
  refine ⟨fun c same => ?_, fun outdoor => ?_, fun presence refused => ?_⟩
  · subst same; cases c <;> rfl
  · subst outdoor; rfl
  · subst presence
    simp only [standingOf]
    split
    · next v fault warming calDue =>
      have no := refused v fault warming calDue rfl
      simp [no]
    · rfl

/-- Settles O19. -/
theorem noAcceptedSampleLeavesRecords : Obligations.NoAcceptedSampleLeavesRecords := by
  unfold Obligations.NoAcceptedSampleLeavesRecords
  intro s k o q ends more below senses unaccepted
  have refused : o.Refused q := fun v fault warming calDue sample accepted => by
    obtain ⟨rfl, rfl, accepts⟩ := judgeSample_eq_accepted_iff.mp accepted
    rw [unaccepted v calDue sample] at accepts
    cases accepts
  obtain ⟨ns, result⟩ := sensorResult_of_refused (k := k) refused (s.setFlc (s.flc.record k o))
  obtain ⟨cmu, dau, zcu, xsu, tbu, nvs, standings⟩ := slotEnd_sensor o more below
  rw [recordAndHandOver_of_sensor o senses, result] at cmu dau zcu xsu tbu nvs standings
  obtain ⟨notAccepted, reason, absent⟩ := acceptanceOf_of_refused refused
  obtain ⟨cls, band, presence⟩ := standingOf_eq s.cmu k q o
  exact ⟨_, exec_slotEnd ends, cmu.trans (by simp), dau.trans (by simp), zcu.trans (by simp),
    xsu.trans (by simp), tbu.trans (by simp), nvs.trans (by simp), acceptanceOf q o,
    standingOf s.cmu k q o, notAccepted, standings, reason, absent, cls, band,
    fun isPresence => presence isPresence refused⟩

/-! ## Accepted samples, by what they bring (R57) -/

/-- Where a recomputation of an enabled zone's entry leaves the entry, it follows its records. -/
theorem refreshEntry_cmu (t : Tables) (z : Fin 16) (c : CondQ) (s : State) :
    (refreshEntry t z c s).cmu.sensors = s.cmu.sensors
      ∧ (refreshEntry t z c s).cmu.band = s.cmu.band
      ∧ (t.zoneEnabled z = true →
        (refreshEntry t z c s).cmu.EntryFollows t z c (s.cmu.cond z c)) := by
  unfold refreshEntry
  split
  · next enabled =>
    obtain ⟨conds, sensors, band⟩ :=
      moveEntry_cmu t z c (entryAfter t s.cmu z c (s.cmu.cond z c)) s
    refine ⟨sensors, band, fun _ => Cmu.entryFollows_of_eq ?_⟩
    rw [conds, if_pos rfl]
    exact entryAfter_congr sensors.symm band.symm ..
  · next disabled => exact ⟨rfl, rfl, fun enabled => absurd enabled disabled⟩

/-- The recomputation of the CURVE zones leaves the records and the band (R64). -/
theorem refreshCurveZones_cmu (t : Tables) (s : State) :
    (refreshCurveZones t s).cmu.sensors = s.cmu.sensors
      ∧ (refreshCurveZones t s).cmu.band = s.cmu.band :=
  foldl_keeps (fun s u => u.cmu.sensors = s.cmu.sensors ∧ u.cmu.band = s.cmu.band) _
    (fun _ => ⟨rfl, rfl⟩) (fun _ _ _ h g => ⟨g.1.trans h.1, g.2.trans h.2⟩)
    (fun s z => ⟨(refreshEntry_cmu t z .rh s).1, (refreshEntry_cmu t z .rh s).2.1⟩) _ s

/-- An accepted condition sample (R57, R59 to R62, R67 to R69). -/
theorem acceptCondition_cmu (active : s.tbu.active = t) (k : Fin 48) (z : Fin 16) (c : CondQ)
    (v : Int) (r : SensorRecord) :
    let u := acceptCondition k z c v r s
    u.cmu.sensors = s.cmu.sensors.set k
        (some (r.classify (sampleClass t s.cmu.band (t.zoneRec z) c v)))
      ∧ u.cmu.band = s.cmu.band
      ∧ (t.zoneEnabled z = true → u.cmu.EntryFollows t z c (s.cmu.cond z c)) := by
  simp only [acceptCondition, active]
  exact refreshEntry_cmu t z c (s.setCmu (s.cmu.setSensor k _))

/-- An accepted OUTDOOR sample (R63). -/
theorem acceptOutdoor_cmu (k : Fin 48) (v : Int) (r : SensorRecord) (s : State) :
    let u := acceptOutdoor k v r s
    u.cmu.sensors = s.cmu.sensors.set k (some { r with
        bandCandidate := (agree s.cmu.band r.bandCandidate (bandOf v)).2 })
      ∧ u.cmu.band = (agree s.cmu.band r.bandCandidate (bandOf v)).1 := by
  simp only [acceptOutdoor]
  split
  · exact refreshCurveZones_cmu s.tbu.active _
  · exact ⟨rfl, rfl⟩

theorem CondQ.cond_quantity (c : CondQ) : c.quantity.cond = some c := by cases c <;> rfl

theorem Quantity.cond_eq_some_iff : q.cond = some c ↔ q = c.quantity := by
  cases q <;> cases c <;> decide

/-- A slot that names an account senses LUX (R33). -/
theorem SlotRec.lux_of_accountIndex {a : Fin 64} (names : slot.accountIndex = some a) :
    slot.sensorQuantity = some .lux := by
  unfold SlotRec.accountIndex at names
  split at names
  · next senses => simpa [SlotRec.senses] using senses
  · cases names

/-- An accepted condition sample of a slot with a zone (R57, R81). -/
theorem acceptFurther_cond (cond : q.cond = some c) (zone : slot.zoneIndex = some z) :
    acceptFurther k slot q v r s = acceptCondition k z c v r
      ((slot.accountIndex.map fun a => peakCandidate a v.toNat s).getD s) := by
  simp only [acceptFurther, cond, zone]
  cases slot.accountIndex <;> rfl

/-- An accepted PRESENCE sample of a slot with a zone (R57, R109). -/
theorem acceptFurther_presence (zone : slot.zoneIndex = some z) :
    acceptFurther k slot .presence v r s
      = presenceSample k z (v == 0) (s.setCmu (s.cmu.setSensor k r)) := by
  simp [acceptFurther, Quantity.cond, zone]

/-- An accepted OUTDOOR sample (R57, R63). -/
theorem acceptFurther_outdoor : acceptFurther k slot .outdoor v r s = acceptOutdoor k v r s := by
  cases zone : slot.zoneIndex <;> simp [acceptFurther, Quantity.cond, zone]

/-- A record with the standings of another that is else the same. -/
structure SensorRecord.SameSample (r r' : SensorRecord) : Prop where
  node : r'.node = r.node
  quantity : r'.quantity = r.quantity
  health : r'.health = r.health
  missed : r'.missed = r.missed
  value : r'.value = r.value
  calDue : r'.calDue = r.calDue
  got : r'.got = r.got

theorem SensorRecord.sameSample_classify (r : SensorRecord) (x : Option Class) :
    r.SameSample (r.classify x) := by
  cases x <;> exact ⟨rfl, rfl, rfl, rfl, rfl, rfl, rfl⟩

/-- The class and the candidate after a sample (R62). -/
theorem SensorRecord.classify_standing (r : SensorRecord) (x : Class) :
    ((r.classify (some x)).cls, (r.classify (some x)).candidate) = agree r.cls r.candidate x := rfl

/-- What an accepted sample leaves of the records (R56, R57). -/
theorem acceptFurther_sensors (k : Fin 48) (slot : SlotRec) (q : Quantity) (v : Int)
    (r : SensorRecord) (s : State) :
    ∃ r', (acceptFurther k slot q v r s).cmu.sensors = s.cmu.sensors.set k (some r')
      ∧ r.SameSample r' := by
  have outdoor : ∃ r', (acceptOutdoor k v r s).cmu.sensors = s.cmu.sensors.set k (some r')
      ∧ r.SameSample r' := ⟨_, (acceptOutdoor_cmu k v r s).1, ⟨rfl, rfl, rfl, rfl, rfl, rfl, rfl⟩⟩
  simp only [acceptFurther]
  split
  · split
    · next a _ =>
      obtain ⟨sensors, -, -⟩ := acceptCondition_cmu (s := peakCandidate a v.toNat s) rfl k _ _ v r
      rw [(peakCandidate_frame a v.toNat s).2.2.2.1] at sensors
      exact ⟨_, sensors, r.sameSample_classify _⟩
    · exact ⟨_, (acceptCondition_cmu rfl k _ _ v r).1, r.sameSample_classify _⟩
  · split
    · exact ⟨r, by simp [Cmu.setSensor], ⟨rfl, rfl, rfl, rfl, rfl, rfl, rfl⟩⟩
    · exact outdoor
  · exact outdoor
  · exact ⟨r, rfl, ⟨rfl, rfl, rfl, rfl, rfl, rfl, rfl⟩⟩

/-! ## Peaks and presence (R81, R109) -/

/-- A candidate for the cycle peak of an account that counts (R81). -/
theorem peakCandidate_peak {a : Fin 64} (n : Nat) (counting : (s.dau.accounts.get a).state ≠ .idle) :
    ((peakCandidate a n s).dau.accounts.get a).peak
      = some (match (s.dau.accounts.get a).peak with
        | some p => max p n
        | none => n) := by
  simp only [peakCandidate, if_neg counting]
  cases peak : (s.dau.accounts.get a).peak <;> simp [Dau.setAccount]

/-- A VACANT presence sample sets its slot's flag alone (R109). -/
theorem presenceSample_vacant (k : Fin 48) (z : Fin 16) (s : State) :
    (presenceSample k z true s).zcu
      = { s.zcu with vacantSeen := s.zcu.vacantSeen.set k true } := rfl

/-- An OCCUPIED presence sample (R109, R115). -/
theorem presenceSample_occupied (k : Fin 48) (z : Fin 16) (s : State) :
    let old := s.zcu.zones.get z
    let u := presenceSample k z false s
    let new := u.zcu.zones.get z
    u.zcu.vacantSeen = s.zcu.vacantSeen
      ∧ new.presence = .occupied ∧ new.count = 0 ∧ new.hold = old.hold
      ∧ (∀ y, y ≠ z → u.zcu.zones.get y = s.zcu.zones.get y)
      ∧ (old.presence = .occupied → old.count = 0 → new = old)
      ∧ (old.presence ≠ .occupied ∨ old.count ≠ 0 → s.tbu.active.zoneEnabled z = true →
        new.CeilingStands s.tbu.active s.dau z) := by
  intro old u new
  by_cases lit : old.count = 0 ∧ old.presence = .occupied
  · have same : u = s := (if_neg Bool.false_ne_true).trans (if_pos lit)
    have here : new = old := by rw [show new = u.zcu.zones.get z from rfl, same]
    refine ⟨by rw [same], by rw [here]; exact lit.2, by rw [here]; exact lit.1, by rw [here],
      fun y _ => by rw [same], fun _ _ => here, fun moved => ?_⟩
    exact absurd lit.2 (moved.resolve_right (not_not.mpr lit.1))
  · let occupied : ZoneDyn := { old with count := 0, presence := .occupied }
    let s1 := s.setZcu (s.zcu.setZone z occupied)
    have eq : u = recompute s.tbu.active z s1 :=
      (if_neg Bool.false_ne_true).trans (if_neg lit)
    have zcu := recompute_zcu s.tbu.active z s1
    rw [← eq] at zcu
    have held : s1.zcu.zones.get z = occupied := by simp [s1, Zcu.setZone]
    have here : new = if s.tbu.active.zoneEnabled z then occupied.computed s.tbu.active s.dau z
        else occupied := by
      change u.zcu.zones.get z = _
      rw [zcu, held]
      simp [Zcu.setZone, s1]
    have kept : new.presence = .occupied ∧ new.count = 0 ∧ new.hold = old.hold := by
      rw [here]
      split <;> exact ⟨rfl, rfl, rfl⟩
    refine ⟨by rw [zcu]; rfl, kept.1, kept.2.1, kept.2.2, fun y other => ?_,
      fun presence count => absurd ⟨count, presence⟩ lit, fun _ enabled => ?_⟩
    · rw [zcu]
      simp [Zcu.setZone, s1, Tab.get_set_ne _ _ other]
    · rw [here, if_pos enabled]
      exact ZoneDyn.computed_stands ..

/-- The band of an OUTDOOR sample (R32, R63). -/
theorem bandOf_eq {b : Fin 35} (h : (b.val : Int) = max 0 (min 34 ((v + 300) / 20))) :
    bandOf v = b := by
  apply Fin.ext
  simp only [bandOf, Fin.ofNat]
  omega

/-! ## Settles O20 -/

/-- An accepted sample in its steps: the posts, and what it brings (R56, R57). -/
theorem sensorResult_of_accepted {calDue : Bool} (held : s.cmu.sensors.get k = some r)
    (accepts : q.accepts v = true) :
    sensorResult k q (.good (.sample v false false calDue)) s
      = (let u := acceptFurther k (s.tbu.active.slots.get k) q v (r.accept v calDue)
          (postAll (acceptancePosts k r calDue) s)
        u.setBli { u.bli with
          standings := u.bli.standings ++ [⟨k, some .accepted,
            standingOf u.cmu k q (.good (.sample v false false calDue))⟩] }) := by
  have accepted : judgeSample q v false false = .accepted :=
    judgeSample_eq_accepted_iff.mpr ⟨rfl, rfl, accepts⟩
  simp [sensorResult, handleSample, held, accepted, acceptanceOf]

end Sys2Proof.Machine

/-! PROOFS. What an accepted sample brings (R55 to R58, R63, R67 to R69, R81, R109). -/

namespace Sys2Proof.Machine

open Sys2Proof

variable {s u : State} {k : Fin 48} {q : Quantity} {z : Fin 16} {v : Int} {r : SensorRecord}
  {slot : SlotRec} {c : CondQ}

/-! ## What an accepted sample leaves -/

theorem refreshEntry_linkKeeps (t : Tables) (z : Fin 16) (c : CondQ) (s : State) :
    LinkKeeps s (refreshEntry t z c s) := by
  unfold refreshEntry
  split
  · exact moveEntry_linkKeeps ..
  · rfl

theorem acceptCondition_linkKeeps (k : Fin 48) (z : Fin 16) (c : CondQ) (v : Int) (r : SensorRecord)
    (s : State) : LinkKeeps s (acceptCondition k z c v r s) := by
  refine LinkKeeps.trans ?_ (refreshEntry_linkKeeps _ _ _ _)
  exact .of_blocks rfl rfl

theorem acceptOutdoor_linkKeeps (k : Fin 48) (v : Int) (r : SensorRecord) (s : State) :
    LinkKeeps s (acceptOutdoor k v r s) := by
  simp only [acceptOutdoor]
  split
  · refine LinkKeeps.trans ?_ (LinkKeeps.foldl (fun s z => refreshEntry_linkKeeps _ z .rh s) _ _)
    exact .of_blocks rfl rfl
  · exact .of_blocks rfl rfl

/-- An accepted sample leaves the standings (R57). -/
theorem acceptFurther_linkKeeps (k : Fin 48) (slot : SlotRec) (q : Quantity) (v : Int)
    (r : SensorRecord) (s : State) : LinkKeeps s (acceptFurther k slot q v r s) := by
  simp only [acceptFurther]
  split
  · split
    · exact LinkKeeps.trans (.of_blocks (by simp) (by simp)) (acceptCondition_linkKeeps ..)
    · exact acceptCondition_linkKeeps ..
  · split
    · simp only [presenceSample]
      split
      · exact .of_blocks rfl rfl
      · split
        · exact .of_blocks rfl rfl
        · refine LinkKeeps.trans ?_ (recompute_linkKeeps _ _ _)
          exact .of_blocks rfl rfl
    · exact acceptOutdoor_linkKeeps ..
  · exact acceptOutdoor_linkKeeps ..
  · exact .of_blocks rfl rfl

/-- An accepted condition sample of a slot with a zone (R57, R59 to R62, R67 to R69). -/
theorem acceptFurther_cond_cmu (slot : SlotRec) (zone : slot.zoneIndex = some z) (k : Fin 48)
    (c : CondQ) (v : Int) (r : SensorRecord) (s : State) :
    let t := s.tbu.active
    let u := acceptFurther k slot c.quantity v r s
    u.cmu.sensors.get k = some (r.classify (sampleClass t s.cmu.band (t.zoneRec z) c v))
      ∧ u.cmu.band = s.cmu.band
      ∧ (t.zoneEnabled z = true → u.cmu.EntryFollows t z c (s.cmu.cond z c)) := by
  intro t u
  let s1 := (slot.accountIndex.map fun a => peakCandidate a v.toNat s).getD s
  have kept : s1.cmu = s.cmu ∧ s1.tbu = s.tbu := by
    cases named : slot.accountIndex <;> simp [s1, named]
  have eq : u = acceptCondition k z c v r s1 := acceptFurther_cond c.cond_quantity zone
  obtain ⟨sensors, band, follows⟩ := acceptCondition_cmu (s := s1) rfl k z c v r
  rw [← eq, kept.1] at sensors band follows
  rw [kept.2] at sensors follows
  exact ⟨by rw [sensors, Tab.get_set_self], band, follows⟩

/-- The peak of the account of an accepted LUX sample (R81). -/
theorem acceptFurther_peak {a : Fin 64} (names : slot.accountIndex = some a)
    (zone : slot.zoneIndex = some z) (k : Fin 48) (v : Int) (r : SensorRecord) (s : State) :
    (acceptFurther k slot .lux v r s).dau = (peakCandidate a v.toNat s).dau := by
  rw [acceptFurther_cond (c := .lux) rfl zone, names]
  simp

/-- The end of a sensor slot with an accepted sample, before the cycle's last (R55 to R58). -/
theorem exec_slotEnd_accepted {calDue : Bool}
    (ends : s.flc.Ends k (.good (.sample v false false calDue))) (more : ¬ s.flc.Last k)
    (below : k.val < 47) (senses : (s.tbu.active.slots.get k).sensorQuantity = some q)
    (accepts : q.accepts v = true) (held : s.cmu.sensors.get k = some r) :
    ∃ t u, exec .slotEnd s = .next t ∧ u.cmu = s.cmu ∧ u.dau = s.dau ∧ u.zcu = s.zcu
      ∧ u.tbu = s.tbu
      ∧ (let w := acceptFurther k (s.tbu.active.slots.get k) q v (r.accept v calDue) u
        t.cmu = w.cmu ∧ t.dau = w.dau ∧ t.zcu = w.zcu
          ∧ t.bli.standings = s.bli.standings ++ [⟨k, some .accepted,
            standingOf w.cmu k q (.good (.sample v false false calDue))⟩]) := by
  let recorded := s.setFlc (s.flc.record k (.good (.sample v false false calDue)))
  have result := sensorResult_of_accepted (s := recorded) (k := k) (q := q) (calDue := calDue) held
    accepts
  obtain ⟨cmu, dau, zcu, -, -, -, standings⟩ :=
    slotEnd_sensor (.good (.sample v false false calDue)) more below
  rw [recordAndHandOver_of_sensor _ senses, result] at cmu dau zcu standings
  have kept : (acceptFurther k (s.tbu.active.slots.get k) q v (r.accept v calDue)
      (postAll (acceptancePosts k r calDue) recorded)).bli.standings = s.bli.standings :=
    (acceptFurther_linkKeeps ..).standings.trans (by simp [recorded])
  refine ⟨_, postAll (acceptancePosts k r calDue) recorded, exec_slotEnd ends, by simp [recorded],
    by simp [recorded], by simp [recorded], by simp [recorded], cmu, dau, zcu, standings.trans ?_⟩
  exact congrArg (· ++ _) kept

/-- Settles O20, by the quantity of the sample. -/
theorem acceptedSampleUpdatesRecord : Obligations.AcceptedSampleUpdatesRecord := by
  unfold Obligations.AcceptedSampleUpdatesRecord
  intro s k v calDue q r ends more below senses accepts held tables slot
  obtain ⟨t, u, run, cmu0, dau0, zcu0, tbu0, cmu, dau, zcu, standings⟩ :=
    exec_slotEnd_accepted ends more below senses accepts held
  obtain ⟨r', sensors, same⟩ := acceptFurther_sensors k slot q v (r.accept v calDue) u
  have here : t.cmu.sensors.get k = some r' := by rw [cmu, sensors, Tab.get_set_self]
  refine ⟨t, r', run, here, same.health, same.missed, same.value, same.calDue, same.got, same.node,
    same.quantity, fun j other => ?_, fun c z isCond zone => ?_, fun a z names zone counting => ?_,
    fun z isPresence zone => ?_, fun b isOutdoor band => ?_, _, standings, fun c isCond => ?_,
    fun isOutdoor => ?_, fun isPresence => ?_⟩
  · rw [cmu, sensors, Tab.get_set_ne _ _ other, cmu0]
  · intro cls
    subst isCond
    obtain ⟨record, band, follows⟩ :=
      acceptFurther_cond_cmu slot zone k c v (r.accept v calDue) u
    rw [← cmu, cmu0] at record band follows
    rw [tbu0] at record follows
    have eq : r' = (r.accept v calDue).classify cls := Option.some.inj (here.symm.trans record)
    refine ⟨fun none_ => ?_, fun x some_ => ?_, band, follows⟩
    · rw [eq, none_]
      exact ⟨rfl, rfl⟩
    · rw [eq, some_]
      exact SensorRecord.classify_standing ..
  · have lux : q = .lux := Option.some.inj (senses.symm.trans (SlotRec.lux_of_accountIndex names))
    subst lux
    have peak := peakCandidate_peak (s := u) v.toNat (by rw [dau0]; exact counting)
    rw [dau0] at peak
    rw [dau, acceptFurther_peak names zone]
    refine peak.trans ?_
    cases (s.dau.accounts.get a).peak <;> rfl
  · subst isPresence
    rw [acceptFurther_presence zone] at zcu
    intro old new
    refine ⟨fun vacant => ?_, fun occupied => ?_⟩
    · rw [vacant] at zcu
      have moved : t.zcu = { s.zcu with vacantSeen := s.zcu.vacantSeen.set k true } := by
        rw [zcu, ← zcu0]
        exact presenceSample_vacant ..
      rw [moved]
      exact ⟨rfl, by simp, fun j other => by simp [Tab.get_set_ne _ _ other]⟩
    · rw [occupied] at zcu
      let u1 := u.setCmu (u.cmu.setSensor k (r.accept 1 calDue))
      obtain ⟨flags, presence, count, hold, others, stays, ceiling⟩ :=
        presenceSample_occupied k z u1
      change t.zcu = (presenceSample k z false u1).zcu at zcu
      have zones1 : u1.zcu = s.zcu := zcu0
      have tables1 : u1.tbu = s.tbu := tbu0
      have accounts1 : u1.dau = s.dau := dau0
      rw [← zcu] at flags presence count hold others stays ceiling
      rw [zones1] at flags hold others stays ceiling
      rw [tables1, accounts1] at ceiling
      refine ⟨flags, presence, count, hold, others, stays, fun moved enabled => ?_⟩
      have stands := ceiling moved enabled
      refine ⟨fun lit => stands.table ?_ (.inr (.inl ?_)), fun rests => stands.rest_dose ?_⟩
      · rw [← doseRest_eq_true_iff, lit]; nofun
      · rw [presence]; nofun
      · exact (doseRest_eq_true_iff ..).mp rests
  · subst isOutdoor
    obtain ⟨record, moved⟩ := acceptOutdoor_cmu k v (r.accept v calDue) u
    rw [← acceptFurther_outdoor (slot := slot), ← cmu, cmu0, bandOf_eq band] at record moved
    have eq : r' = _ := Option.some.inj (here.symm.trans (by rw [record, Tab.get_set_self]))
    rw [eq, moved]
    rfl
  · rw [← cmu, (standingOf_eq t.cmu k q _).1 c isCond, here]
    rfl
  · rw [← cmu, (standingOf_eq t.cmu k q _).2.1 isOutdoor]
  · subst isPresence
    have accepted : judgeSample .presence v false false = .accepted :=
      judgeSample_eq_accepted_iff.mpr ⟨rfl, rfl, accepts⟩
    simp [standingOf, accepted, beq_eq_decide]

end Sys2Proof.Machine

/-! PROOFS. Swap work, record by record: sensor records and band (R75, R77), accounts and monitors (R104,
R105), presence records and ceilings (R119, R120), and actuators (R144, R146). -/

namespace Sys2Proof.Machine

open Sys2Proof

variable {old new : Tables} {s u : State} {c : Cmu} {k j : Fin 48} {z : Fin 16} {a : Fin 64}

/-! ## Sensor records and band (R75, R77) -/

/-- An entry rebuilt leaves records and band (R76). -/
theorem rebuildEntry_records (new : Tables) (z : Fin 16) (q : CondQ) (s : State) :
    (rebuildEntry new z q s).cmu.sensors = s.cmu.sensors
      ∧ (rebuildEntry new z q s).cmu.band = s.cmu.band :=
  (moveEntry_cmu new z q _ s).2

/-- Every entry rebuilt leaves records and band (R76). -/
theorem rebuildAll_records (new : Tables) (s : State) :
    (rebuildAll new s).cmu.sensors = s.cmu.sensors ∧ (rebuildAll new s).cmu.band = s.cmu.band := by
  have trans : ∀ s u v : State, (u.cmu.sensors = s.cmu.sensors ∧ u.cmu.band = s.cmu.band) →
      (v.cmu.sensors = u.cmu.sensors ∧ v.cmu.band = u.cmu.band) →
      v.cmu.sensors = s.cmu.sensors ∧ v.cmu.band = s.cmu.band :=
    fun _ _ _ h g => ⟨g.1.trans h.1, g.2.trans h.2⟩
  exact foldl_keeps _ _ (fun _ => ⟨rfl, rfl⟩) trans
    (fun s z => foldl_keeps _ _ (fun _ => ⟨rfl, rfl⟩) trans
      (fun s q => rebuildEntry_records new z q s) _ s) _ s

/-- The sensor records and the band after a swap (R75, R77). -/
theorem swapWorks_records (old new : Tables) (s : State) :
    (swapWorks old new s).cmu.sensors = sensorsAfterSwap old new s.cmu
      ∧ (swapWorks old new s).cmu.band = bandAfterSwap new s.cmu := by
  obtain ⟨s', same, swapped⟩ := swapWorks_cmu old new s
  obtain ⟨sensors, band⟩ := rebuildAll_records new (s'.setCmu (_ : Cmu))
  rw [swapped, ← same]
  exact ⟨sensors, band⟩

/-- A slot keeps no record where none carries its node and quantity (R75). -/
theorem keptSensor_eq_none {slot : SlotRec} {q : Quantity} (senses : slot.sensorQuantity = some q)
    (unmatched : ∀ j r, c.sensors.get j = some r → ¬ (some r.node = slot.node ∧ r.quantity = q)) :
    keptSensor c slot = none := by
  simp only [keptSensor, senses, Tab.find?_eq_none_iff]
  intro i
  cases held : c.sensors.get i with
  | none => rfl
  | some r => simpa using unmatched i r held

/-- A slot keeps the one record that carries its node and quantity (R75). -/
theorem keptSensor_eq_some {slot : SlotRec} {r : SensorRecord}
    (senses : slot.sensorQuantity = some r.quantity) (held : c.sensors.get j = some r)
    (node : slot.node = some r.node)
    (only : ∀ i x, c.sensors.get i = some x → x.node = r.node → x.quantity = r.quantity → i = j) :
    keptSensor c slot = some j := by
  simp only [keptSensor, senses]
  cases found : c.sensors.find? fun _ x => x.any fun x =>
      some x.node == slot.node && x.quantity == r.quantity with
  | none =>
    have fails := (Tab.find?_eq_none_iff _ _).mp found j
    simp [held, node] at fails
  | some i =>
    have passes := Tab.find?_some found
    simp only [node, Option.any_eq_true, Bool.and_eq_true, beq_iff_eq, Option.some.injEq] at passes
    obtain ⟨x, at_, sameNode, sameQuantity⟩ := passes
    rw [only i x at_ sameNode sameQuantity]

/-- A slot keeps some record where one carries its node and quantity (R75). -/
theorem keptSensor_isSome {slot : SlotRec} {r : SensorRecord}
    (senses : slot.sensorQuantity = some r.quantity) (held : c.sensors.get j = some r)
    (node : slot.node = some r.node) : (keptSensor c slot).isSome = true := by
  simp only [keptSensor, senses]
  by_contra none_
  rw [Option.not_isSome_iff_eq_none, Tab.find?_eq_none_iff] at none_
  have fails := none_ j
  simp [held, node] at fails

/-- A fresh record (R75). -/
theorem sensorsAfterSwap_fresh {q : Quantity} (senses : (new.slots.get k).sensorQuantity = some q)
    (unmatched : ∀ j r, c.sensors.get j = some r →
      ¬ (some r.node = (new.slots.get k).node ∧ r.quantity = q)) :
    (sensorsAfterSwap old new c).get k
      = some (SensorRecord.fresh (num (new.slots.get k).node) q) := by
  simp [sensorsAfterSwap, senses, keptSensor_eq_none senses unmatched]

/-- A kept record (R75). -/
theorem sensorsAfterSwap_kept {r : SensorRecord} (held : c.sensors.get j = some r)
    (senses : (new.slots.get k).sensorQuantity = some r.quantity)
    (node : (new.slots.get k).node = some r.node)
    (only : ∀ i x, c.sensors.get i = some x → x.node = r.node → x.quantity = r.quantity → i = j) :
    (sensorsAfterSwap old new c).get k = some (r.kept old new (bandAfterSwap new c) j k) := by
  simp [sensorsAfterSwap, senses, keptSensor_eq_some senses held node only, held]

/-- No record outside the SENSOR slots (R75). -/
theorem sensorsAfterSwap_gone (senses : (new.slots.get k).sensorQuantity = none) :
    (sensorsAfterSwap old new c).get k = none := by
  simp [sensorsAfterSwap, senses]

/-- When a kept record loses its class (R75). -/
def SensorRecord.Unclassed (old new : Tables) (band : Option (Fin 35)) (was now : Fin 48)
    (r : SensorRecord) : Prop :=
  (old.slots.get was).zoneIndex ≠ (new.slots.get now).zoneIndex
    ∨ (r.quantity = .rh ∧ band = none
      ∧ ∃ z, (new.slots.get now).zoneIndex = some z ∧ (new.zoneRec z).isCurve = true)

/-- A kept record under the new tables (R75). -/
theorem SensorRecord.kept_eq (band : Option (Fin 35)) (r : SensorRecord) :
    let held := { r with missed := min r.missed (num new.bus.staleLimit) }
    (r.Unclassed old new band j k → r.kept old new band j k = { held with cls := none, candidate := none })
      ∧ (¬ r.Unclassed old new band j k → r.kept old new band j k = held) := by
  have test : ((old.slots.get j).zoneIndex != (new.slots.get k).zoneIndex
      || (r.quantity == .rh && band.isNone
        && ((new.slots.get k).zoneIndex.any fun z => (new.zoneRec z).isCurve))) = true
      ↔ r.Unclassed old new band j k := by
    simp [SensorRecord.Unclassed, and_assoc, Option.any_eq_true]
  simp only [SensorRecord.kept]
  exact ⟨fun h => by rw [if_pos (test.mpr h)], fun h => by rw [if_neg (test.not.mpr h)]⟩

/-- The band is kept with the OUTDOOR sensor's record (R77). -/
theorem bandAfterSwap_kept {r : SensorRecord}
    (senses : (new.slots.get k).sensorQuantity = some .outdoor)
    (only : ∀ i, (new.slots.get i).sensorQuantity = some .outdoor → i = k)
    (held : c.sensors.get j = some r) (outdoor : r.quantity = .outdoor)
    (node : (new.slots.get k).node = some r.node) : bandAfterSwap new c = c.band := by
  have slot : new.outdoorSlot = some k := by
    cases found : new.outdoorSlot with
    | none =>
      have fails := (Tab.find?_eq_none_iff _ _).mp found k
      simp [SlotRec.senses, senses] at fails
    | some i =>
      have passes := Tab.find?_some found
      rw [only i (by simpa [SlotRec.senses] using passes)]
  simp only [bandAfterSwap, slot]
  exact if_pos (keptSensor_isSome (by rw [senses, outdoor]) held node)

/-- Without the OUTDOOR sensor's record the band is UNKNOWN (R77). -/
theorem bandAfterSwap_lost (unmatched : ∀ (k j : Fin 48) (r : SensorRecord),
    (new.slots.get k).sensorQuantity = some .outdoor → c.sensors.get j = some r →
      ¬ (some r.node = (new.slots.get k).node ∧ r.quantity = .outdoor)) :
    bandAfterSwap new c = none := by
  cases found : new.outdoorSlot with
  | none => simp [bandAfterSwap, found]
  | some k =>
    have senses : (new.slots.get k).sensorQuantity = some .outdoor := by
      simpa [SlotRec.senses] using Tab.find?_some found
    simp [bandAfterSwap, found, keptSensor_eq_none senses fun j r held => unmatched k j r senses held]

/-! ## Accounts and monitors (R104, R105) -/

/-- An account after a swap (R104). -/
theorem Dau.swapped_account (old new : Tables) (d : Dau) (a : Fin 64) :
    (d.swapped old new).accounts.get a = (d.accounts.get a).afterSwap old new a := by
  simp [Dau.swapped]

/-- An account that stays enabled (R104). -/
theorem AccountDyn.afterSwap_kept (was : old.accountEnabled a = true)
    (is : new.accountEnabled a = true) (r : AccountDyn) :
    let x := min r.extension (num (new.accounts.get a).allowance)
    r.afterSwap old new a = { r with
      extension := x
      revision := r.revision + 1#16
      state :=
        if r.state = .suspended then .suspended
        else if (new.accounts.get a).budgetLuxSeconds ≤ r.usedYear then .annualSpent
        else if (num (new.accounts.get a).allowance + x) * 3600 ≤ r.usedToday then .dailySpent
        else .open_ } := by
  simp only [AccountDyn.afterSwap, was, is, AccountDyn.evaluate, AccountDyn.revised]
  by_cases suspended : r.state = .suspended
  · simp only [suspended, if_true]
  · simp only [suspended, if_false]
    rfl

/-- The monitors after a swap (R105). -/
theorem Dau.swapped_monitors (old new : Tables) (d : Dau) :
    (∀ i e, d.monitors.get i = .open_ e → (d.swapped old new).monitors.get i = .lapsed e)
      ∧ ∀ i e, (d.swapped old new).monitors.get i ≠ .open_ e := by
  simp only [Dau.swapped, Tab.get_mapIdx]
  refine ⟨fun i e opened => by rw [opened]; rfl, fun i e => ?_⟩
  cases d.monitors.get i <;> nofun

/-! ## Presence records and ceilings (R119, R120) -/

/-- A zone after a swap (R119, R120). -/
theorem swapWorks_zone (old new : Tables) (s : State) (z : Fin 16) :
    (swapWorks old new s).zcu.zones.get z
      = if new.zoneEnabled z then
          ((s.zcu.zones.get z).afterSwap old new z).computed new (swapWorks old new s).dau z
        else (s.zcu.zones.get z).afterSwap old new z := by
  rw [swapWorks_zcu, swapWorks_dau]
  simp [Zcu.recomputed, Zcu.matched]

/-- A swap matches presence, count and hold alone (R119, R120). -/
theorem swapWorks_timed (old new : Tables) (s : State) (z : Fin 16) :
    ((swapWorks old new s).zcu.zones.get z).timed
      = ((s.zcu.zones.get z).afterSwap old new z).timed := by
  rw [swapWorks_zone]
  split <;> rfl

/-- Two zones have the same presence nodes (R119). -/
theorem sameNodes_eq_true_iff (l m : List (Option Nat)) :
    sameNodes l m = true ↔ ∀ n, n ∈ l ↔ n ∈ m := by
  simp only [sameNodes, Bool.and_eq_true, List.all_eq_true, List.contains_iff_mem]
  exact ⟨fun ⟨sub, sup⟩ n => ⟨sub n, sup n⟩, fun same => ⟨fun n => (same n).mp, fun n => (same n).mpr⟩⟩

/-- A zone that stays enabled with its presence nodes (R119). -/
theorem ZoneDyn.afterSwap_kept (was : old.zoneEnabled z = true) (is : new.zoneEnabled z = true)
    (same : ∀ n, n ∈ presenceNodes old z ↔ n ∈ presenceNodes new z) (r : ZoneDyn) :
    r.afterSwap old new z
      = { r with presence := presenceOf r.count (num (new.zoneRec z).vacancyHold) } := by
  simp only [ZoneDyn.afterSwap, was, is]
  exact if_pos ((sameNodes_eq_true_iff ..).mpr same)

/-- A zone that stays enabled with other presence nodes (R119). -/
theorem ZoneDyn.afterSwap_moved (was : old.zoneEnabled z = true) (is : new.zoneEnabled z = true)
    (moved : ¬ ∀ n, n ∈ presenceNodes old z ↔ n ∈ presenceNodes new z) (r : ZoneDyn) :
    r.afterSwap old new z = { r with presence := .occupied, count := 0 } := by
  simp only [ZoneDyn.afterSwap, was, is]
  exact if_neg ((sameNodes_eq_true_iff ..).not.mpr moved)

/-! ## Actuators (R144, R146) -/

/-- The list of a table holds its entries. -/
theorem Tab.mem_toList {α : Type} {m : Nat} {tab : Tab α m} {x : α} :
    x ∈ tab.toList ↔ ∃ i, tab.get i = x := by
  rw [List.mem_iff_get]
  constructor
  · rintro ⟨i, rfl⟩
    exact ⟨i.cast tab.size_eq, rfl⟩
  · rintro ⟨i, rfl⟩
    exact ⟨i.cast tab.size_eq.symm, rfl⟩

/-- The records that stand. -/
theorem Cgu.mem_records {d : Cgu} {r : ActuatorRecord} :
    r ∈ d.actuators.toList.filterMap id ↔ ∃ j, d.actuators.get j = some r := by
  simp [Tab.mem_toList]

/-- A record fits a slot of its node and kind (R144). -/
theorem ActuatorRecord.fits_eq_true_iff (r : ActuatorRecord) (slot : SlotRec) :
    r.fits slot = true ↔ slot.node = some r.node ∧ slot.actuatorKind = some r.kind := by
  simp [ActuatorRecord.fits]

/-- An ACTUATOR slot without a matching record (R144). -/
theorem Cgu.swapped_fresh {d : Cgu} {kind : ActKind}
    (acts : (new.slots.get k).actuatorKind = some kind) (zone : (new.slots.get k).zoneIndex = some z)
    (unmatched : ∀ j r, d.actuators.get j = some r →
      ¬ (some r.node = (new.slots.get k).node ∧ r.kind = kind)) :
    (d.swapped new).actuators.get k
      = some (ActuatorRecord.fresh (num (new.slots.get k).node) kind z k) := by
  have none_ : keptActuator d (new.slots.get k) = none := by
    rw [keptActuator, List.find?_eq_none]
    intro r mem fits
    obtain ⟨j, held⟩ := Cgu.mem_records.mp mem
    obtain ⟨node, kinds⟩ := (r.fits_eq_true_iff _).mp fits
    exact unmatched j r held ⟨node.symm, Option.some.inj (kinds.symm.trans acts)⟩
  simp [Cgu.swapped, swappedActuator, freshActuator, acts, zone, none_]

/-- The one record that fits a slot is the one it keeps (R144). -/
theorem keptActuator_eq_some {d : Cgu} {slot : SlotRec} {r : ActuatorRecord}
    (held : d.actuators.get j = some r) (acts : slot.actuatorKind = some r.kind)
    (node : slot.node = some r.node)
    (only : ∀ i x, d.actuators.get i = some x → x.node = r.node → x.kind = r.kind → i = j) :
    keptActuator d slot = some r := by
  cases found : keptActuator d slot with
  | none =>
    rw [keptActuator, List.find?_eq_none] at found
    exact absurd ((r.fits_eq_true_iff slot).mpr ⟨node, acts⟩) (found r (Cgu.mem_records.mpr ⟨j, held⟩))
  | some x =>
    obtain ⟨i, at_⟩ := Cgu.mem_records.mp (List.mem_of_find?_eq_some found)
    have fits : x.fits slot = true :=
      List.find?_some (p := fun x : ActuatorRecord => x.fits slot) found
    obtain ⟨node', kind'⟩ := (x.fits_eq_true_iff slot).mp fits
    have here : i = j := only i x at_ (Option.some.inj (node'.symm.trans node))
      (Option.some.inj (kind'.symm.trans acts))
    rw [← held, ← at_, here]

/-- A record held to a miss limit (R146, R141). -/
theorem heldToLimit_eq (limit : Nat) (r : ActuatorRecord) : (heldToLimit limit r).1 =
    if r.link = .lost then { r with miss := limit }
    else if r.link = .suspect ∧ limit ≤ r.miss then
      { r with miss := limit, link := .lost, inFlight := none, queue := [] }
    else { r with miss := min r.miss limit } := by
  by_cases lost : r.link = .lost
  · simp [heldToLimit, lost]
  · simp only [heldToLimit, if_neg lost, min_eq_right_iff]
    split
    · next h => simp [loseActuator, h.2]
    · rfl

/-- An ACTUATOR slot with a matching record (R144, R146). -/
theorem Cgu.swapped_kept {d : Cgu} {r : ActuatorRecord} (held : d.actuators.get j = some r)
    (acts : (new.slots.get k).actuatorKind = some r.kind)
    (node : (new.slots.get k).node = some r.node) (zone : (new.slots.get k).zoneIndex = some z)
    (only : ∀ i x, d.actuators.get i = some x → x.node = r.node → x.kind = r.kind → i = j) :
    (d.swapped new).actuators.get k
      = some (heldToLimit (num new.bus.missLimit) { r with slot := k, zone := z }).1 := by
  simp [Cgu.swapped, swappedActuator, freshActuator, acts, zone,
    keptActuator_eq_some held acts node only, ActuatorRecord.fresh]

/-- No record outside the ACTUATOR slots (R144). -/
theorem Cgu.swapped_gone {d : Cgu} (acts : (new.slots.get k).actuatorKind = none) :
    (d.swapped new).actuators.get k = none := by
  simp [Cgu.swapped, swappedActuator, freshActuator, acts]

end Sys2Proof.Machine

/-! PROOFS. Swap work on zone entries and trackers: each entry of an enabled zone is rebuilt once from the
records that the swap keeps, and reported once (R69, R73, R76, R185, R191). -/

namespace Sys2Proof.Machine

open Sys2Proof

variable {old new : Tables} {s u w : State} {c : Cmu} {z y : Fin 16} {q p : CondQ} {b : Block}

/-- Work over a list whose members all leave a part of the state. -/
theorem foldl_part_same {α ι : Type} (part : State → α) {l : List ι} {work : State → ι → State}
    (each : ∀ i ∈ l, ∀ s, part (work s i) = part s) (s : State) :
    part (l.foldl work s) = part s := by
  have run := runSteps_part part (steps := l.map fun i s => work s i) (fun f hf s => by
    obtain ⟨i, mem, rfl⟩ := List.mem_map.mp hf
    exact each i mem s) s
  simpa only [runSteps, List.foldl_map] using run

/-! ## One entry rebuilt (R76) -/

/-- An entry rebuilt from the records, its FOLLOWING latches cleared (R76). -/
def rebuilt (new : Tables) (c : Cmu) (z : Fin 16) (q : CondQ) (was : ZoneCond) : ZoneCond :=
  clearFollowing ((new.zoneRec z).follows q) (entryAfter new c z q was)

/-- The rebuilding of another entry leaves an entry's view (R76). -/
theorem rebuildEntry_entryView_ne (other : (z, q) ≠ (y, p)) (s : State) :
    (rebuildEntry new y p s).entryView z q = s.entryView z q := by
  simp only [rebuildEntry, moveEntry]
  refine (runSteps_part (State.entryView z q) (fun f hf s => ?_) _).trans
    (changeEntry_entryView other ..)
  rcases mem_announceSteps.mp hf with rfl | rfl
  · exact tellStatistics_entryView other ..
  · exact State.entryView_of_blocks (by simp) (by simp)

/-- An entry rebuilt, with what its tracker is told (R76, R185). -/
theorem rebuildEntry_entryView (w : State) :
    let e := rebuilt new w.cmu z q (w.cmu.cond z q)
    (rebuildEntry new z q w).entryView z q
      = (w.cmu.sensors, w.cmu.band, e,
          if (w.cmu.cond z q).reportable e then
            (w.xsu.tracker z q).reported (w.xsu.selects z) e
          else w.xsu.tracker z q,
          w.xsu.selects z) := by
  intro e
  obtain ⟨conds, sensors, band⟩ := moveEntry_cmu new z q e w
  have moved : rebuildEntry new z q w = moveEntry new z q (w.cmu.cond z q) e w := rfl
  rw [moved, State.entryView, moveEntry_xsu, sensors, band, conds, if_pos rfl]
  split
  · rw [Xsu.tracker_reported, if_pos rfl, Xsu.selects_reported]
  · rfl

/-- The rebuilding of another zone's entries leaves an entry's view (R76). -/
theorem rebuildZone_entryView_ne (other : z ≠ y) (s : State) :
    (CondQ.all.foldl (fun s p => rebuildEntry new y p s) s).entryView z q = s.entryView z q :=
  foldl_part_same (State.entryView z q)
    (fun _ _ s => rebuildEntry_entryView_ne (fun same => other (congrArg Prod.fst same)) s) s

/-- An entry is rebuilt once with those of every enabled zone (R76). -/
theorem rebuildAll_entryView (enabled : new.zoneEnabled z = true) (s : State) :
    ∃ w, w.entryView z q = s.entryView z q
      ∧ (rebuildAll new s).entryView z q = (rebuildEntry new z q w).entryView z q := by
  obtain ⟨w1, before1, after1⟩ := foldl_part (State.entryView z q)
    (work := fun s y => CondQ.all.foldl (fun s p => rebuildEntry new y p s) s)
    new.enabledZones_nodup ((new.mem_enabledZones z).mpr enabled)
    (fun y _ other s => rebuildZone_entryView_ne other.symm s) s
  obtain ⟨w2, before2, after2⟩ := foldl_part (State.entryView z q)
    (work := fun s p => rebuildEntry new z p s) (l := CondQ.all) (by decide) q.mem_all
    (fun p _ other s =>
      rebuildEntry_entryView_ne (fun same => other (congrArg Prod.snd same).symm) s) w1
  exact ⟨w2, before2.trans before1, after1.trans after2⟩

/-- The entries of zones that are not enabled are not rebuilt (R76). -/
theorem rebuildAll_entryView_of_disabled (disabled : new.zoneEnabled z = false) (s : State) :
    (rebuildAll new s).entryView z q = s.entryView z q := by
  refine foldl_part_same (State.entryView z q) (fun y mem s => ?_) s
  refine rebuildZone_entryView_ne (fun same => ?_) s
  rw [← same, new.mem_enabledZones, disabled] at mem
  cases mem

/-- The settings of the statistics (R191). -/
def State.settings (s : State) : Bool × Half × PerQ Byte :=
  (s.xsu.enable, s.xsu.zoneMask, s.xsu.combine)

theorem State.settings_of_xsu (same : u.xsu = s.xsu) : u.settings = s.settings := by
  rw [State.settings, State.settings, same]

/-- A report leaves the settings (R185). -/
theorem tellStatistics_settings (z : Fin 16) (q : CondQ) (old : ZoneCond) (s : State) :
    (tellStatistics z q old s).settings = s.settings := by
  simp only [tellStatistics, reportCondition]
  split
  · simp [State.settings]
  · rfl

/-- The announcement of a changed entry leaves the settings (R72). -/
theorem announceSteps_settings {t : Tables} {first : Bool} {old : ZoneCond} {f : State → State}
    (hf : f ∈ announceSteps first t z q old) (s : State) : (f s).settings = s.settings := by
  rcases mem_announceSteps.mp hf with rfl | rfl
  · exact tellStatistics_settings ..
  · exact State.settings_of_xsu (by simp)

/-- Every entry rebuilt leaves the settings of the statistics (R191). -/
theorem rebuildAll_settings (new : Tables) (s : State) :
    (rebuildAll new s).settings = s.settings :=
  foldl_part_same State.settings (fun y _ s => foldl_part_same State.settings (fun p _ s =>
    (runSteps_part State.settings (fun f hf => announceSteps_settings hf) _).trans
      (State.settings_of_xsu (by simp))) s) s

/-! ## The CMU's swap work on one entry (R76) -/

/-- The entry that the CMU's swap work starts from (R76). -/
def entryAtSwap (old : Tables) (c : Cmu) (z : Fin 16) (q : CondQ) : ZoneCond :=
  if old.zoneEnabled z then c.cond z q else ZoneCond.fresh

/-- The records and the band that the CMU's swap work rebuilds the entries from (R75, R77). -/
def recordsAtSwap (old new : Tables) (c : Cmu) : Cmu :=
  { c with sensors := sensorsAfterSwap old new c, band := bandAfterSwap new c }

/-- The entry that a swap leaves in an enabled zone (R76). -/
def entryAfterSwap (old new : Tables) (c : Cmu) (z : Fin 16) (q : CondQ) : ZoneCond :=
  rebuilt new (recordsAtSwap old new c) z q (entryAtSwap old c z q)

/-- The entries of zones that are not both enabled before and after are cleared (R76). -/
theorem clearedConds_get (old new : Tables) (c : Cmu) (z : Fin 16) (q : CondQ) :
    ((clearedConds old new c).get z).get q
      = if old.zoneEnabled z && new.zoneEnabled z then c.cond z q else ZoneCond.fresh := by
  simp only [clearedConds, Tab.get_mapIdx]
  split
  · rfl
  · cases q <;> rfl

/-- The CMU's swap work on an entry of an enabled zone, and its tracker (R76, R185). -/
theorem cmuSwap_entryView (enabled : new.zoneEnabled z = true) (s : State) :
    let was := entryAtSwap old s.cmu z q
    let e := entryAfterSwap old new s.cmu z q
    (cmuSwap old new s).cmu.cond z q = e
      ∧ (cmuSwap old new s).xsu.tracker z q
        = if was.reportable e then (s.xsu.tracker z q).reported (s.xsu.selects z) e
          else s.xsu.tracker z q := by
  intro was e
  obtain ⟨w, before, after⟩ := rebuildAll_entryView (q := q) enabled (s.setCmu
    { recordsAtSwap old new s.cmu with
      conds := clearedConds old new s.cmu
      alert := alertLevel new
        { recordsAtSwap old new s.cmu with conds := clearedConds old new s.cmu } })
  have start : _ = ((clearedConds old new s.cmu).get z).get q :=
    congrArg (fun v => v.2.2.1) before
  have sensors : w.cmu.sensors = sensorsAfterSwap old new s.cmu := congrArg Prod.fst before
  have band : w.cmu.band = bandAfterSwap new s.cmu := congrArg (fun v => v.2.1) before
  have tracker : w.xsu.tracker z q = s.xsu.tracker z q := congrArg (fun v => v.2.2.2.1) before
  have selects : w.xsu.selects z = s.xsu.selects z := congrArg (fun v => v.2.2.2.2) before
  have cond : w.cmu.cond z q = was := by
    refine Eq.trans start ((clearedConds_get ..).trans ?_)
    rw [enabled, Bool.and_true]
    rfl
  have made : rebuilt new w.cmu z q was = e :=
    congrArg (clearFollowing _) (entryAfter_congr (d := recordsAtSwap old new s.cmu) sensors band ..)
  have view := after.trans (rebuildEntry_entryView w)
  rw [cond, made, tracker, selects] at view
  exact ⟨congrArg (fun v => v.2.2.1) view, congrArg (fun v => v.2.2.2.1) view⟩

/-- The CMU's swap work on an entry of a zone that is not enabled, and its tracker (R76). -/
theorem cmuSwap_entryView_of_disabled (disabled : new.zoneEnabled z = false) (s : State) :
    (cmuSwap old new s).cmu.cond z q = ZoneCond.fresh
      ∧ (cmuSwap old new s).xsu.tracker z q = s.xsu.tracker z q := by
  have view := rebuildAll_entryView_of_disabled (q := q) disabled (s.setCmu
    { recordsAtSwap old new s.cmu with
      conds := clearedConds old new s.cmu
      alert := alertLevel new
        { recordsAtSwap old new s.cmu with conds := clearedConds old new s.cmu } })
  have cleared : ((clearedConds old new s.cmu).get z).get q = ZoneCond.fresh := by
    rw [clearedConds_get, disabled, Bool.and_false]
    rfl
  exact ⟨(congrArg (fun v => v.2.2.1) view).trans cleared, congrArg (fun v => v.2.2.2.1) view⟩

/-! ## One entry after every block's swap work (R76, R185, R191) -/

/-- The Condition Monitor, with a tracker and its zone's selection. -/
def State.trackerView (z : Fin 16) (q : CondQ) (s : State) : Cmu × Tracker × Bool :=
  (s.cmu, s.xsu.tracker z q, s.xsu.selects z)

theorem State.trackerView_of_blocks (cmu : u.cmu = s.cmu) (xsu : u.xsu = s.xsu) :
    u.trackerView z q = s.trackerView z q := by
  rw [State.trackerView, State.trackerView, cmu, xsu]

/-- The trackers after the XSU's swap work (R191). -/
theorem xsuSwap_tracker (old new : Tables) (z : Fin 16) (q : CondQ) (s : State) :
    (xsuSwap old new s).xsu.tracker z q
      = if old.zoneEnabled z && !new.zoneEnabled z then Tracker.fresh else s.xsu.tracker z q := by
  simp only [xsuSwap, Xsu.tracker, State.setXsu_xsu, Tab.get_mapIdx]
  split <;> simp

/-- Of the blocks the CMU and the XSU alone move the statistics at a swap (R76, R191). -/
theorem swapWork_xsu (cmu : b ≠ .cmu) (xsu : b ≠ .xsu) (s : State) :
    (swapWork old new b s).xsu = s.xsu := by
  cases b <;> simp [swapWork] at *

/-- Only the CMU's swap work moves what is seen of an entry of an enabled zone (R76, R191). -/
theorem swapWork_trackerView (enabled : new.zoneEnabled z = true) (other : b ≠ .cmu) (s : State) :
    (swapWork old new b s).trackerView z q = s.trackerView z q := by
  by_cases xsu : b = .xsu
  · subst xsu
    refine Prod.ext (swapWork_cmu (old := old) (new := new) other s) (Prod.ext ?_ rfl)
    change (xsuSwap old new s).xsu.tracker z q = s.xsu.tracker z q
    rw [xsuSwap_tracker, enabled, Bool.not_true, Bool.and_false]
    rfl
  · exact State.trackerView_of_blocks (swapWork_cmu other s) (swapWork_xsu other xsu s)

/-- An entry of an enabled zone and its tracker after a swap (R76, R185). -/
theorem swapWorks_entry (enabled : new.zoneEnabled z = true) (s : State) :
    let was := entryAtSwap old s.cmu z q
    let e := entryAfterSwap old new s.cmu z q
    (swapWorks old new s).cmu.cond z q = e
      ∧ (swapWorks old new s).xsu.tracker z q
        = if was.reportable e then (s.xsu.tracker z q).reported (s.xsu.selects z) e
          else s.xsu.tracker z q := by
  obtain ⟨w, before, after⟩ := swapAll_part (State.trackerView z q) (old := old) (new := new)
    (fun b other s => swapWork_trackerView enabled other s)
    (fun s => State.trackerView_of_blocks (by simp) (by simp)) s.order.swapPlan_nodup (b := .cmu)
    (by simp [Order.mem_swapPlan, swapBlocks]) false s
  obtain ⟨cond, told⟩ := cmuSwap_entryView (old := old) (q := q) enabled w
  have cmu : w.cmu = s.cmu := congrArg Prod.fst before
  have tracker : w.xsu.tracker z q = s.xsu.tracker z q := congrArg (fun v => v.2.1) before
  have selects : w.xsu.selects z = s.xsu.selects z := congrArg (fun v => v.2.2) before
  rw [cmu] at cond told
  rw [tracker, selects] at told
  exact ⟨(congrArg (fun v => v.1.cond z q) after).trans cond,
    (congrArg (fun v => v.2.1) after).trans told⟩

/-- An entry of a zone that is not enabled after a swap (R76). -/
theorem swapWorks_entry_of_disabled (disabled : new.zoneEnabled z = false) (s : State) :
    (swapWorks old new s).cmu.cond z q = ZoneCond.fresh := by
  obtain ⟨w, -, swapped⟩ := swapWorks_cmu old new s
  rw [swapped]
  exact (cmuSwap_entryView_of_disabled disabled w).1

/-- A tracker of a zone that is not enabled after a swap (R191). -/
theorem swapWorks_tracker_of_disabled (disabled : new.zoneEnabled z = false) (s : State) :
    (swapWorks old new s).xsu.tracker z q
      = if old.zoneEnabled z then Tracker.fresh else s.xsu.tracker z q := by
  obtain ⟨w, before, after⟩ := swapAll_part (fun s => s.xsu.tracker z q) (old := old) (new := new)
    (fun b other s => by
      by_cases cmu : b = .cmu
      · subst cmu
        exact (cmuSwap_entryView_of_disabled disabled s).2
      · exact congrArg (Xsu.tracker · z q) (swapWork_xsu cmu other s))
    (fun s => by simp) s.order.swapPlan_nodup (b := .xsu)
    (by simp [Order.mem_swapPlan, swapBlocks]) false s
  refine after.trans ((xsuSwap_tracker old new z q w).trans ?_)
  rw [before, disabled, Bool.not_false, Bool.and_true]

/-- The settings of the statistics after a swap (R191). -/
theorem swapWorks_settings (old new : Tables) (s : State) :
    (swapWorks old new s).settings = s.settings :=
  swapAll_keeps (fun s u => u.settings = s.settings) (fun _ => rfl) (fun _ _ _ h g => g.trans h)
    (fun b _ s => by
      by_cases cmu : b = .cmu
      · subst cmu
        exact rebuildAll_settings new _
      · by_cases xsu : b = .xsu
        · subst xsu; rfl
        · exact State.settings_of_xsu (swapWork_xsu cmu xsu s))
    (fun s => State.settings_of_xsu (by simp)) false s

/-! ## What the entry rebuilt says (R67 to R69, R73) -/

/-- The latches of an entry rebuilt (R69, R76). -/
theorem rebuilt_latches (new : Tables) (c : Cmu) (z : Fin 16) (q : CondQ) (was : ZoneCond) :
    let now := rebuilt new c z q was
    now.lowLatch = (if now.low = .alarm then was.lowLatch || was.low != .alarm
        else was.lowLatch && !(new.zoneRec z).follows q)
      ∧ now.highLatch = (if now.high = .alarm then was.highLatch || was.high != .alarm
        else was.highLatch && !(new.zoneRec z).follows q) := by
  have latch (follows : Bool) (old side : SideClass) (x : Bool) :
      (latchAfter follows old side x && !(follows && side != .alarm))
        = if side = .alarm then x || old != .alarm else x && !follows := by
    rw [latchAfter_eq]
    cases side <;> cases follows <;> simp
  exact ⟨latch .., latch ..⟩

/-- ALERT stands where an enabled zone has an ALARM side or a set latch (R73). -/
theorem alertLevel_eq_true_iff (t : Tables) (c : Cmu) :
    alertLevel t c = true ↔ ∃ z q, t.zoneEnabled z = true
      ∧ ((c.cond z q).low = .alarm ∨ (c.cond z q).high = .alarm
        ∨ (c.cond z q).lowLatch = true ∨ (c.cond z q).highLatch = true) := by
  simp [alertLevel, t.mem_enabledZones, CondQ.mem_all, ZoneCond.alarms, or_assoc]

/-- ALERT after a swap (R73, R76). -/
theorem swapWorks_alert (old new : Tables) (s : State) :
    (swapWorks old new s).cmu.alert = alertLevel new (swapWorks old new s).cmu := by
  obtain ⟨w, -, swapped⟩ := swapWorks_cmu old new s
  rw [swapped]
  exact cmuSwap_alert ..

/-- The entries of enabled zones stand after a swap (R67, R68, R76). -/
theorem swapWorks_entryStands (enabled : new.zoneEnabled z = true) (s : State) :
    (swapWorks old new s).cmu.EntryStands new z q := by
  obtain ⟨sensors, band⟩ := swapWorks_records old new s
  have cond := (swapWorks_entry (old := old) (q := q) enabled s).1
  have same : entryAfter new (swapWorks old new s).cmu z q (entryAtSwap old s.cmu z q)
      = entryAfter new (recordsAtSwap old new s.cmu) z q (entryAtSwap old s.cmu z q) :=
    entryAfter_congr sensors band ..
  refine Cmu.entryStands_of_sides (old := entryAtSwap old s.cmu z q) ?_ ?_ ?_ <;>
    rw [cond, same] <;> rfl

end Sys2Proof.Machine

/-! PROOFS. The swap at a cycle close: what the close work of cycle n leaves for it (R45), and the swap
work of every block on that (R44, R47). -/

namespace Sys2Proof.Machine

open Sys2Proof

variable {t old new : Tables} {s u : State} {k : Fin 48} {o : SlotOutcome} {z : Fin 16} {b : Block}
  {f : State → State}

/-! ## What no close work moves -/

/-- Close work that leaves a part of the state in every step leaves it as a whole, the staged copy made
active in its course (R23, R44). -/
theorem closeWorkDone_same {α : Type} (part : State → α)
    (each : ∀ f ∈ closeSteps s.tbu.active (closeStart s), ∀ s, part (f s) = part s)
    (active : ∀ s, part (activate s) = part s) :
    part (closeWorkDone s) = part (closeStart s) :=
  (runSteps_part part (fun f hf => each f (List.mem_of_mem_drop hf)) _).trans
    ((active _).trans (runSteps_part part (fun f hf => each f (List.mem_of_mem_take hf)) _))

/-- The monitors, the band and the settings of the statistics. -/
def State.lasting (s : State) : Tab Monitor 4 × Option (Fin 35) × Bool × Half × PerQ Byte :=
  (s.dau.monitors, s.cmu.band, s.settings)

/-- The DAU's close work leaves the monitors (R84). -/
theorem dauClose_monitors {s0 : State} (hf : f ∈ closeWorkSteps t s0 .dau) (s : State) :
    (f s).dau.monitors = s.dau.monitors := by
  rcases mem_closeWorkSteps_dau.mp hf with ⟨a, -, hf⟩ | rfl | rfl
  · rcases mem_accrueSteps.mp hf with rfl | rfl | rfl
    · rfl
    · simp
    · simp
  · simp only [watchClose]
    split <;> simp
  · simp only [checkpointClose]
    split <;> simp

/-- The CMU's close work leaves the band and the settings of the statistics (R65). -/
theorem cmuClose_lasting {s0 : State} (hf : f ∈ closeWorkSteps t s0 .cmu) (s : State) :
    (f s).cmu.band = s.cmu.band ∧ (f s).settings = s.settings := by
  rcases mem_closeWorkSteps_cmu.mp hf with rfl | ⟨k, -, rfl⟩ | ⟨y, -, p, -, hf⟩
  · exact ⟨rfl, rfl⟩
  · exact ⟨by simp, State.settings_of_xsu (by simp)⟩
  · rcases mem_refreshSteps.mp hf with rfl | rfl | rfl
    · refine ⟨?_, State.settings_of_xsu (by simp)⟩
      simp only [changeEntry]
      split <;> rfl
    · exact ⟨by simp, tellStatistics_settings ..⟩
    · exact ⟨by simp, State.settings_of_xsu (by simp)⟩

/-- No close work moves monitors, band or settings (R45). -/
theorem closeWorkSteps_lasting {s0 : State} (hf : f ∈ closeWorkSteps t s0 b) (s : State) :
    (f s).lasting = s.lasting := by
  have monitors : (f s).dau.monitors = s.dau.monitors := by
    by_cases dau : b = .dau
    · subst dau; exact dauClose_monitors hf s
    · rw [closeWorkSteps_dau dau hf s]
  have rest : (f s).cmu.band = s.cmu.band ∧ (f s).settings = s.settings := by
    by_cases cmu : b = .cmu
    · subst cmu; exact cmuClose_lasting hf s
    · obtain ⟨cmuSame, xsuSame⟩ := closeWorkSteps_cmu cmu hf s
      exact ⟨by rw [cmuSame], State.settings_of_xsu xsuSame⟩
  rw [State.lasting, monitors, rest.1, rest.2]
  rfl

/-- Monitors, band and settings before a swap are those of the last hand-over (R45). -/
theorem closeWorkDone_lasting (s : State) : (closeWorkDone s).lasting = s.lasting :=
  closeWorkDone_same State.lasting (fun f hf s => by
      obtain ⟨b, -, hf⟩ := List.mem_flatMap.mp hf
      exact closeWorkSteps_lasting hf s)
    (fun s => by simp [State.lasting, State.settings])

/-- The actuators before a swap are those of the last hand-over (R45). -/
theorem closeWorkDone_cgu (s : State) : (closeWorkDone s).cgu = s.cgu :=
  closeWorkDone_same State.cgu (fun f hf s => (closeSteps_leaves _ _ f hf s).2.2.2.1)
    (fun s => by simp)

/-- The sensors' records before a swap have been aged on the tables of cycle n (R45, R65). -/
theorem closeWorkDone_sensors (s : State) :
    (closeWorkDone s).cmu.sensors = agedSensors s.tbu.active s.cmu := by
  obtain ⟨w, before, after⟩ := closeWorkDone_part (·.cmu.sensors) s (b := .cmu) (by decide)
    (fun c other f hf s => congrArg Cmu.sensors (closeWorkSteps_cmu other hf s).1)
    (fun f hf u v same => by
      rcases mem_closeWorkSteps_cmu.mp hf with rfl | ⟨k, -, rfl⟩ | ⟨y, -, p, -, hf⟩
      · exact agedSensors_congr same _
      · simpa using same
      · exact (refreshSteps_sensors hf u).trans (same.trans (refreshSteps_sensors hf v).symm))
    (fun s => by simp)
  exact after.trans ((cmuClose_sensors ..).trans (agedSensors_congr before _))

/-- A zone's hold before a swap has been counted down on the tables of cycle n (R45, R114). -/
theorem closeWorkDone_hold (s : State) (enabled : s.tbu.active.zoneEnabled z = true) :
    ((closeWorkDone s).zcu.zones.get z).hold
      = holdAfter (num s.tbu.active.bus.cycleInterval) (s.zcu.zones.get z).hold := by
  have timed := (closeWorkDone_presences s).2 z
  refine (congrArg (fun x => x.2.2) timed).trans ?_
  rw [ZoneDyn.afterClose, if_pos enabled]
  rfl

/-! ## The tables after the swap (R44, R47) -/

/-- The tables and the commit state after a close that swaps (R44, R47). -/
theorem cycleClose_tables (due : s.swapDue = true) (running : s.flc.state ≠ .stopped) :
    (cycleClose s).tbu.active = s.tbu.staged ∧ (cycleClose s).tbu.staged = s.tbu.staged
      ∧ (cycleClose s).tbu.swapCycle = none
      ∧ (cycleClose s).tbu.commit = if s.nvs.state = .failed then .idle else .storing := by
  let steps := closeSteps s.tbu.active (closeStart s)
  let n := s.order.swapAt.getD steps.length
  let before := runSteps (steps.take n) (closeStart s)
  have first : Keeps s.tbu.active s before :=
    (closeStart_work running).trans (closeSteps_part_work (fun f => List.mem_of_mem_take) _)
  have after : Keeps s.tbu.active (activate before) (closeWorkDone s) :=
    closeSteps_part_work (fun f => List.mem_of_mem_drop) _
  obtain ⟨active, staged, cycle⟩ := activate_tables before
  obtain ⟨activeNow, stagedNow, cycleNow⟩ :=
    swapWorks_tables s.tbu.active s.tbu.staged (closeWorkDone s)
  rw [after.tables] at activeNow stagedNow cycleNow
  rw [cycleClose_of_swapDue due]
  refine ⟨?_, ?_, cycleNow.trans cycle, (swap_commit after).trans ?_⟩
  · rw [activeNow, active, first.tables]
  · rw [stagedNow, staged, first.tables]
  · simp only [first.failed]

/-! ## The swap work of every block -/

/-- The latches of an entry of an enabled zone after a swap (R69, R76). -/
theorem swapWorks_latches (q : CondQ) (enabled : new.zoneEnabled z = true) (u : State) :
    let was := entryAtSwap old u.cmu z q
    let now := (swapWorks old new u).cmu.cond z q
    now.lowLatch = (if now.low = .alarm then was.lowLatch || was.low != .alarm
        else was.lowLatch && !(new.zoneRec z).follows q)
      ∧ now.highLatch = (if now.high = .alarm then was.highLatch || was.high != .alarm
        else was.highLatch && !(new.zoneRec z).follows q) := by
  rw [(swapWorks_entry enabled u).1]
  exact rebuilt_latches ..

/-- The tracker of an entry of an enabled zone after a swap (R185, R191). -/
theorem swapWorks_tracker (q : CondQ) (enabled : new.zoneEnabled z = true) (u : State) :
    let was := entryAtSwap old u.cmu z q
    let now := (swapWorks old new u).cmu.cond z q
    (swapWorks old new u).xsu.tracker z q =
      if was.low = now.low ∧ was.high = now.high ∧ was.coverage = now.coverage then
        u.xsu.tracker z q
      else (changeReport z q now u).xsu.tracker z q := by
  intro was now
  obtain ⟨cond, tracker⟩ := swapWorks_entry (old := old) (q := q) enabled u
  rw [tracker, ← cond, changeReport_xsu, Xsu.tracker_reported, if_pos rfl]
  change (if was.reportable now then _ else _) = _
  by_cases same : was.low = now.low ∧ was.high = now.high ∧ was.coverage = now.coverage
  · rw [if_pos same, (was.reportable_eq_false_iff now).mpr same]
    rfl
  · rw [if_neg same, if_pos]
    rw [← was.reportable_eq_false_iff now, Bool.not_eq_false] at same
    exact same

/-- A zone that stays enabled after a swap (R119). -/
theorem swapWorks_zone_kept (was : old.zoneEnabled z = true) (is : new.zoneEnabled z = true)
    (u : State) :
    let r := u.zcu.zones.get z
    let r' := (swapWorks old new u).zcu.zones.get z
    let same := ∀ n, n ∈ presenceNodes old z ↔ n ∈ presenceNodes new z
    r'.hold = r.hold
      ∧ (same → r'.count = r.count
        ∧ r'.presence = presenceOf r.count (num (new.zoneRec z).vacancyHold))
      ∧ (¬ same → r'.count = 0 ∧ r'.presence = .occupied) := by
  intro r r' same
  have timed : r'.timed = (r.afterSwap old new z).timed := swapWorks_timed old new u z
  simp only [ZoneDyn.timed, Prod.mk.injEq] at timed
  obtain ⟨presence, count, hold⟩ := timed
  rw [presence, count, hold]
  by_cases sameNodes : same
  · rw [ZoneDyn.afterSwap_kept was is sameNodes]
    exact ⟨rfl, fun _ => ⟨rfl, rfl⟩, fun moved => absurd sameNodes moved⟩
  · rw [ZoneDyn.afterSwap_moved was is sameNodes]
    exact ⟨rfl, fun same => absurd same sameNodes, fun _ => ⟨rfl, rfl⟩⟩

/-- Every block's swap work is what R75 to R77, R104, R105, R119, R120, R144, R146 and R191 say. -/
theorem swapWorks_done (old new : Tables) (u : State) :
    SwapWorkDone old new u (finish (swapWorks old new u)) where
  sensor_fresh k q senses unmatched :=
    (congrArg (Tab.get · k) (swapWorks_records old new u).1).trans
      (sensorsAfterSwap_fresh senses unmatched)
  sensor_kept k j r held senses node only := by
    obtain ⟨sensors, band⟩ := swapWorks_records old new u
    obtain ⟨lost, kept⟩ := r.kept_eq (old := old) (new := new) (j := j) (k := k)
      (bandAfterSwap new u.cmu)
    have here : (swapWorks old new u).cmu.sensors.get k = _ :=
      (congrArg (Tab.get · k) sensors).trans (sensorsAfterSwap_kept held senses node only)
    rw [← band] at lost kept here
    exact ⟨fun h => here.trans (congrArg some (lost h)), fun h => here.trans (congrArg some (kept h))⟩
  sensor_gone k senses :=
    (congrArg (Tab.get · k) (swapWorks_records old new u).1).trans (sensorsAfterSwap_gone senses)
  band_kept k j r senses only held outdoor node :=
    (swapWorks_records old new u).2.trans (bandAfterSwap_kept senses only held outdoor node)
  band_lost unmatched := (swapWorks_records old new u).2.trans (bandAfterSwap_lost unmatched)
  entry_fresh z q disabled := swapWorks_entry_of_disabled disabled u
  entry_stands z q enabled := swapWorks_entryStands enabled u
  entry_latches z q enabled := swapWorks_latches q enabled u
  alert := by
    rw [← alertLevel_eq_true_iff]
    exact Bool.coe_iff_coe.mpr (swapWorks_alert old new u)
  account_disabled a was is := by
    change (swapWorks old new u).dau.accounts.get a = _
    rw [swapWorks_dau, Dau.swapped_account, AccountDyn.afterSwap, was, is]
  account_enabled a was is := by
    change (swapWorks old new u).dau.accounts.get a = _
    rw [swapWorks_dau, Dau.swapped_account, AccountDyn.afterSwap, was, is]
  account_kept a was is := by
    change (swapWorks old new u).dau.accounts.get a = _
    rw [swapWorks_dau, Dau.swapped_account]
    exact AccountDyn.afterSwap_kept was is _
  account_unused a was is := by
    change (swapWorks old new u).dau.accounts.get a = _
    rw [swapWorks_dau, Dau.swapped_account, AccountDyn.afterSwap, was, is]
  monitors_lapsed := by
    change (∀ i e, _ → (swapWorks old new u).dau.monitors.get i = _)
      ∧ (∀ i e, (swapWorks old new u).dau.monitors.get i ≠ _) ∧ (swapWorks old new u).dau.ledger = _
      ∧ (swapWorks old new u).dau.dateWatch = _ ∧ (swapWorks old new u).dau.dateStale = _
      ∧ (swapWorks old new u).dau.checkpointCounter = _
    rw [swapWorks_dau]
    obtain ⟨lapsed, noneOpen⟩ := u.dau.swapped_monitors old new
    exact ⟨lapsed, noneOpen, rfl, rfl, rfl, rfl⟩
  zone_disabled z was is := by
    change (swapWorks old new u).zcu.zones.get z = _
    rw [swapWorks_zone, is, ZoneDyn.afterSwap, was, is]
    rfl
  zone_enabled z was is := by
    have timed := swapWorks_timed old new u z
    rw [ZoneDyn.afterSwap, was, is] at timed
    simpa [ZoneDyn.timed] using timed
  zone_kept z was is := swapWorks_zone_kept was is u
  zone_unused z was is := by
    change (swapWorks old new u).zcu.zones.get z = _
    rw [swapWorks_zone, is, ZoneDyn.afterSwap, was, is]
    rfl
  ceiling_stands z enabled := by
    change ((swapWorks old new u).zcu.zones.get z).CeilingStands new (swapWorks old new u).dau z
    rw [swapWorks_zone, if_pos enabled]
    exact ZoneDyn.computed_stands ..
  flags_clear k := by
    change (swapWorks old new u).zcu.vacantSeen.get k = false
    rw [swapWorks_zcu]
    exact Tab.get_fill ..
  actuator_fresh k kind z acts zone unmatched :=
    (congrArg (·.actuators.get k) (swapWorks_cgu old new u)).trans
      (Cgu.swapped_fresh acts zone unmatched)
  actuator_kept k j r z held acts node zone only :=
    (congrArg (·.actuators.get k) (swapWorks_cgu old new u)).trans
      ((Cgu.swapped_kept held acts node zone only).trans (congrArg some (heldToLimit_eq ..)))
  actuator_gone k acts :=
    (congrArg (·.actuators.get k) (swapWorks_cgu old new u)).trans (Cgu.swapped_gone acts)
  tracker_fresh z q was is :=
    (swapWorks_tracker_of_disabled is u).trans (if_pos was)
  tracker_kept z q enabled := swapWorks_tracker q enabled u
  tracker_unused z q was is :=
    (swapWorks_tracker_of_disabled is u).trans (if_neg (by rw [was]; nofun))
  settings_kept := by
    have settings := swapWorks_settings old new u
    simpa [State.settings] using settings

/-! ## Settles O28 -/

/-- The revision and the extension of an account that a swap finds (R45). -/
theorem closeWorkDone_marks (s : State) (a : Fin 64) :
    ((closeWorkDone s).dau.accounts.get a).revision = (s.dau.accounts.get a).revision
      ∧ ((closeWorkDone s).dau.accounts.get a).extension = (s.dau.accounts.get a).extension := by
  rw [closeWorkDone_account]
  split
  · obtain ⟨revision, extension, -⟩ :=
      AccountDyn.accrued_keeps s.tbu.active s.cmu.sensors a (s.dau.accounts.get a)
    exact ⟨revision, extension⟩
  · exact ⟨rfl, rfl⟩

/-- Settles O28: the tables from the close's own account of them, and each block's work from what the
close work of cycle n has left. -/
theorem swapMakesStagedActive : Obligations.SwapMakesStagedActive := by
  unfold Obligations.SwapMakesStagedActive
  intro s k o ends last awaited cycle s1 u
  have tbu : s1.tbu = s.tbu := by simp [s1]
  have nvs : s1.nvs = s.nvs := by simp [s1]
  have due : s1.swapDue = true := by
    rw [swapDue_recordAndHandOver]
    simp [State.swapDue, awaited, cycle]
  have running : s1.flc.state ≠ .stopped := fun stopped => by
    have still := (recordAndHandOver_work k o s rfl).stopped.mp stopped
    rw [Flc.state_of_ending (Flc.ending_of_ends ends)] at still
    cases still
  obtain ⟨active, staged, swapCycle, commit⟩ := cycleClose_tables due running
  rw [tbu] at active staged
  rw [nvs] at commit
  have lasting := closeWorkDone_lasting s1
  simp only [State.lasting, State.settings, Prod.mk.injEq] at lasting
  obtain ⟨monitors, band, enable, mask, combine⟩ := lasting
  have sensors (j : Fin 48) (isSensor : (s.tbu.active.slots.get j).isSensor = true) :
      u.cmu.sensors.get j
        = (s1.cmu.sensors.get j).map (·.afterClose (num s.tbu.active.bus.staleLimit)) := by
    rw [closeWorkDone_sensors, tbu, agedSensors, Tab.get_mapIdx, if_pos isSensor]
  have hold (z : Fin 16) (enabled : s.tbu.active.zoneEnabled z = true) :
      (u.zcu.zones.get z).hold = (s1.zcu.zones.get z).hold.bind fun h =>
        if h ≤ num s.tbu.active.bus.cycleInterval then none
        else some (h - num s.tbu.active.bus.cycleInterval) := by
    rw [closeWorkDone_hold s1 (by rw [tbu]; exact enabled), tbu]
    cases (s1.zcu.zones.get z).hold <;> rfl
  have done : SwapWorkDone s.tbu.active s.tbu.staged u (finish (cycleClose s1)) := by
    rw [cycleClose_of_swapDue due, tbu]
    exact swapWorks_done ..
  refine ⟨finish (cycleClose s1), (exec_slotEnd ends).trans (by rw [slotEnd_of_last o last]),
    active, staged, swapCycle, commit, by simp [Flc.closed], by simp [s1], by simp [s1],
    closeWorkDone_cgu s1, monitors, band, congrArg Prod.fst (closeWorkDone_dates s1), enable, mask,
    combine, closeWorkDone_marks s1, sensors, hold, done⟩

end Sys2Proof.Machine
